-- ==== Sys2Proof/Word.lean ====
section
/-! DEFINITION. The widths the model computes with, and their plainest arithmetic. -/
namespace Sys2Proof

/-- One byte of an image, a packet, a ring entry or a frame. -/
abbrev Byte := BitVec 8

/-- A byte string: an image, a packet, a record. -/
abbrev Bytes := List Byte

/-- The 72-bit word of R57: bits [63:0] the value, bits [71:64] the qualifier. -/
abbrev W72 := BitVec 72

/-- The 64-bit value of a word. -/
abbrev Val := BitVec 64

/-- A 32-bit register. -/
abbrev Reg := BitVec 32

/-- The two lanes; also their barrier links and sequencers (lane A, BLA, FA; lane B, BLB, FB), R16 and R21. -/
inductive Lane where
  | a
  | b
deriving DecidableEq, Repr

/-- The other lane. -/
def Lane.other : Lane → Lane
  | .a => .b
  | .b => .a

/-- The two halves of the Riddle, R113. -/
inductive Half where
  | rh0
  | rh1
deriving DecidableEq, Repr

/-- The other half. -/
def Half.other : Half → Half
  | .rh0 => .rh1
  | .rh1 => .rh0

/-- 1 for true, 0 for false. -/
def b2n (b : Bool) : Nat := if b then 1 else 0

/-- 2 to the power of n. -/
def pow2 (n : Nat) : Nat := 2 ^ n

/-- Is bit i of x set? -/
def nbit (x i : Nat) : Bool := (x / 2 ^ i) % 2 == 1

/-- Bits [hi:lo] of a natural number. -/
def nbits (x hi lo : Nat) : Nat := (x / 2 ^ lo) % 2 ^ (hi + 1 - lo)

/-- A counter that holds its greatest value rather than wrap. -/
def satAdd {w : Nat} (x : BitVec w) (n : Nat) : BitVec w :=
  BitVec.ofNat w (min (x.toNat + n) (2 ^ w - 1))

/-- The greater of two register values. -/
def bvMax {w : Nat} (x y : BitVec w) : BitVec w := if x.toNat < y.toNat then y else x

/-- The smaller of two register values. -/
def bvMin {w : Nat} (x y : BitVec w) : BitVec w := if y.toNat < x.toNat then y else x

end Sys2Proof
end

