-- ==== Sys2Proof/Syntax.lean ====
section
/-! DEFINITION. The commands of the block: one constructor of Instr per row of the table of operations and events.
A command's operands are what the environment supplies: measurements, outcomes of physical tests, bytes received
or read by DMA, and the offset and value of a register write. -/
namespace Sys2Proof

/-- Names an outstanding host command: its ring (0 CMDH, 1 CMDN) and its tag (R322). -/
structure CmdRef where
  ring : Nat
  tag : BitVec 16
deriving DecidableEq, Repr

/-- The difference that a half shows in an injection beside the one injected (R121): half, path (0 A, 1 B, 2 K), index, and the bits. -/
structure InjErr where
  half : Half
  path : Nat
  index : Nat
  bits : BitVec 72
deriving DecidableEq, Repr

/-- One 10 µs sample of an input by one sequencer (R154, R155, R157): its instant, the pin voltage in mV, the input current in µA, whether
the bound source's terminal is low, and the feed of the source's bank in units of 0.1 V. -/
structure InSample where
  tb : BitVec 64
  mv : Int
  ua : Nat
  low : Bool
  feed : Nat
deriving DecidableEq, Repr

/-- A low pulse as a sequencer sees it on a source terminal (R165): its width in 10 ns ticks and the level at its end in mV. -/
structure Pulse where
  width : Nat
  lowMv : Nat
deriving DecidableEq, Repr

/-- A source terminal over one slot as one sequencer sees it (R165): the pulse in each half, if there is one, and the high level in mV. -/
structure TermObs where
  early : Option Pulse
  late : Option Pulse
  highMv : Nat
deriving DecidableEq, Repr

/-- One source's terminal over one slot, as FA and as FB see it (R165). -/
structure SrcSlot where
  src : Nat
  a : TermObs
  b : TermObs
deriving DecidableEq, Repr

/-- TB, pin voltage in mV and input current in µA of one sample. -/
structure Reading where
  tb : BitVec 64
  mv : Int
  ua : Nat
deriving DecidableEq, Repr

/-- One input over one slot as one sequencer sees it (R167): the last unmasked sample before the first pulse window, the last sample before
the bound source's terminal is high again, and the first unmasked sample after the second window. -/
structure InSlot where
  lane : Lane
  ch : Nat
  before : Reading
  low : Reading
  after : Reading
deriving DecidableEq, Repr

/-- What FA and FB read in a step of a single-switch test (R186), in mV: the midpoint and the pin. -/
structure SwitchTest where
  ch : Nat
  step : Nat
  midA : Nat
  pinA : Nat
  midB : Nat
  pinB : Nat
deriving DecidableEq, Repr

/-- What the tests of a start-up step show (R363). Only the fields of the step in progress are read. -/
structure StepObs where
  /-- Steps 1, 2 and 7: supply and PLL locks, ROM check, converters and training. -/
  ok : Bool
  /-- Step 5: the BIST of lane A passed. -/
  bistA : Bool
  /-- Step 5: the BIST of lane B passed. -/
  bistB : Bool
  /-- Step 6: what faults of the halves add to the difference vectors of the injections (R121). -/
  injErrs : List InjErr
  /-- Step 8: the lowest feed of each bank from the start of the step to the end of its tests, in units of 0.1 V, as FA measures it. -/
  feedA : List Nat
  /-- The same for FB. -/
  feedB : List Nat
  /-- Step 8: the steps of the single-switch tests that have run (R186); a channel that is not named reads as a good one. -/
  tests : List SwitchTest
  /-- Step 9: what the terminals of the sources show in their check (R166); one that is not named shows nothing. -/
  srcs : List SrcSlot
  /-- Step 3: how many bits the Hedge blows of a new identity key before VDD fails, if it does (R391). -/
  keyStop : Option Nat
  /-- VDD at the lands in mV. -/
  vddMv : Nat
deriving DecidableEq, Repr

/-- What is measured at a frame start F(n). -/
structure FrameObs where
  /-- Feed of each bank in units of 0.1 V, as FA measures it (R190). -/
  feedA : List Nat
  /-- The same for FB. -/
  feedB : List Nat
  /-- Output current of each bank in mA (R195). -/
  bankCur : List Nat
  /-- Output current of each source in units of 0.1 mA (R172). -/
  srcCur : List Nat
  /-- Current of each channel in mA (R204). -/
  chCur : List Nat
  /-- Channels with a switch in current limit. -/
  limit : BitVec 96
  /-- Channels whose midpoint is above 5 V at FA's last unmasked sample. -/
  mid : BitVec 96
  /-- Readback of every output by FA: the last unmasked sample (R182). -/
  rbA : BitVec 96
  /-- Readback of every output by FB. -/
  rbB : BitVec 96
  /-- Lag of lane B's frame start behind F(n), in 10 ns ticks (R49). -/
  lagB : Nat
deriving DecidableEq, Repr

/-- Bits of one committed word of a context that a fault of a lane turns over as the lane writes it (R132). -/
structure WordFlip where
  ctx : Nat
  off : Nat
  bits : BitVec 72
deriving DecidableEq, Repr

/-- A lane's evaluation of a frame (R38, R52): the cycles that it took, and what a fault turned over in the words that it wrote. -/
structure EvalObs where
  cycles : Nat
  flips : List WordFlip
deriving DecidableEq, Repr

/-- One function's replay as the decision instant finds it (R137): its context, whether it finished, and what a fault of each lane turns
over in the words that its replay writes. -/
structure ReplayObs where
  ctx : Nat
  finished : Bool
  flipsA : List WordFlip
  flipsB : List WordFlip
deriving DecidableEq, Repr

/-- What a crossing or a fault makes of a signature on its way to a half (R113, R119). -/
inductive SigFate where
  /-- It arrives. -/
  | arrives
  /-- It never arrives. -/
  | lost
  /-- It arrives, and is delivered once more. -/
  | twice
deriving DecidableEq, Repr

/-- The bits of its tag and of itself that a fault turns over on that way. -/
structure SigErr where
  tag : BitVec 16
  sig : BitVec 72
deriving DecidableEq, Repr

/-- The crossings of R18 that can stall. -/
inductive Crossing where
  | laneAB
  | riddle
  | laneBus (l : Lane)
  | laneBl (l : Lane)
  /-- The connection whose frame is affected. -/
  | laneNet (l : Lane) (conn : BitVec 32)
  | host (isRead : Bool) (address : BitVec 32)
  | hedge (tag : BitVec 32)
  /-- The host or Hedge crossing acknowledges again. -/
  | cleared
deriving DecidableEq, Repr

/-- The clock faults of R20. -/
inductive ClockCause where
  | pllA
  | pllB
  | crystal
  /-- A lane measured a deviation, in parts per million of T_F. -/
  | deviation (l : Lane) (ppm : Int)
deriving DecidableEq, Repr

/-- The levels of a port's signals A, B and Z in one sample of 100 MHz (R207). -/
structure Levels where
  a : Bool
  b : Bool
  z : Bool
deriving DecidableEq, Repr

/-- A cause of an input channel by its code (R170). -/
structure InCause where
  ch : Nat
  cause : Nat
deriving DecidableEq, Repr

/-- A cause of an axis by its code, of one of its ports (R216). -/
structure PortCause where
  port : Nat
  cause : Nat
deriving DecidableEq, Repr

/-- What a host-island reset comes from (R341). -/
inductive HostReset where
  | perstn
  | hotReset
  | flr
deriving DecidableEq, Repr

/-- What stops DMA (R341). -/
inductive DmaStop where
  | d3hot
  | linkDown
  | busMasterOff
deriving DecidableEq, Repr

/-- How a KSL frame arrives (R231, R261): by a port, with the addresses around it, or through the tunnel. -/
inductive Carrier where
  | raw (port : Nat) (dst src : BitVec 48)
  | udp (port : Nat) (src : BitVec 48) (dstIp srcIp : BitVec 32) (dstPort : Nat)
  | tunnel
deriving DecidableEq, Repr

/-- What an Announce tells of a grandmaster, by which the best master clock algorithm compares clocks (R265). -/
structure PtpClock where
  priority1 : Nat
  clockClass : Nat
  accuracy : Nat
  variance : Nat
  priority2 : Nat
  gm : BitVec 64
  steps : Nat
deriving DecidableEq, Repr

/-- A PTP message as the clock takes it in (R265). The servo's measurement follows IEEE 1588-2019; what it concludes from the message is given
here. -/
structure PtpMsg where
  port : Nat
  /-- IEEE 1588 messageType: 0 Sync, 1 Delay_Req, 8 Follow_Up, 9 Delay_Resp, 11 Announce. -/
  kind : Nat
  /-- domainNumber (R264). -/
  domain : Nat
  /-- sourcePortIdentity: the sender's clockIdentity and port number. -/
  src : BitVec 64
  srcPort : Nat
  /-- The dataset of an Announce. -/
  ann : Option PtpClock
  /-- A new offset measurement in ns, if the message completes one. -/
  offset : Option Int
  /-- Mean path delay in ns. -/
  mpd : Nat
  /-- The rate correction that the servo takes, in parts per 10^9. -/
  rate : Int
deriving DecidableEq, Repr

/-- Why a received Ethernet frame is discarded (R257, R260, R261, R262, R268). -/
inductive NetDrop where
  | notForUs
  | overflow
  | badFrame
  | ownAddress
  | prpDuplicate
deriving DecidableEq, Repr

/-- An Ethernet frame in the line forwarding (R258, R259): its addresses, its IEEE 802.1Q tag (PCP, VID) if it has one, and its bytes from
the EtherType on, without the FCS. -/
structure EthFrame where
  dst : BitVec 48
  src : BitVec 48
  tag : Option (Nat × Nat)
  body : Bytes
deriving DecidableEq, Repr

/-- Where the temperature leaves its range (R131): in reset or later. -/
inductive TempState where
  | outOfRange
  | backInRange
deriving DecidableEq, Repr

/-- The commands, in the order of the table. -/
inductive Instr where
  -- resets and start-up
  | powerOnReset
  | brownOut
  | resetnLow
  | supplyRetry
  | startupStepDone (o : StepObs)
  | startupTimeout
  | bankQualified (b : Nat)
  | singleSwitchTestDone (ch step midA pinA midB pinB : Nat)
  | sswTestDue (ch : Nat)
  | sswOverdue (ch : Nat)
  | hostIslandReset (k : HostReset)
  | hostDmaStop (k : DmaStop)
  | hostDmaResume
  -- frames, evaluation, the Riddle, faults
  | frameStart (o : FrameObs)
  | blLatchMiss (l : Lane)
  | frameEvaluation (l : Lane) (o : EvalObs)
  | checkpointWaitEnd (l : Lane)
  | signatureArrival (h : Half) (l : Lane) (fate : SigFate) (err : SigErr) (kErr : BitVec 72)
  | frameOverrun (l : Lane)
  | commitLate (h : Half) (ctx : Nat)
  | commitInstant
  | diagDecision (bistA bistB : Bool) (reps : List ReplayObs)
  | laneMemoryError (l : Lane)
  | fallowExpired (ctx : Nat)
  | crossingStall (c : Crossing)
  | clockFault (c : ClockCause)
  | bMark (interval countB : Nat)
  -- barrier links
  | blPacketSend (l : Lane)
  | blDownlinkRx (l : Lane) (p : Bytes)
  | blUplinkRx (l : Lane) (p : Bytes)
  | blSilenceSequencer (l : Lane)
  | blFault (l : Lane)
  | blTraining (l : Lane) (answer : Bytes)
  | blTrainRetry
  -- field inputs and test-pulse sources
  | inputFilterAccept (l : Lane) (ch : Nat) (samples : List InSample)
  | bandRunFault (l : Lane) (ch : Nat) (samples : List InSample)
  | inputDisagree (ch : Nat)
  | inputFaultClear (c : InCause)
  | testPulseSlot (srcs : List SrcSlot) (ins : List InSlot)
  | codeCauseFinal (l : Lane) (ch : Nat)
  | sourceOverload (i : Nat)
  | sourceRestart (i : Nat)
  | sourceCheck (i : Nat) (a b : TermObs)
  -- outputs and banks
  | readbackFault (l : Lane) (ch : Nat)
  | midpointFault (l : Lane) (ch : Nat)
  | gangFault (ch : Nat)
  | shortCircuit (l : Lane) (ch : Nat)
  | thermalShutdown (l : Lane) (ch : Nat)
  | thermalCooled (l : Lane) (ch : Nat)
  | outputFaultClear (ch : Nat)
  | offPulse (l : Lane) (ch : Nat)
  | offPulseJudge (l : Lane) (ch : Nat) (pinOff : Bool)
  | offPulseRepeat (l : Lane) (ch : Nat)
  | rideThroughExpiry (l : Lane) (b : Nat)
  | bankOvercurrent (l : Lane) (b : Nat)
  | bankMonitorFault (b : Nat)
  | bankFeedRecovery (b : Nat)
  -- Safe Motion Unit
  | encoderEdge (ax port : Nat) (x : List Levels) (inA inB : Bool)
  | encoderWireFault (l : Lane) (ax port : Nat)
  | xcheckFault (ax : Nat)
  | axisFaultClear (ax : Nat) (c : PortCause)
  -- Keapor Safety Layer
  | kslFrameRx (c : Carrier) (f : Bytes)
  | connTimeout (i : Nat)
  | connCheckFault (i : Nat)
  | syncRequest (i : Nat)
  -- cuttings
  | takeover (fid : Nat)
  | reclaim (fid : Nat)
  | holdExpired (fid : Nat)
  | leaseLate (fid : Nat)
  -- CONTROL messages and the Planter
  | join (node : Nat) (m : Bytes)
  | digestLo (node : Nat) (m : Bytes)
  | digestHi (node : Nat) (m : Bytes)
  | accept (node : Nat) (m : Bytes)
  | planDone (timeUs : Nat) (kErrs : List (Half × Nat × BitVec 72))
  | planJoin
  | rejoinStart
  -- mode changes
  | modeAnn (node : Nat) (m : Bytes)
  | modeCancel (node : Nat) (m : Bytes)
  | modeState (node : Nat) (m : Bytes)
  | modeApply
  | modeWindowEnd
  -- network and synchronised time
  | ptpMessageRx (m : PtpMsg)
  | syncLost
  | linkChange (port : Nat) (up : Bool) (speed : Nat)
  | prpLanSilent (lan : Nat)
  | prpSupervision
  | arpRequest (port : Nat) (targetIp : BitVec 32) (senderMac : BitVec 48) (senderIp : BitVec 32)
  | netFrameDrop (port : Nat) (why : NetDrop)
  -- rings and commands of the host
  | doorbell (r : Nat) (v : BitVec 32)
  | commandFetch (ring : Nat) (entry : Bytes)
  | completionWrite
  | nop (c : CmdRef)
  | loadCfg (c : CmdRef) (pass1 pass2 : Bytes)
  | verifyCfg (c : CmdRef)
  | activateCfg (c : CmdRef)
  | readPlan (c : CmdRef)
  | acceptPlan (c : CmdRef) (buf : Bytes)
  | modeReq (c : CmdRef)
  | start (c : CmdRef)
  | toHold (c : CmdRef)
  | readDiag (c : CmdRef)
  | clearStd (c : CmdRef)
  | readLog (c : CmdRef)
  | attest (c : CmdRef)
  | fuseProgProgram (c : CmdRef) (buf : Bytes) (vddStop : Option Nat) (badBits : List (Nat × Nat))
  | fuseProgRepair (c : CmdRef) (vddStop : Option Nat) (badBits : List (Nat × Nat))
  | fuseProgKey (c : CmdRef) (buf : Bytes) (vddStop : Option Nat) (badBits : List (Nat × Nat))
  | fuseProgMarker (c : CmdRef) (buf : Bytes) (vddStop : Option Nat) (badBits : List (Nat × Nat))
  | fuseLock (c : CmdRef) (vddStop : Option Nat) (badBits : List (Nat × Nat))
  | lcyAdvance (c : CmdRef) (buf : Bytes) (vddStop : Option Nat) (badBits : List (Nat × Nat))
  | challenge (c : CmdRef)
  | response (c : CmdRef) (buf : Bytes)
  | close (c : CmdRef)
  | tunnelCfg (c : CmdRef)
  | smuRead (c : CmdRef)
  | abort (c : CmdRef)
  | badOpcode (c : CmdRef)
  | request (entry : Bytes)
  | stdout (entry : Bytes)
  | tunrxEntry (entry : Bytes)
  | evtSummaryWrite
  -- register writes with a row of their own
  | ringEnable (r : Nat)
  | ringDisable (r : Nat)
  | piEn (v : Bool)
  | ringSetupWrite (off : Nat) (v : BitVec 32)
  | modrst
  | standbyRequest
  | holdRequest
  | standbyEntryEnd
  | wakeEnd
  | timerEnable (v : BitVec 32)
  | timerLink (v : BitVec 32)
  | cmpLoWrite (c : Nat) (v : BitVec 32)
  | gtEvent (g : Nat)
  | ccFire (c : Nat)
  | registerWrite (off : Nat) (size : Nat) (v : BitVec 64)
  -- JTAG and debug
  | tapReset
  | extest (cells : BitVec 28)
  | idcode
  | samplePreload (cells : BitVec 28)
  | dbgStatus
  | dbgMem (lane : Nat) (addr : Nat)
  | dbgForce (enable : Bool) (value : BitVec 64) (target : Nat)
  | dbgHalt
  | dbgResume
  | dbgStep
  | bypass (code : BitVec 6)
  | authSessionEnd
  | challengeExpiry
  -- remaining events
  | isolatedConverterFailure (l : Lane)
  | temperatureOutOfRange (t : TempState)
  | deferredOffPulse (l : Lane) (ch : Nat)
  | syncInterval
  | lineForwarding (port : Nat) (f : EthFrame)
  | macAgeing (mac : BitVec 48)
  | reqUnassignedType (entry : Bytes)
deriving DecidableEq, Repr

end Sys2Proof
end

