-- ==== Sys2Proof/Decode.lean ====
section
/-! DEFINITION. The command that a word of the table spells. No row of the table of this block gives bits: commands are names with
operands from outside, so no word spells one. -/
namespace Sys2Proof

/-- The command a table word spells: none, because no row has bits. -/
def decodeTableWord (_nbits _w : Nat) : Option Instr := none

end Sys2Proof
end

