-- ==== Sys2Proof/Config.lean ====
section
/-! DEFINITION. What an implementation fixes and the spec leaves open: free values without a body. No proof can see a value of one. -/
namespace Sys2Proof

/-- A fresh free value of at most 64 bits: where the spec states that a value exists and not which
(for example a nonce, a challenge, a safe default). Applied to the counter `freeCnt` of the state. -/
opaque Config.freeVal : Nat → BitVec 64

/-- Fresh free bytes (a debug challenge, R400): applied to the counter and the byte's place. -/
opaque Config.freeByte : Nat → Nat → BitVec 8

/-- Where a word address of state memory lies: the context and the word within it. The spec gives no
layout of the 32,768 words (R1, R397). -/
opaque Config.memPlace : Nat → Nat × Nat

/-- What a word of state memory holds that belongs to no context. -/
opaque Config.memIdle : Nat → BitVec 72

/-- The safe default that a CAL word takes (R380): the spec gives no value. -/
opaque Config.calDefault : Nat → BitVec 32

/-- The ROM's block-library revision (R390): each revision of the module has its own. -/
opaque Config.romLib : BitVec 16

/-- The AES-256 key under which the Hedge wraps the device identity key (R391): bound to the hardware and never read. -/
opaque Config.wrappingKey : BitVec 256

/-- The private key that the Hedge generates (R391). -/
opaque Config.newKey : Nat → BitVec 384

/-- The random number of one ECDSA signature made by ATTEST (R392): the spec names ECDSA and no way to draw it. -/
opaque Config.attestNonce : Nat → Nat

/-- What a division by zero in an SMU speed estimate gives (R214: two latches with one stamp); the spec states no result. -/
opaque Config.speedByZero : Int → Int

/-- Does a quadrature port count up when A leads B (R207)? The spec says ±1 and gives no direction. -/
opaque Config.leadUp : Bool

/-- The parameter set that training carries to a sequencer, from the own node's channel, source and bank records and T_BL (R203): the spec
gives it no layout. -/
opaque Config.blParams : List (BitVec 8) → Nat → List (BitVec 8)

/-- The rising threshold of a sequencer's comparator on an input, in mV (R153): where it lies within the limits of the Type is not
specified. The model bounds it by those limits. -/
opaque Config.riseMv : Lane → Nat → Int

/-- How far that comparator's falling threshold lies below the rising one, in mV (R153), bounded likewise. -/
opaque Config.hystMv : Lane → Nat → Int

/-- The pulse width of a source's check at step 9, in 10 ns ticks (R166): no configuration has been read, and the spec gives no width. -/
opaque Config.checkWidth : Nat

/-- The four fixed words that every decoy folds (R122): the spec gives no values, and no verdict depends on them. -/
opaque Config.decoyWord : Nat → W72

end Sys2Proof
end

