-- ==== Sys2Proof/Machine/Flags.lean ====
section
/-! DEFINITION. The qualifier of a 72-bit word (R57, R59 to R61) and the flag words of the blocks. -/
namespace Sys2Proof.Machine

/-- The value of a word, R57. -/
def wval (w : W72) : Val := w.setWidth 64

/-- The qualifier of a word, R57: bit 0 is bit 64 of the word. -/
def wqual (w : W72) : BitVec 8 := (w >>> 64).setWidth 8

/-- A word from its value and qualifier. -/
def mkWord (v : Val) (q : BitVec 8) : W72 := q ++ v

/-- VALID, bit 64 (R59). -/
def qValid : BitVec 8 := 0x01
/-- FAULT, bit 65. -/
def qFault : BitVec 8 := 0x02
/-- SUBST, bit 66. -/
def qSubst : BitVec 8 := 0x04
/-- AGED, bit 67. -/
def qAged : BitVec 8 := 0x08
/-- TRANS, bit 68. -/
def qTrans : BitVec 8 := 0x10
/-- HOST, bit 69. -/
def qHost : BitVec 8 := 0x20
/-- FORCED, bit 70. -/
def qForced : BitVec 8 := 0x40
/-- FALLOW, bit 71. -/
def qFallow : BitVec 8 := 0x80
/-- Bits 66 to 71, which the blocks carry on (R60). -/
def qCarried : BitVec 8 := 0xFC

/-- A word is usable with VALID = 1 and FAULT = 0 (R60). -/
def usable (w : W72) : Bool := (wqual w).getLsbD 0 && !(wqual w).getLsbD 1

/-- Does a word carry the qualifier bits of m? -/
def carries (w : W72) (m : BitVec 8) : Bool := (wqual w &&& m) != 0

/-- A BOOL value: bits [63:1] are 0 (R57). -/
def boolVal (b : Bool) : Val := if b then 1 else 0

/-- The BOOL a value holds in bit 0. -/
def isOn (v : Val) : Bool := v.getLsbD 0

/-- A word with qualifier VALID only (R62, R67). -/
def validWord (v : Val) : W72 := mkWord v qValid

/-- A replaced word: the fault value with VALID and FAULT (R127). -/
def faultWord (v : Val) : W72 := mkWord v 0x03

/-- A flag word from flags, the first in bit 0. -/
def flagVal (l : List Bool) : Val := BitVec.ofNat 64 ((l.zipIdx).foldl (fun n x => n + (if x.1 then 2 ^ x.2 else 0)) 0)

/-- A word as a lane holds it: lane B holds the one's complement (R58, R105). -/
def laneForm (l : Lane) (w : W72) : W72 := match l with
  | .a => w
  | .b => ~~~w

end Sys2Proof.Machine
end

