-- ==== Sys2Proof/Machine/ImageTypes.lean ====
section
/-! DEFINITION. The records of a configuration image as data (R73 to R79, R149, R189, R209, R254, R262, R271, R272, R304), and of a planting plan (R282). -/
namespace Sys2Proof.Machine

/-- The DOMAIN record, R271, with the defaults taken. -/
structure DomainRec where
  domainId : Nat
  nnode : Nat
  ptpDomain : Nat
  logSync : Nat
  syncTol : Nat
  leaseL : Nat
  tjoin : Nat
deriving DecidableEq, Repr

/-- A TOPOLOGY record, R272, with the defaults taken. -/
structure NodeRec where
  node : Nat
  variant : Nat
  decoyInt : Nat
  serial : BitVec 64
  tf : Nat
  wo : Nat
  swarn : Nat
  smax : Nat
  tbl : Nat
deriving DecidableEq, Repr

/-- A SIGNAL entry, R79. -/
structure SignalRec where
  kind : Nat
  type : Nat
  node : Nat
  unit : Nat
deriving DecidableEq, Repr

/-- A channel record, R150 and R174. -/
structure ChanRec where
  use : Nat
  node : Nat
  chan : Nat
  itype : Nat
  tpsrc : Nat
  filt : Nat
  ilim : Nat
  oflags : Nat
  opw : Nat
  opi : Nat
deriving DecidableEq, Repr

/-- A test-pulse source record, R151. -/
structure SrcRec where
  node : Nat
  src : Nat
  width : Nat
  slotDiv : Nat
deriving DecidableEq, Repr

/-- A bank record, R189. -/
structure BankRec where
  node : Nat
  bank : Nat
  trip : Nat
  ride : Nat
deriving DecidableEq, Repr

/-- A parameter or an entry of the CONST section, R78. -/
structure ParRec where
  value : Val
  qual : Nat
  type : Nat
deriving DecidableEq, Repr

/-- A block record, R77. -/
structure BlockRec where
  type : Nat
  nin : Nat
  nout : Nat
  npar : Nat
  commit : Nat
  ins : List Nat
  pars : List ParRec
deriving DecidableEq, Repr

/-- A function record, R76, with its blocks. -/
structure FnRec where
  fid : Nat
  budget : Nat
  nblk : Nat
  nword : Nat
  flags : Nat
  tfal : Nat
  cost : Nat
  exps : List Nat
  blocks : List BlockRec
deriving DecidableEq, Repr

/-- An AXIS record, R209. -/
structure AxisRec where
  node : Nat
  axis : Nat
  ptype : Nat
  stype : Nat
  spwin : Nat
  xtime : Nat
  ratio : Nat
  tolAbs : Nat
  tolRel : Nat
  pprP : Nat
  pprS : Nat
deriving DecidableEq, Repr

/-- A path record, R254. -/
structure PathRec where
  carrier : Nat
  x : Nat
  y : Nat
  tn : Nat
deriving DecidableEq, Repr

/-- A node address record, R262. -/
structure AddrRec where
  node : Nat
  pmode : Nat
  gmCapable : Bool
  mac : BitVec 48
  ipv4 : BitVec 32
  udp : Nat
deriving DecidableEq, Repr

/-- The MODE record, R304. -/
structure ModeRec where
  nmode : Nat
  init : Nat
  lead : Nat
  allow : BitVec 64
deriving DecidableEq, Repr

/-- A configuration image that has passed every check, with its own node and its digest. -/
structure Image where
  keySlot : Nat
  cfgNumber : Nat
  domain : DomainRec
  nodes : List NodeRec
  signals : List SignalRec
  chans : List ChanRec
  srcs : List SrcRec
  banks : List BankRec
  fns : List FnRec
  consts : List ParRec
  axes : List AxisRec
  hasKslpar : Bool
  paths : List PathRec
  addrs : List AddrRec
  mode : Option ModeRec
  digest : BitVec 384
  /-- The own node's number, found by its serial number (R82). -/
  own : Nat
deriving DecidableEq, Repr

/-- A function record of the plan, R282. -/
structure PlanFn where
  fid : Nat
  host : Nat
  standby : Option Nat
  hctx : Nat
  sctx : Nat
  klog : Nat
  phase : Nat
  sphase : Nat
  k : W72
  rf : Nat
deriving DecidableEq, Repr

/-- A connection record of the plan, R282. SIG is the list of its used entries. -/
structure PlanConn where
  prod : Nat
  index : Nat
  cons : Nat
  type : Nat
  sub : Nat
  nw : Nat
  te : Nat
  fid : Nat
  blk : Nat
  sig : List Nat
deriving DecidableEq, Repr

/-- A planting plan, R282: functions in placement order, connections in ascending CONN_ID. -/
structure Plan where
  fns : List PlanFn
  conns : List PlanConn
  cfgDigest : BitVec 384
deriving DecidableEq, Repr

/-- What the Planter reports when it fails, R288: code, cause of R278, FID and node. -/
structure PlanErr where
  code : Nat
  cause : Nat
  fid : Nat
  node : Option Nat
deriving DecidableEq, Repr

/-- A configuration rejection: code of R445, item class and item of R326. -/
structure Rej where
  code : Nat
  cls : Nat
  item : Nat
deriving DecidableEq, Repr

/-- CONN_ID of a plan connection, R232. -/
def PlanConn.id (c : PlanConn) : Nat := c.prod * 256 + c.index

end Sys2Proof.Machine
end

