-- ==== Sys2Proof/Machine/BlockTable.lean ====
section
/-! DEFINITION. The block library's tables: counts, types, parameters, state words, cutting sets, start-up values and costs
(R69, R70, R87, R102, R218, R226, R247, R252, R335, R336). -/
namespace Sys2Proof.Machine

/-- The block codes that the library assigns. -/
def blockAssigned (c : Nat) : Bool :=
  (1 ≤ c && c ≤ 0x0D) || (0x20 ≤ c && c ≤ 0x2E) || (0x40 ≤ c && c ≤ 0x46) || c == 0x50 || c == 0x51 || c == 0x58 || c == 0x59

/-- NIN allowed for the code under some parameter value (R77). -/
def ninOk (c n : Nat) : Bool := match c with
  | 0x01 | 0x02 => 2 ≤ n && n ≤ 8
  | 0x03 | 0x06 | 0x08 | 0x20 | 0x21 | 0x22 | 0x2C | 0x40 => n == 2
  | 0x04 | 0x07 | 0x0A | 0x0B | 0x0C | 0x46 | 0x51 | 0x59 => n == 1
  | 0x05 | 0x09 | 0x0D | 0x23 | 0x27 | 0x2D | 0x2E | 0x43 | 0x45 => n == 3
  | 0x28 | 0x2A | 0x2B | 0x42 | 0x44 => n == 4
  | 0x24 | 0x26 | 0x41 => n == 5
  | 0x25 => n == 7
  | 0x29 => n == 0 || (2 ≤ n && n ≤ 8)
  | 0x50 => 1 ≤ n && n ≤ 5
  | 0x58 => n == 0
  | _ => false

/-- NOUT allowed for the code (R77). -/
def noutOk (c n : Nat) : Bool := match c with
  | 0x01 | 0x02 | 0x03 | 0x04 | 0x05 | 0x06 | 0x07 | 0x08 | 0x0A | 0x0B | 0x0C => n == 1
  | 0x09 | 0x0D | 0x20 | 0x21 | 0x22 | 0x23 | 0x27 | 0x28 | 0x2C | 0x2D | 0x43 | 0x44 | 0x45 | 0x58 => n == 2
  | 0x24 | 0x25 | 0x26 | 0x2A | 0x2E | 0x42 | 0x46 => n == 3
  | 0x2B | 0x40 | 0x41 => n == 4
  | 0x29 => n == 10
  | 0x50 | 0x59 => n == 0
  | 0x51 => 3 ≤ n && n ≤ 7
  | _ => false

/-- A parameter's kind and range: type code of R57 (4: the type of the block's typed inputs), lowest and highest value. -/
structure ParSpec where
  type : Nat
  lo : Int
  hi : Int

/-- An INT parameter from lo to hi. -/
def parInt (lo hi : Int) : ParSpec := ⟨1, lo, hi⟩
/-- A TIME parameter in 10 ns ticks. -/
def parTime (lo hi : Int) : ParSpec := ⟨2, lo, hi⟩
/-- One millisecond in ticks. -/
def msTicks : Int := 100000
/-- One second in ticks. -/
def secTicks : Int := 100000000
/-- Any INT value. -/
def parAnyInt : ParSpec := ⟨1, -9223372036854775808, 9223372036854775807⟩
/-- A SPEED parameter, 0 to 16,000,000 counts/s (R217). -/
def parSpeed : ParSpec := ⟨3, 0, 16000000 * 4294967296⟩
/-- 0 or 1. -/
def parBit : ParSpec := parInt 0 1
/-- PT, TMIN and TMAX of R69. -/
def parDay : ParSpec := parTime 0 8640000000000

/-- The parameters of a block in order. -/
def parSpecs (c : Nat) : List ParSpec := match c with
  | 0x05 => [⟨4, 0, 0⟩]
  | 0x06 => [parInt 0 5]
  | 0x07 => [parInt 0 2]
  | 0x08 => [parBit]
  | 0x09 => [parAnyInt, parAnyInt, parAnyInt, parAnyInt]
  | 0x0A | 0x0B | 0x0C => [parDay]
  | 0x0D => [parDay, parDay]
  | 0x20 => [parBit, parTime 0 (10 * secTicks)]
  | 0x21 | 0x22 => [parTime 0 (10 * secTicks)]
  | 0x23 => [parBit, parTime 0 (100 * msTicks)]
  | 0x24 => [parTime 0 (3 * secTicks), parTime (100 * msTicks) (36000 * secTicks)]
  | 0x25 => [parBit, parTime 0 (3 * secTicks), parTime (100 * msTicks) (36000 * secTicks)]
  | 0x26 => [parBit, parTime 0 (10 * secTicks), parInt 0 2, parTime 0 (10 * secTicks)]
  | 0x27 => [parBit, parTime 0 (500 * msTicks)]
  | 0x28 => [parTime 0 (500 * msTicks), parTime 0 (500 * msTicks)]
  | 0x29 => [parBit, parTime 0 secTicks]
  | 0x2A => [parBit, parBit, parBit, parTime 0 (600 * secTicks), parTime 0 (600 * secTicks)]
  | 0x2B => [parBit, parTime (100 * msTicks) (600 * secTicks), parTime (100 * msTicks) (600 * secTicks),
      parTime 0 (600 * secTicks)]
  | 0x2C => [parBit, parTime 0 secTicks, parTime 0 (10 * secTicks)]
  | 0x2D => [parTime 0 (10 * secTicks)]
  | 0x2E => [parAnyInt, parBit, parTime 0 (10 * secTicks)]
  | 0x40 => [parBit, parTime 0 (2 * secTicks)]
  | 0x41 => [parInt 1 1000000000, parTime 0 (10 * secTicks), parSpeed, parSpeed, parTime 0 (10 * secTicks),
      parTime (100 * msTicks) (600 * secTicks), parBit]
  | 0x42 => [parTime 0 (600 * secTicks), parBit]
  | 0x43 => [parSpeed, parTime 0 (10 * secTicks)]
  | 0x44 => [parInt 0 4294967295, parSpeed, parTime 0 (10 * secTicks)]
  | 0x45 => [parBit, parInt 0 4294967295, parTime 0 (10 * secTicks)]
  | 0x46 => [parSpeed, parSpeed, parSpeed, parTime 0 (10 * secTicks)]
  | 0x51 => [parAnyInt, parAnyInt, parTime msTicks (10 * secTicks), parTime 0 (10 * secTicks), parBit]
  | 0x58 => [parAnyInt, parTime 0 (10 * secTicks)]
  | 0x59 => [parAnyInt]
  | _ => []

/-- Value of parameter i as a signed number. -/
def BlockRec.parI (b : BlockRec) (i : Nat) : Int := ((b.pars.map ParRec.value).getD i 0).toInt
/-- Value of parameter i as an unsigned number. -/
def BlockRec.parN (b : BlockRec) (i : Nat) : Nat := ((b.pars.map ParRec.value).getD i 0).toNat

/-- A parameter's value lies in its range: signed for INT and SPEED, unsigned for TIME, bit 0 alone for BOOL. -/
def parInRange (sp : ParSpec) (v : Val) : Bool :=
  if sp.type == 4 then true
  else if sp.type == 2 then decide (sp.lo ≤ (v.toNat : Int)) && decide ((v.toNat : Int) ≤ sp.hi)
  else decide (sp.lo ≤ v.toInt) && decide (v.toInt ≤ sp.hi)

/-- The relations between parameters of one block that its table states. -/
def parRelOk (b : BlockRec) : Bool := match b.type with
  | 0x09 => decide (b.parI 1 ≤ b.parI 3) && decide (b.parI 3 ≤ b.parI 2) && decide (b.parI 1 ≤ b.parI 0)
      && decide (b.parI 0 ≤ b.parI 2)
  | 0x0D => b.parN 0 ≤ b.parN 1
  | 0x2B => b.parN 3 ≤ min (b.parN 1) (b.parN 2)
  | 0x2C => b.parN 1 ≤ b.parN 2
  | 0x51 => b.parN 3 ≤ b.parN 2
  | _ => true

/-- NIN fits the parameter that selects it (R77). -/
def ninFits (b : BlockRec) : Bool :=
  if b.type == 0x29 then (if b.parN 0 == 1 then b.nin == 0 else 2 ≤ b.nin) else true

/-- Types of the inputs: a type code, 4 any type, 5 the block's common type T. -/
def inTypes (c n : Nat) : List Nat := match c with
  | 0x05 => [0, 5, 5]
  | 0x06 => [5, 5]
  | 0x41 => [0, 3, 0, 0, 0]
  | 0x43 => [0, 3, 0]
  | 0x44 => [0, 1, 3, 0]
  | 0x45 => [0, 1, 0]
  | 0x46 => [3]
  | 0x50 | 0x59 => List.replicate n 4
  | _ => List.replicate n 0

/-- Types of the outputs, from the common type T and the types of the words a KRECV or HREQ delivers. -/
def outTypes (c n t : Nat) (ws : List Nat) : List Nat := match c with
  | 0x05 => [t]
  | 0x09 => [1, 0]
  | 0x0D => [0, 0]
  | 0x29 => [0, 0, 0, 0, 0, 0, 0, 0, 1, 1]
  | 0x51 => ws ++ [0, 1]
  | 0x58 => ws ++ [0]
  | _ => if c < 0x20 then List.replicate n 0 else List.replicate (n - 1) 0 ++ (if n == 0 then [] else [1])

/-- Number of state words. -/
def stateCount (c nin : Nat) : Nat := match c with
  | 0x07 | 0x08 | 0x0A | 0x0B | 0x59 => 1
  | 0x09 | 0x0C | 0x20 | 0x21 | 0x22 | 0x27 | 0x29 | 0x46 | 0x51 => 2
  | 0x0D | 0x23 | 0x24 | 0x25 | 0x2B | 0x2C | 0x2D | 0x40 | 0x42 | 0x43 => 3
  | 0x26 | 0x28 | 0x2A | 0x2E | 0x44 | 0x45 => 4
  | 0x41 => 5
  | 0x50 => nin
  | _ => 0

/-- The output that is state word 0 of its block: LATCH.Q, COUNT.CV, RESET.Q, SOUT.Q (R64, R102). -/
def stateOutput (c : Nat) : Option Nat := match c with
  | 0x08 | 0x09 | 0x2C | 0x2E => some 0
  | _ => none

/-- Indexes of the state words in the cutting set. -/
def cutWords (c : Nat) : List Nat := match c with
  | 0x08 | 0x09 | 0x0A | 0x0B | 0x0C | 0x2C | 0x51 => [0]
  | 0x0D | 0x20 | 0x21 | 0x22 | 0x23 | 0x27 | 0x24 | 0x25 | 0x29 | 0x2B | 0x2D | 0x40 | 0x42 | 0x43 | 0x46 => [0, 1]
  | 0x26 | 0x2A | 0x2E | 0x44 | 0x45 => [0, 1, 2]
  | 0x28 | 0x41 => [0, 1, 2, 3]
  | _ => []

/-- Worst-case cost in cycles. -/
def blockCost (b : BlockRec) : Nat := match b.type with
  | 0x01 | 0x02 => 3 + b.nin
  | 0x03 => 5
  | 0x04 => 3
  | 0x05 | 0x07 | 0x08 | 0x58 => 6
  | 0x06 => 7
  | 0x09 | 0x23 | 0x27 | 0x46 => 12
  | 0x0A | 0x0B | 0x21 | 0x22 => 9
  | 0x0C | 0x20 | 0x2C | 0x2D => 10
  | 0x0D | 0x2A | 0x40 => 16
  | 0x24 | 0x26 | 0x44 | 0x45 => 18
  | 0x25 => 24
  | 0x28 => 22
  | 0x29 => if b.parN 0 == 1 then 10 else 8 + b.nin
  | 0x2B => 20
  | 0x2E | 0x42 | 0x43 => 14
  | 0x41 => 34
  | 0x50 => 6 + 2 * b.nin
  | 0x51 => 12 + 3 * (b.nout - 2)
  | 0x59 => 5
  | _ => 0

/-- Start-up values of the state words (R70, R102, R226, R252, R336). -/
def startState (b : BlockRec) : List Val :=
  let z := List.replicate (stateCount b.type b.nin) (0 : Val)
  match b.type with
  | 0x09 => z.set 0 (BitVec.ofInt 64 (b.parI 3))
  | 0x0A => z.set 0 (BitVec.ofNat 64 (b.parN 0))
  | 0x23 => z.set 1 2
  | 0x2A => z.set 2 (if b.parN 2 == 1 then 2 else 0)
  | 0x2B => z.set 0 5
  | 0x40 => z.set 0 (BitVec.ofNat 64 (b.parN 0 % 2))
  | 0x41 | 0x42 => z.set 0 2
  | 0x51 => z.set 0 (BitVec.ofNat 64 (b.parN 4 % 2))
  | _ => z

/-- Committed outputs of a block that are not state words, in ascending number. -/
def committedOuts (b : BlockRec) : List Nat :=
  (List.range b.nout).filter (fun o => nbit b.commit o && stateOutput b.type != some o)

/-- Committed words of one block: its state words and its committed outputs (R63). -/
def blockWords (b : BlockRec) : Nat := stateCount b.type b.nin + (committedOuts b).length

/-- NWORD: the 2 context words and the words of every block (R76). -/
def fnWords (f : FnRec) : Nat := f.blocks.foldl (fun n b => n + blockWords b) 2

/-- COST: 16 cycles and the cost of every block (R70, R45). -/
def fnCost (f : FnRec) : Nat := f.blocks.foldl (fun n b => n + blockCost b) 16

/-- Words of the cutting set with the 2 context words (R291). -/
def cutCount (f : FnRec) : Nat := f.blocks.foldl (fun n b => n + (cutWords b.type).length) 2

/-- Offsets at which the words of each block begin in the order of R110. -/
def blockOffsets (f : FnRec) : List Nat :=
  (f.blocks.foldl (fun (p : List Nat × Nat) b => (p.2 :: p.1, p.2 + blockWords b)) ([], 2)).1.reverse

/-- The demand value of input i (R87, R218): true asks for a stop. -/
def demandVal (b : BlockRec) (i : Nat) : Val :=
  let one := match b.type with
    | 0x20 | 0x26 => i == 1 && b.parN 0 == 1
    | 0x22 => i == 1
    | 0x27 => i == 2
    | 0x28 => i == 1 || i == 3
    | 0x2B => i == 0 && b.parN 0 == 1
    | 0x41 => i == 0 || i == 3
    | 0x42 => i == 0 || i == 2
    | 0x43 | 0x44 | 0x45 => i == 0
    | _ => false
  boolVal one

/-- The input a HOST-qualified word makes unusable (R103, R104): every input of RESET and ENABLE3, and each RST input
of the sensor and actuator blocks, the motion blocks and KRECV. -/
def hostBarred (c i : Nat) : Bool := match c with
  | 0x27 | 0x2C => true
  | 0x23 | 0x2D | 0x43 | 0x45 => i == 2
  | 0x24 | 0x26 | 0x41 => i == 4
  | 0x25 => i == 6
  | 0x2A | 0x2B | 0x42 | 0x44 => i == 3
  | 0x2E | 0x40 => i == 1
  | 0x51 => i == 0
  | _ => false

/-- The fault value of output o (R60, R69, R85, R87, R217): 0 for a BOOL. -/
def faultValue (b : BlockRec) (t o : Nat) : Val := match b.type with
  | 0x05 => if t == 0 then 0 else ((b.pars.map ParRec.value).getD 0 0)
  | 0x09 => if o == 0 then (b.pars.map ParRec.value).getD 1 0 else 0
  | 0x29 => if o == 8 then BitVec.ofInt 64 (-1) else if o == 9 then 5 else 0
  | 0x58 => 0
  | _ => if b.type < 0x20 then 0 else if o + 1 == b.nout then 5 else 0

/-- Does input i contribute, given the value of input 0 (R69 SEL; R87, "contributes only if")? -/
def contributes (b : BlockRec) (g : Bool) (i : Nat) : Bool := match b.type with
  | 0x05 => i == 0 || (if g then i == 2 else i == 1)
  | 0x26 => i != 2 || b.parN 2 != 0
  | 0x27 => i != 2 || b.parN 0 == 1
  | 0x2A => i != 0 || b.parN 1 == 1
  | 0x2E => i != 2 || b.parN 1 == 1
  | _ => true

end Sys2Proof.Machine
end

