-- ==== Sys2Proof/Machine/Bytes.lean ====
section
/-! DEFINITION. Reading and writing fields of byte strings, and the cyclic redundancy checks of R199 and R234. -/
namespace Sys2Proof.Machine

/-- The byte at an offset; 0 beyond the end. -/
def byteAt (b : Bytes) (off : Nat) : Nat := (b.getD off 0).toNat

/-- A little-endian number from a list of bytes. -/
def leOf : Bytes → Nat
  | [] => 0
  | x :: r => x.toNat + 256 * leOf r

/-- A big-endian number from a list of bytes. -/
def beOf (b : Bytes) : Nat := b.foldl (fun n x => n * 256 + x.toNat) 0

/-- The n bytes at an offset. -/
def slice (b : Bytes) (off n : Nat) : Bytes := (b.drop off).take n

/-- A little-endian field of n bytes. -/
def leAt (b : Bytes) (off n : Nat) : Nat := leOf (slice b off n)

/-- A big-endian field of n bytes. -/
def beAt (b : Bytes) (off n : Nat) : Nat := beOf (slice b off n)

/-- n bytes, little-endian. -/
def leBytes : Nat → Nat → Bytes
  | 0, _ => []
  | n + 1, x => BitVec.ofNat 8 x :: leBytes n (x / 256)

/-- n bytes, big-endian. -/
def beBytes (n x : Nat) : Bytes := (leBytes n x).reverse

/-- n zero bytes. -/
def zeros (n : Nat) : Bytes := List.replicate n 0

/-- Every byte is 0. -/
def allZero (b : Bytes) : Bool := b.all (fun x => x == 0)

/-- Every byte of the field is 0. -/
def zeroAt (b : Bytes) (off n : Nat) : Bool := allZero (slice b off n)

/-- The first offset in [off, off+n) whose byte is not 0. -/
def firstNonZero (b : Bytes) (off : Nat) : Nat → Option Nat
  | 0 => none
  | n + 1 => if byteAt b off != 0 then some off else firstNonZero b (off + 1) n

/-- One bit step of a left-shifting CRC register of width w. -/
def crcBitL {w : Nat} (poly : BitVec w) (r : BitVec w) : BitVec w :=
  if r.msb then (r <<< 1) ^^^ poly else r <<< 1

/-- One bit step of a right-shifting (reflected) CRC register of width w. -/
def crcBitR {w : Nat} (poly : BitVec w) (r : BitVec w) : BitVec w :=
  if r.getLsbD 0 then (r >>> 1) ^^^ poly else r >>> 1

/-- n steps of a register. -/
def iterN {α : Type} (f : α → α) : Nat → α → α
  | 0, x => x
  | n + 1, x => iterN f n (f x)

/-- CRC-16 of the barrier links (R199): polynomial 0x8BB7, initial 0xFFFF, most significant bit first, no final XOR. -/
def crc16 (b : Bytes) : BitVec 16 :=
  b.foldl (fun r x => iterN (crcBitL 0x8BB7#16) 8 (r ^^^ BitVec.shiftLeft (x.setWidth 16) 8)) 0xFFFF#16

/-- CRC-32C register over bytes (R234 Check A): polynomial 0x1EDC6F41, reflected. -/
def crc32cReg (seed : BitVec 32) (b : Bytes) : BitVec 32 :=
  b.foldl (fun r x => iterN (crcBitR 0x82F63B78#32) 8 (r ^^^ x.setWidth 32)) seed

/-- Check A (R234): the CRC-32C register with final XOR 0xFFFF_FFFF. -/
def checkA (seed : BitVec 32) (b : Bytes) : BitVec 32 := crc32cReg seed b ^^^ 0xFFFFFFFF#32

/-- Check B (R234): polynomial 0x741B8CD7, not reflected, over the one's complement of the bytes. -/
def checkB (seed : BitVec 32) (b : Bytes) : BitVec 32 :=
  b.foldl (fun r x => iterN (crcBitL 0x741B8CD7#32) 8 (r ^^^ BitVec.shiftLeft ((~~~x).setWidth 32) 24)) seed

/-- CRC-32C in the form of Check A with the initial register all ones (R203, R376). -/
def crc32c (b : Bytes) : BitVec 32 := checkA 0xFFFFFFFF#32 b

/-- Even parity of a byte: 1 if it holds an odd number of ones (R117). -/
def parity8 (x : Nat) : Bool := (List.range 8).foldl (fun p i => p != nbit x i) false

/-- Bytes of a word in ascending order of place: n of them. -/
def bytesOf {w : Nat} (x : BitVec w) (n : Nat) : Bytes := leBytes n x.toNat

end Sys2Proof.Machine
end

