-- ==== Sys2Proof/Machine/Sha.lean ====
section
/-! DEFINITION. SHA-384 of FIPS 180-4, the one hash of the module (R75, R386). Its constants are computed from the primes that
the standard derives them from. -/
namespace Sys2Proof.Machine

/-- Has n, below 441, no divisor from 2 to 20 but itself? -/
def isPrime (n : Nat) : Bool := 2 ≤ n && (List.range 21).all (fun d => d < 2 || n == d || n % d != 0)

/-- The first eighty primes, 2 to 409. -/
def firstPrimes : List Nat := (List.range 410).filter isPrime

/-- The greatest r below 2^n, above the base found so far, with r^e at most x: one bit of r after the other, highest first. -/
def rootBits (e x : Nat) : Nat → Nat → Nat
  | 0, base => base
  | n + 1, base => rootBits e x n (if (base + 2 ^ n) ^ e ≤ x then base + 2 ^ n else base)

/-- The first 64 bits of the fractional part of the e-th root of a prime below 512, e being 2 or 3. -/
def rootFraction (e p : Nat) : BitVec 64 := BitVec.ofNat 64 (rootBits e (p * 2 ^ (64 * e)) 69 0)

/-- The round constants: the cube roots of the first eighty primes. -/
def roundConstants : List (BitVec 64) := firstPrimes.map (rootFraction 3)

/-- The eight words of the chaining value at the start: the square roots of the ninth to the sixteenth prime. -/
def chainStart : List (BitVec 64) := ((firstPrimes.drop 8).take 8).map (rootFraction 2)

/-- The exclusive or of a word rotated right by each of the amounts. -/
def spin (x : BitVec 64) (by_ : List Nat) : BitVec 64 := by_.foldl (fun r n => r ^^^ x.rotateRight n) 0

/-- A word of the eight working words, the first of them 0. -/
def workWord (v : List (BitVec 64)) (i : Nat) : BitVec 64 := v.getD i 0

/-- One round: its constant and its message word are added in `kw`. -/
def roundStep (v : List (BitVec 64)) (kw : BitVec 64) : List (BitVec 64) :=
  let a := workWord v 0
  let e := workWord v 4
  let choice := (e &&& workWord v 5) ||| (~~~e &&& workWord v 6)
  let majority := (a &&& (workWord v 1 ||| workWord v 2)) ||| (workWord v 1 &&& workWord v 2)
  let mixed := kw + workWord v 7 + spin e [14, 18, 41] + choice
  (mixed + spin a [28, 34, 39] + majority) :: v.take 3 ++ (workWord v 3 + mixed) :: (v.drop 4).take 3

/-- The message schedule, newest word first: n further words from the sixteen before each. -/
def schedule : Nat → List (BitVec 64) → List (BitVec 64)
  | 0, w => w
  | n + 1, w =>
    let near := workWord w 1
    let far := workWord w 14
    schedule n ((workWord w 6 + workWord w 15 + (spin near [19, 61] ^^^ (near >>> 6)) + (spin far [1, 8] ^^^ (far >>> 7))) :: w)

/-- The n big-endian 64-bit words at the start of the bytes, the last first. -/
def messageWords (n : Nat) (b : Bytes) : List (BitVec 64) :=
  ((List.range n).map (fun i => BitVec.ofNat 64 (beAt b (8 * i) 8))).reverse

/-- The chaining value after one block of 128 bytes. -/
def absorbBlock (h : List (BitVec 64)) (b : Bytes) : List (BitVec 64) :=
  let w := (schedule 64 (messageWords 16 b)).reverse
  List.zipWith (· + ·) h ((List.zipWith (· + ·) roundConstants w).foldl roundStep h)

/-- The chaining value after n blocks. -/
def absorb : Nat → List (BitVec 64) → Bytes → List (BitVec 64)
  | 0, h, _ => h
  | n + 1, h, b => absorb n (absorbBlock h (b.take 128)) (b.drop 128)

/-- The message with its padding: a one bit, zeros, and its length in bits in the last 16 bytes of a block. -/
def padded (m : Bytes) : Bytes :=
  m ++ 0x80#8 :: zeros ((240 - (m.length + 1) % 128) % 128) ++ beBytes 16 (m.length * 8)

/-- SHA-384: 48 bytes in output order, as a number whose most significant byte is the first. -/
def sha384 (m : Bytes) : BitVec 384 :=
  let p := padded m
  BitVec.ofNat 384 (((absorb (p.length / 128) chainStart p).take 6).foldl (fun n x => n * 2 ^ 64 + x.toNat) 0)

/-- A digest as 48 bytes in output order. -/
def digestBytes (d : BitVec 384) : Bytes := beBytes 48 d.toNat

end Sys2Proof.Machine
end

