-- ==== Sys2Proof/Machine/ImageRead.lean ====
section
/-! DEFINITION. Reading the records of a configuration image (R73 to R79, R447): the section table, the records of each section and
the walk of the BLOCK section, before any of them is judged. -/
namespace Sys2Proof.Machine

/-- An entry of the section table, R74. -/
structure RawSect where
  type : Nat
  flags : Nat
  off : Nat
  len : Nat
  count : Nat
deriving DecidableEq, Repr

/-- A record of the walk of the BLOCK section (R447), with a fault of its reserved bytes, padding or held bits. -/
structure RawBlk where
  off : Nat
  blk : BlockRec
  bad : Bool
deriving DecidableEq, Repr

/-- A record of the FUNCTION section before its blocks are found. -/
structure RawFn where
  fn : FnRec
  blkOff : Nat
  count : Nat
  bad : Bool
deriving DecidableEq, Repr

/-- Rounded up to a multiple of 8. -/
def pad8 (n : Nat) : Nat := (n + 7) / 8 * 8

/-- Entry i of the section table, R74. -/
def readSect (b : Bytes) (i : Nat) : RawSect :=
  let o := 0x80 + 16 * i
  ⟨leAt b o 2, leAt b (o + 2) 2, leAt b (o + 4) 4, leAt b (o + 8) 4, leAt b (o + 12) 4⟩

/-- A section's bytes. -/
def sectBytes (b : Bytes) (s : RawSect) : Bytes := slice b s.off s.len

/-- The records of a section of fixed record size that lie wholly in it, and whether one of COUNT overruns it (R81). -/
def fixedRecs (b : Bytes) (s : RawSect) (size : Nat) : List Bytes × Bool :=
  let n := min s.count (s.len / size)
  ((List.range n).map (fun i => slice b (s.off + i * size) size), n < s.count)

/-- A parameter or constant, R78, and whether its bytes 10 and 11 are 0. -/
def readPar (b : Bytes) : ParRec × Bool :=
  (⟨BitVec.ofNat 64 (leAt b 0 8), byteAt b 8, byteAt b 9⟩, zeroAt b 10 2)

/-- Bits that a reference's kind holds at 0 are 0 (R78). -/
def refHeldOk (r : Nat) : Bool := match nbits r 31 28 with
  | 0 | 4 => nbits r 27 18 == 0
  | 3 => nbits r 7 6 == 0
  | _ => true

/-- A block record at the start of the bytes, R77, with its length; none when it passes their end. -/
def readBlk (b : Bytes) (off : Nat) : Option (RawBlk × Nat) :=
  let nin := byteAt b 1
  let npar := byteAt b 3
  let raw := 8 + 4 * nin + 12 * npar
  let len := pad8 raw
  if b.length < 8 || b.length < len then none
  else
    let refs := (List.range nin).map (fun i => leAt b (8 + 4 * i) 4)
    let pars := (List.range npar).map (fun i => readPar (slice b (8 + 4 * nin + 12 * i) 12))
    let bad := !zeroAt b 6 2 || !zeroAt b raw (len - raw) || !pars.all (·.2) || !refs.all refHeldOk
    some (⟨off, ⟨byteAt b 0, nin, byteAt b 2, npar, leAt b 4 2, refs, pars.map (·.1)⟩, bad⟩, len)

/-- The walk of R447: records up to the section's end or the overrunning record, whose offset is answered. -/
def walkBlks : Nat → Bytes → Nat → List RawBlk × Option Nat
  | 0, _, _ => ([], none)
  | f + 1, b, off =>
    if b.isEmpty then ([], none)
    else match readBlk b off with
      | none => ([], some off)
      | some (r, len) =>
        let rest := walkBlks f (b.drop len) (off + len)
        (r :: rest.1, rest.2)

/-- A function record at the start of the bytes, R76, with its length; none when it passes their end. -/
def readFn (b : Bytes) : Option (RawFn × Nat) :=
  let nexp := byteAt b 0x11
  let raw := 32 + 4 * nexp
  let len := pad8 raw
  if b.length < 32 || b.length < len then none
  else
    let exps := (List.range nexp).map (fun i => leAt b (0x20 + 4 * i) 4)
    let bad := !zeroAt b 0x12 2 || !zeroAt b 0x1C 4 || !zeroAt b raw (len - raw) || 4 ≤ byteAt b 0x10
      || !exps.all (fun e => nbits e 31 18 == 0)
    some (⟨{ fid := leAt b 0 4, budget := leAt b 4 4, nblk := leAt b 0x0C 2, nword := leAt b 0x0E 2,
             flags := byteAt b 0x10, tfal := leAt b 0x14 4, cost := leAt b 0x18 4, exps := exps, blocks := [] },
           leAt b 8 4, nexp, bad⟩, len)

/-- Records of the FUNCTION section up to COUNT, and whether one overruns it. -/
def readFns : Nat → Bytes → List RawFn × Bool
  | 0, _ => ([], false)
  | n + 1, b => match readFn b with
    | none => ([], true)
    | some (r, len) => let rest := readFns n (b.drop len); (r :: rest.1, rest.2)

/-- Where a function's block records lie in the walk (R447). -/
inductive Span where
  | whole
  | misplaced
  /-- Some of the records lie at or behind the overrunning record. -/
  | cut
deriving DecidableEq, Repr

/-- The index in the walk at which a function's records begin; the overrunning record counts as the last. -/
def blkStart (ws : List RawBlk) (ovr : Option Nat) (off : Nat) : Option Nat :=
  let i := ws.findIdx (fun r => r.off == off)
  if i < ws.length then some i else if ovr == some off then some ws.length else none

/-- The records before the overrunning one that a function claims, first index and end (R447). -/
def claimed (ws : List RawBlk) (ovr : Option Nat) (f : RawFn) : Option (Nat × Nat) :=
  (blkStart ws ovr f.blkOff).map (fun j => (j, min (j + f.fn.nblk) ws.length))

/-- Two spans of records share one. An empty span shares none. -/
def spansMeet (x y : Nat × Nat) : Bool := max x.1 y.1 < min x.2 y.2

/-- Do its records overlap those of a function with a lower FID (R447)? -/
def overlapsLower (ws : List RawBlk) (ovr : Option Nat) (fs : List RawFn) (f : RawFn) : Bool :=
  match claimed ws ovr f with
  | none => false
  | some x => fs.any (fun g => g.fn.fid < f.fn.fid && ((claimed ws ovr g).map (spansMeet x)).getD false)

/-- The span of a function, with the first index and number of walk records it claims (R447). -/
def claimSpan (ws : List RawBlk) (ovr : Option Nat) (fs : List RawFn) (f : RawFn) : Span × Nat × Nat :=
  match blkStart ws ovr f.blkOff with
  | none => (.misplaced, 0, 0)
  | some j =>
    let e := j + f.fn.nblk
    if overlapsLower ws ovr fs f || (ws.length < e && ovr.isNone) then (.misplaced, 0, 0)
    else if e ≤ ws.length then (.whole, j, f.fn.nblk) else (.cut, j, f.fn.nblk)

/-- The span of each function in order. -/
def claimSpans (ws : List RawBlk) (ovr : Option Nat) (fs : List RawFn) : List (Span × Nat × Nat) := fs.map (claimSpan ws ovr fs)

/-- A SIGNAL entry, R79. -/
def readSignal (b : Bytes) : SignalRec := ⟨byteAt b 0, byteAt b 1, leAt b 2 2, leAt b 4 2⟩

/-- A channel record, R150 and R174. -/
def readChan (b : Bytes) : ChanRec :=
  { use := byteAt b 1, node := leAt b 2 2, chan := byteAt b 4, itype := byteAt b 5, tpsrc := byteAt b 6,
    filt := leAt b 8 2, ilim := byteAt b 0x0A, oflags := byteAt b 0x0B, opw := byteAt b 0x0C, opi := leAt b 0x0E 2 }

/-- A source record, R151. -/
def readSrc (b : Bytes) : SrcRec := ⟨leAt b 2 2, byteAt b 4, leAt b 6 2, leAt b 8 2⟩

/-- A bank record, R189. -/
def readBank (b : Bytes) : BankRec := ⟨leAt b 2 2, byteAt b 4, leAt b 6 2, leAt b 8 2⟩

/-- An AXIS record, R209. -/
def readAxis (b : Bytes) : AxisRec :=
  { node := leAt b 0 2, axis := byteAt b 2, ptype := byteAt b 3, stype := byteAt b 4, spwin := byteAt b 5, xtime := leAt b 6 2,
    ratio := leAt b 8 8, tolAbs := leAt b 0x10 4, tolRel := leAt b 0x14 2, pprP := leAt b 0x16 2, pprS := leAt b 0x18 2 }

/-- A path record, R254. -/
def readPath (b : Bytes) : PathRec := ⟨byteAt b 1, leAt b 2 2, leAt b 4 2, leAt b 8 4⟩

/-- A node address record, R262. UDP 0 means 46788. -/
def readAddr (b : Bytes) : AddrRec :=
  let u := leAt b 0x0E 2
  ⟨leAt b 2 2, byteAt b 1 % 4, nbit (byteAt b 1) 2, BitVec.ofNat 48 (beAt b 4 6), BitVec.ofNat 32 (beAt b 0x0A 4),
    if u == 0 then 46788 else u⟩

/-- The MODE record, R304. -/
def readMode (b : Bytes) : ModeRec := ⟨byteAt b 0, byteAt b 1, leAt b 2 2, BitVec.ofNat 64 (leAt b 8 8)⟩

/-- A value, or its default when it is 0. -/
def orDefault (x d : Nat) : Nat := if x == 0 then d else x

/-- The DOMAIN record with its defaults, R271; LOGSYNC as its byte. -/
def readDomain (b : Bytes) : DomainRec :=
  { domainId := leAt b 0 4, nnode := leAt b 4 2, ptpDomain := byteAt b 6, logSync := byteAt b 7,
    syncTol := orDefault (leAt b 8 2) 10, leaseL := orDefault (byteAt b 0x0A) 4, tjoin := orDefault (leAt b 0x0C 2) 30 }

/-- A TOPOLOGY record with its defaults, R272 and R30. -/
def readNode (b : Bytes) : NodeRec :=
  let tf := leAt b 0x0C 2
  { node := leAt b 0 2, variant := byteAt b 2, decoyInt := orDefault (byteAt b 3) 16, serial := BitVec.ofNat 64 (beAt b 4 8),
    tf := tf, wo := orDefault (leAt b 0x0E 2) (tf * 10 / 4), swarn := orDefault (leAt b 0x10 4) (tf * 125),
    smax := orDefault (leAt b 0x14 4) (tf * 250), tbl := orDefault (leAt b 0x18 2) 10 }

/-- Everything that is read from an image before the records are judged. -/
structure RawImage where
  bytes : Bytes
  sects : List RawSect
  signals : List SignalRec
  chanRecs : List Bytes
  fns : List RawFn
  fnOver : Bool
  blks : List RawBlk
  blkOver : Option Nat
  spans : List (Span × Nat × Nat)
  consts : List (ParRec × Bool)
  axes : List AxisRec
  nodes : List NodeRec
  kslRecs : List Bytes

/-- The section of a type. -/
def sectOf (ss : List RawSect) (t : Nat) : Option RawSect := ss.find? (fun s => s.type == t)

/-- Its records of fixed size; none without the section. -/
def recsOf (b : Bytes) (ss : List RawSect) (t size : Nat) : List Bytes := match sectOf ss t with
  | none => []
  | some s => (fixedRecs b s size).1

/-- Size of the fixed records of a section; FUNCTION and BLOCK have none. -/
def recSize (t : Nat) : Nat := match t with
  | 1 | 2 | 8 => 32
  | 7 => 12
  | _ => 16

/-- The records of an image whose header, section table and signature block hold. -/
def readImage (b : Bytes) (ss : List RawSect) : RawImage :=
  let w := match sectOf ss 6 with
    | none => ([], none)
    | some s => walkBlks (s.len / 8 + 1) (sectBytes b s) 0
  let f := match sectOf ss 5 with
    | none => ([], false)
    | some s => readFns s.count (sectBytes b s)
  { bytes := b, sects := ss, signals := (recsOf b ss 3 16).map readSignal, chanRecs := recsOf b ss 4 16,
    fns := f.1, fnOver := f.2, blks := w.1, blkOver := w.2, spans := claimSpans w.1 w.2 f.1,
    consts := (recsOf b ss 7 12).map readPar, axes := (recsOf b ss 8 32).map readAxis,
    nodes := (recsOf b ss 2 32).map readNode, kslRecs := recsOf b ss 9 16 }

/-- The functions with the block records they claim, those of the walk alone. -/
def RawImage.graph (r : RawImage) : List FnRec :=
  List.zipWith (fun f s => { f.fn with blocks :=
    if s.1 == Span.misplaced then [] else ((r.blks.drop s.2.1).take s.2.2).map (·.blk) }) r.fns r.spans

/-- The function index and local index that claim record k of the walk. -/
def RawImage.owner (r : RawImage) (k : Nat) : Option (Nat × Nat) :=
  let i := r.spans.findIdx (fun s => s.1 != Span.misplaced && s.2.1 ≤ k && k < s.2.1 + s.2.2)
  match r.spans[i]? with
  | none => none
  | some s => some (i, k - s.2.1)

end Sys2Proof.Machine
end

