-- ==== Sys2Proof/Machine/GraphCheck.lean ====
section
/-! DEFINITION. The graph of a configuration's functions: the types of words (R69), host-reachable words (R103), words of a
single-port axis (R224), the command chain (R337), STO wiring (R220) and the binding of KRECV (R247). -/
namespace Sys2Proof.Machine

/-- An input reference taken apart (R78). -/
inductive Ref where
  | block (loc out : Nat)
  | const (i : Nat)
  | signal (i : Nat)
  | exported (fid e : Nat)
  | feedback (loc out : Nat)
  | unassigned
deriving DecidableEq, Repr

/-- The reference that a u32 encodes, R78. -/
def refOf (r : Nat) : Ref := match nbits r 31 28 with
  | 0 => .block (nbits r 17 4) (nbits r 3 0)
  | 1 => .const (nbits r 27 0)
  | 2 => .signal (nbits r 27 0)
  | 3 => .exported (nbits r 27 8) (nbits r 5 0)
  | 4 => .feedback (nbits r 17 4) (nbits r 3 0)
  | _ => .unassigned

/-- The parts of an image that the graph checks read. -/
structure GraphCtx where
  fns : List FnRec
  signals : List SignalRec
  consts : List ParRec
  axes : List AxisRec
  /-- Channel records of every node. -/
  chans : List ChanRec

/-- The index of a function by its FID. -/
def fnIndex (fns : List FnRec) (fid : Nat) : Option Nat :=
  let i := fns.findIdx (fun f => f.fid == fid)
  if i < fns.length then some i else none

/-- Block `loc` of function `fi`. -/
def blockAt (fns : List FnRec) (fi loc : Nat) : Option BlockRec := (fns[fi]?).bind (fun f => f.blocks[loc]?)

/-- Where an export leads: function index, local index, output (R76). -/
def exportAt (fns : List FnRec) (fid e : Nat) : Option (Nat × Nat × Nat) :=
  (fnIndex fns fid).bind (fun fi => ((fns[fi]?).bind (fun f => f.exps[e]?)).map (fun x => (fi, nbits x 17 4, nbits x 3 0)))

/-- The KSEND that a KRECV names (R247): function index and local index. -/
def boundKsend (fns : List FnRec) (b : BlockRec) : Option (Nat × Nat) :=
  (fnIndex fns (b.parN 0)).bind (fun fi => (blockAt fns fi (b.parN 1)).bind (fun k =>
    if k.type == 0x50 then some (fi, b.parN 1) else none))

/-- A table with an entry for every output of every block: by function, block, output. -/
abbrev OutTable (α : Type) := List (List (List α))

/-- An entry of such a table. -/
def outAt {α : Type} (t : OutTable α) (fi loc o : Nat) : Option α := ((t[fi]?).bind (fun x => x[loc]?)).bind (fun x => x[o]?)

/-- No type: the word's source does not settle it. -/
def noType : Nat := 9

/-- The type of the word a reference of function fi names, from the types found so far (R69). -/
def refType (g : GraphCtx) (t : OutTable Nat) (fi r : Nat) : Nat := match refOf r with
  | .block l o => (outAt t fi l o).getD noType
  | .feedback l o => (outAt t fi l o).getD noType
  | .const i => ((g.consts[i]?).map (·.type)).getD noType
  | .signal i => ((g.signals[i]?).map (·.type)).getD noType
  | .exported fid e => ((exportAt g.fns fid e).bind (fun x => outAt t x.1 x.2.1 x.2.2)).getD noType
  | .unassigned => noType

/-- The common type T of a block's inputs (SEL, CMP): the type of the first that settles it. -/
def commonType (b : BlockRec) (ts : List Nat) : Nat :=
  let xs := ((inTypes b.type b.nin).zip ts).filter (fun p => p.1 == 5 && p.2 != noType)
  (xs.head?.map (·.2)).getD noType

/-- The types of one block's outputs from those found so far. -/
def blockOutTypes (g : GraphCtx) (t : OutTable Nat) (fi : Nat) (b : BlockRec) : List Nat :=
  let ts := b.ins.map (refType g t fi)
  let ws := match b.type with
    | 0x51 => match boundKsend g.fns b with
      | none => List.replicate (b.nout - 2) noType
      | some (ki, kl) => (((blockAt g.fns ki kl).map (·.ins)).getD []).map (refType g t ki)
    | 0x58 => [((g.signals[b.parN 0]?).map (·.type)).getD noType]
    | _ => []
  outTypes b.type b.nout (commonType b ts) ws

/-- Passes over the graph until the types settle. -/
def settleTypes (g : GraphCtx) : Nat → OutTable Nat → OutTable Nat
  | 0, t => t
  | n + 1, t =>
    let t' := g.fns.zipIdx.map (fun p => p.1.blocks.map (blockOutTypes g t p.2))
    if t' == t then t else settleTypes g n t'

/-- How many passes settle a graph. -/
def passBound (g : GraphCtx) : Nat := g.fns.foldl (fun n f => n + f.blocks.foldl (fun m b => m + b.nout + 1) 1) 2

/-- The type of every output of every block (R69). -/
def graphTypes (g : GraphCtx) : OutTable Nat := settleTypes g (passBound g) []

/-- Does the reference name a marked word? `sig` marks the SIGNAL entries. -/
def refMarked (g : GraphCtx) (sig : SignalRec → Bool) (t : OutTable Bool) (fi r : Nat) : Bool := match refOf r with
  | .block l o => (outAt t fi l o).getD false
  | .feedback l o => (outAt t fi l o).getD false
  | .signal i => ((g.signals[i]?).map sig).getD false
  | .exported fid e => ((exportAt g.fns fid e).bind (fun x => outAt t x.1 x.2.1 x.2.2)).getD false
  | _ => false

/-- The marks of one block's outputs: all of them if an input is marked or the block is a source. Of a KRECV, a Q whose bound
input is marked (R250), and OK and DIAG if any of them is (R103, log 114). -/
def blockMarks (g : GraphCtx) (sig : SignalRec → Bool) (source : Nat) (t : OutTable Bool) (fi : Nat) (b : BlockRec) : List Bool :=
  let all := b.type == source || b.ins.any (refMarked g sig t fi)
  let bound := if b.type != 0x51 then [] else match boundKsend g.fns b with
    | none => []
    | some (ki, kl) => (((blockAt g.fns ki kl).map (·.ins)).getD []).map (refMarked g sig t ki)
  (List.range b.nout).map (fun o => all || bound.getD o (bound.any id))

/-- Passes over the graph until the marks settle. -/
def settleMarks (g : GraphCtx) (sig : SignalRec → Bool) (source : Nat) : Nat → OutTable Bool → OutTable Bool
  | 0, t => t
  | n + 1, t =>
    let t' := g.fns.zipIdx.map (fun p => p.1.blocks.map (blockMarks g sig source t p.2))
    if t' == t then t else settleMarks g sig source n t'

/-- A request slot read as a signal (R79). -/
def isSlotSignal (s : SignalRec) : Bool := s.kind == 4

/-- Host-reachable words, R103. -/
def hostMarks (g : GraphCtx) : OutTable Bool := settleMarks g isSlotSignal 0x58 (passBound g) []

/-- The INT word of an axis whose AXIS record has STYPE 3 (R224). -/
def isPickupSignal (g : GraphCtx) (s : SignalRec) : Bool :=
  s.kind == 6 && s.type == 1 && g.axes.any (fun a => a.node == s.node && a.axis == s.unit && a.stype == 3)

/-- Words that derive from such an axis, R224. -/
def pickupMarks (g : GraphCtx) : OutTable Bool := settleMarks g (isPickupSignal g) 0xFF (passBound g) []

/-- The channel record that a SIGNAL entry of KIND 1 or 2 names. -/
def signalChan (g : GraphCtx) (s : SignalRec) : Option ChanRec := g.chans.find? (fun c => c.node == s.node && c.chan == s.unit)

/-- The SIGNAL entry that parameter 0 of a block names. -/
def parSignal (g : GraphCtx) (b : BlockRec) : Option SignalRec := g.signals[b.parN 0]?

/-- The unit that only one block may name: a safety output by SOUT (R101), a report slot by HREPORT (R335). -/
def soleUnit (g : GraphCtx) (b : BlockRec) : Option (Nat × Nat × Nat) :=
  (parSignal g b).bind (fun s =>
    if b.type == 0x2E && s.kind == 2 then some (2, s.node, s.unit)
    else if b.type == 0x59 && s.kind == 5 then some (5, 0, s.unit) else none)

/-- A sole unit that an earlier block of the image has named, in order of functions and blocks. -/
def unitTaken (g : GraphCtx) (fi loc : Nat) (u : Nat × Nat × Nat) : Bool :=
  g.fns.zipIdx.any (fun p => p.1.blocks.zipIdx.any (fun q =>
    (p.2 < fi || (p.2 == fi && q.2 < loc)) && soleUnit g q.1 == some u))

/-- Is output o of block loc committed: its COMMIT bit, or a state word (R64)? -/
def outCommitted (b : BlockRec) (o : Nat) : Bool := nbit b.commit o || stateOutput b.type == some o

/-- The SOUTs whose EN reads output o of block loc directly. -/
def soutsFed (f : FnRec) (loc o : Nat) : List BlockRec :=
  f.blocks.filter (fun b => b.type == 0x2E && (b.ins.head?.map refOf) == some (Ref.block loc o))

/-- Output o of block loc is referenced within the function or exported. -/
def outUsed (f : FnRec) (loc o : Nat) : Bool :=
  f.blocks.any (fun b => b.ins.any (fun r => refOf r == .block loc o || refOf r == .feedback loc o))
    || f.exps.any (fun x => nbits x 17 4 == loc && nbits x 3 0 == o)

/-- STO wiring, R220: T1 and T2 each feed the EN of their own SOUT, on different channels; BRK, if used, feeds one too. -/
def stoWired (g : GraphCtx) (f : FnRec) (loc : Nat) : Bool :=
  let t1 := soutsFed f loc 0
  let t2 := soutsFed f loc 1
  t1.any (fun x => t2.any (fun y => soleUnit g x != soleUnit g y && soleUnit g x != none && soleUnit g y != none))
    && (!outUsed f loc 2 || !(soutsFed f loc 2).isEmpty)

/-- The command chain of R337 from a reference back to an AND with a safety condition; fuel is the local index bound. -/
def chainOk (g : GraphCtx) (marks : OutTable Bool) (fi : Nat) : Nat → Nat → Bool
  | 0, _ => false
  | n + 1, r => match refOf r with
    | .block l _ => match blockAt g.fns fi l with
      | none => false
      | some b =>
        if b.type == 0x01 then b.ins.any (fun x => !refMarked g isSlotSignal marks fi x)
        else if b.type == 0x2B || b.type == 0x40 || b.type == 0x0A || b.type == 0x0B || b.type == 0x0C then
          chainOk g marks fi n (b.ins.headD 0xFFFFFFFF)
        else false
    | _ => false

/-- A reference names something that exists and that a block may read (R78, CFG_REF). DESIGN CHOICE (log 162): what a function claims at or behind
an overrunning record exists for no reader. -/
def refExists (g : GraphCtx) (f : FnRec) (r : Nat) : Bool := match refOf r with
  | .block l o | .feedback l o => ((f.blocks[l]?).map (fun b => decide (o < b.nout))).getD false
  | .const i => i < g.consts.length
  | .signal i => ((g.signals[i]?).map (fun s => s.kind == 1 || s.kind == 3 || s.kind == 4 || s.kind == 6)).getD false
  | .exported fid e => fid != f.fid && (exportAt g.fns fid e).isSome
  | .unassigned => false

/-- The types of a block's inputs are those its table allows (R69, R87, R218). DESIGN CHOICE (log 165): a generic type that nothing settles is none. -/
def inTypesOk (b : BlockRec) (ts : List Nat) : Bool :=
  let t := commonType b ts
  ((inTypes b.type b.nin).zip ts).all (fun p => if p.1 == 4 then true else if p.1 == 5 then p.2 == t && t != noType else p.1 == p.2)
    && (b.type != 0x06 || t != 0)

/-- The types of the parameters (R78): those of the block's table, FV of SEL that of its inputs. -/
def parTypesOk (b : BlockRec) (ts : List Nat) : Bool :=
  ((parSpecs b.type).zip b.pars).all (fun p => p.2.type == (if p.1.type == 4 then commonType b ts else p.1.type))

/-- The values of the parameters (R62 and the block tables); a BOOL value uses bit 0 alone (R57). -/
def parValuesOk (b : BlockRec) : Bool :=
  ((parSpecs b.type).zip b.pars).all (fun p => p.2.qual == 1 && parInRange p.1 p.2.value
    && (p.2.type != 0 || p.2.value.toNat ≤ 1)) && parRelOk b

/-- The counts of a record that its table allows (R77). -/
def countsOk (b : BlockRec) : Bool :=
  !blockAssigned b.type || (ninOk b.type b.nin && noutOk b.type b.nout && b.npar == (parSpecs b.type).length)

/-- The first code among those whose fault is present. -/
def firstFault : List (Bool × Nat) → Option Nat
  | [] => none
  | (bad, code) :: r => if bad then some code else firstFault r

/-- The checks of R81 on one block record in table order; `held` is a fault of its reserved or held bits. -/
def checkBlock (g : GraphCtx) (types : OutTable Nat) (host pickup : OutTable Bool) (fi loc : Nat) (f : FnRec) (b : BlockRec)
    (held : Bool) : Option Nat :=
  let ts := b.ins.map (refType g types fi)
  let sig := parSignal g b
  let named := b.type == 0x2E || b.type == 0x58 || b.type == 0x59
  let kind := (sig.map (·.kind)).getD 0
  let ch := (sig.bind (signalChan g)).map (·.use)
  let recv := b.type == 0x51
  let ks := boundKsend g.fns b
  let barred := b.ins.zipIdx.any (fun p => hostBarred b.type p.2 && refMarked g isSlotSignal host fi p.1)
  firstFault [
    (held || b.commit / 2 ^ b.nout != 0 || !countsOk b, 0x101),
    (!blockAssigned b.type, 0x104),
    (!b.ins.all (refExists g f) || (named && sig.isNone) || (recv && (ks.isNone || b.parN 0 == f.fid)), 0x109),
    (b.ins.any (fun r => match refOf r with
      | .block l _ => decide (loc ≤ l)
      | _ => false), 0x10A),
    (!inTypesOk b ts || !parTypesOk b ts
      || (b.type == 0x2E && (kind != 2 || !(ch == some 4 || ch == some 5)))
      || (b.type == 0x58 && kind != 4) || (b.type == 0x59 && kind != 5)
      || (recv && ((ks.bind (fun k => blockAt g.fns k.1 k.2)).map (·.nin)) != some (b.nout - 2)), 0x10B),
    (!parValuesOk b || !ninFits b
      || (b.type == 0x2E && ch == some 5 && ((sig.map (·.unit)).getD 0) % 2 == 1)
      || ((soleUnit g b).map (unitTaken g fi loc)).getD false
      || (b.type == 0x59 && 255 < (sig.map (·.unit)).getD 0)
      || (b.type == 0x40 && !stoWired g f loc)
      || (b.type == 0x45 && refMarked g (isPickupSignal g) pickup fi (b.ins.getD 1 0)), 0x10C),
    (b.ins.any (fun r => match refOf r with
      | .feedback l o => !((f.blocks[l]?).map (fun x => outCommitted x o)).getD false
      | _ => false), 0x10D),
    (barred || (b.type == 0x2E && refMarked g isSlotSignal host fi (b.ins.getD 0 0)
      && !chainOk g host fi (loc + 1) (b.ins.getD 0 0)), 0x110)]

end Sys2Proof.Machine
end

