-- ==== Sys2Proof/Machine/StateField.lean ====
section
/-! DEFINITION. State of the field side: inputs, test-pulse sources, outputs, bank feeds and barrier links (chapters 07 and 08). -/
namespace Sys2Proof.Machine

/-- A band run of a monitored input (R156): its start, whether every sample of it was in WIRE_BREAK, and whether it has lasted FILT. -/
structure BandRun where
  start : BitVec 64
  allBreak : Bool
  judged : Bool
deriving DecidableEq, Repr

/-- One sequencer's view of one input channel (R154 to R157, R167). -/
structure SeqIn where
  /-- Accepted state of the filter, and the start of a pending change. -/
  acc : Bool
  pend : Option (BitVec 64)
  /-- The comparator's readings, newest first: the instants from which each held (R153). -/
  cmps : List (BitVec 64 × Bool)
  /-- Start of the bound source's pulse window, while it masks samples and until the first unmasked sample after it; the instant at which
  the terminal was high again. -/
  window : Option (BitVec 64)
  highTb : Option (BitVec 64)
  /-- The band run in progress. -/
  run : Option BandRun
  /-- Band and current of the last unmasked sample (0 before one). -/
  band : Nat
  cur : Nat
  /-- Band faults, in the order in which they came: 1 WIRE_BREAK, 2 INDETERMINATE; and when a run of each kind was last there. -/
  bandFaults : List Nat
  breakTb : BitVec 64
  indetTb : BitVec 64
  /-- Code fault: 3 CODE_STUCK or 4 CODE_FOREIGN. -/
  codeFault : Option Nat
  foreign : Nat
  /-- The code fault's cause is final. -/
  final : Bool
  /-- Slot of the first mismatch of the code fault. -/
  firstMis : Nat
  /-- Judged slots, newest first: slot number, mismatch. -/
  judged : List (Nat × Bool)
deriving DecidableEq, Repr

/-- The agreed data of one input channel (R160, R170, R172). -/
structure InCh where
  state : Bool
  fault : Bool
  /-- Causes present, in the order in which they set the fault. -/
  causes : List Nat
  foreign : Nat
  /-- Consecutive frames in which the two latches differed. -/
  differ : Nat
  /-- The lanes hold DISAGREE, and SOURCE, until each clears (R160, R170); the latest latch that showed each cause. -/
  dis : Bool
  disTb : BitVec 64
  srcBad : Bool
  srcTb : BitVec 64
  stdin : Bool
  /-- FA's band, and both currents (R172). -/
  band : Nat
  curA : Nat
  curB : Nat
deriving DecidableEq, Repr

/-- The state of a test-pulse source (R165, R166, R172). -/
inductive SrcState where
  | off
  | active
  | faulted
  | untested
deriving DecidableEq, Repr

/-- The pulse that FA has placed in a slot (R162, R164): the slot's number since frame 0, its half, its centre, and its width in ticks. -/
structure PlacedPulse where
  slot : Nat
  early : Bool
  centre : BitVec 64
  width : Nat
deriving DecidableEq, Repr

/-- A test-pulse source. -/
structure SrcSt where
  st : SrcState
  /-- A faulted source is switched off until its restart (R165). -/
  stopped : Bool
  /-- Slot errors seen by each sequencer in the last 24 slots, newest first. -/
  errA : List Bool
  errB : List Bool
  /-- Consecutive slots without a slot error since the restart. -/
  good : Nat
  placed : Option PlacedPulse
  cur : Nat
  /-- Its check has passed; without a record it is off all the same (R151). -/
  passed : Bool
deriving DecidableEq, Repr

/-- One switch of an output channel, with its off-pulse test (R180, R184, R185). -/
structure SwitchSt where
  /-- The gate as the sequencer applies it. -/
  gate : Bool
  /-- The switch is opened by its sequencer against the gate image: SHORT, THERMAL. -/
  opened : Bool
  therm : Bool
  pulsing : Bool
  /-- The last off-pulse failed and is to be repeated. -/
  failed : Bool
  /-- An off-pulse that is due waits for the end of a sag, or of the other switch's pulse (R184, R192). -/
  deferred : Bool
  /-- It waits for the end of the masking of an input latch (R184). -/
  shifted : Bool
  /-- After a thermal shutdown the switch of a safety output stays open until its gate has been commanded open, and that of a standard output
  that is latched off until CLEAR_STD (R180). -/
  held : Bool
  /-- TB of the last switch-off: its sequencer drives the pin's active sink for 2 ms from then (R173). -/
  offTb : Option (BitVec 64)
deriving DecidableEq, Repr

/-- A fault cause of an output channel, and the sequencers that hold it (R187). -/
structure OutCause where
  cause : Nat
  byA : Bool
  byB : Bool
deriving DecidableEq, Repr

/-- An output channel (R173 to R187, R204). -/
structure OutCh where
  swA : SwitchSt
  swB : SwitchSt
  /-- Channel faults present, earliest first. -/
  causes : List OutCause
  /-- The agreed fault bit of the latest latch. -/
  fault : Bool
  overdue : Bool
  limit : Bool
  mid : Bool
  cur : Nat
  rbA : Bool
  rbB : Bool
  /-- TB of the thermal shutdowns of the last 60 s (R180). -/
  shutdowns : List (BitVec 64)
  /-- Step of the single-switch test in progress, 0 when none; whether it is due; whether one has passed since reset. -/
  test : Nat
  testDue : Bool
  tested : Bool
  /-- Step 1 of the test in progress has failed; the due test is one that a sag has discarded (R186, R192). -/
  testBad : Bool
  testHeld : Bool
deriving DecidableEq, Repr

/-- The state of a bank (R191). -/
inductive BankState where
  | untested
  | ok
  | sag
  | low
  | lost
deriving DecidableEq, Repr

/-- A bank (R189 to R195, R204). -/
structure BankSt where
  st : BankState
  cause : Nat
  feedA : Nat
  feedB : Nat
  cur : Nat
  /-- Ride-through expired, as each sequencer reports it. -/
  expA : Bool
  expB : Bool
  ocA : Bool
  ocB : Bool
  /-- First latch of the run in which the two measurements differ by more than 1.0 V (R190). -/
  monSince : Option (BitVec 64)
  /-- The feed has recovered, as R191 asks; it waits for the next latch. -/
  recovered : Bool
  /-- The feed has been above WARN for 100 ms and the single-switch tests run; they have run. -/
  testing : Bool
  testsRun : Bool
deriving DecidableEq, Repr

/-- The state of a barrier link as FLD_BL shows it (R204). -/
inductive LinkState where
  | down
  | training
  | up
  | silence
deriving DecidableEq, Repr

/-- One barrier link with its sequencer's receiver (R198 to R204). -/
structure LinkSt where
  st : LinkState
  /-- The configuration whose parameters the last successful training has handed to the sequencer, and the one that it follows from the frame
  marker on; none stands for the default parameters (R203, R362, R365). -/
  given : Option Image
  par : Option Image
  /-- SEQ of the next packet of each direction, and of the last valid packet received. -/
  dnSend : Nat
  upSend : Nat
  dnLast : Nat
  upLast : Nat
  /-- Consecutive invalid downlink packets. -/
  badRun : Nat
  rxErr : Bool
  safe : Bool
  /-- The sequencer obeys an ALLOFF packet. -/
  offRx : Bool
  /-- Safety gates are open after two invalid packets. -/
  openRx : Bool
  /-- The lane sends ALLOFF; the next packet carries FM. -/
  allOff : Bool
  marker : Bool
  /-- Latest released image of the lane. -/
  image : BitVec 96
  /-- What the sequencer latched at the latest frame marker: STATE, FAULT, BANK bytes. -/
  seqState : BitVec 96
  seqFault : BitVec 96
  seqBank : List Nat
  /-- What the lane has taken for the frame, and the FAULT and BANK bytes of the frame before (R201). -/
  latState : BitVec 96
  latFault : BitVec 96
  latBank : List Nat
  prevFault : BitVec 96
  prevBank : List Nat
  /-- A valid latch packet of the frame has been taken (R200). -/
  latOk : Bool
  /-- The sequencer holds a latch to send, twice (R200). -/
  latSend : Nat
  aux : Nat
  err : BitVec 32
  miss : BitVec 16
  missRun : Nat
  /-- The latch of the frame in hand was missed. -/
  missed : Bool
deriving DecidableEq, Repr

/-- The field side. -/
structure FldSt where
  seqA : List SeqIn
  seqB : List SeqIn
  ins : List InCh
  /-- Inputs and banks as the frame before left them, from which a latch is judged. -/
  insPrev : List InCh
  banksPrev : List BankSt
  idisCnt : BitVec 32
  srcs : List SrcSt
  outs : List OutCh
  /-- Sources, outputs, inputs and banks as the latest F(n) found them, for the FLD page (R172, R204). -/
  srcsF : List SrcSt
  outsF : List OutCh
  insF : List InCh
  banksF : List BankSt
  /-- Gate image of lane A, applied standard outputs and states of BLA and BLB as the latest F(n) found them. -/
  cmdF : BitVec 96
  stdF : BitVec 96
  blF : LinkState × LinkState
  banks : List BankSt
  linkA : LinkSt
  linkB : LinkSt
  /-- Packets handed to the links, newest last (observable). -/
  sent : List (Lane × Bool × Bytes)
deriving DecidableEq, Repr

/-- Reset values (R172, R204; the sequencers' own state has no reset value in the rules). -/
def SeqIn.reset : SeqIn where
  acc := false
  pend := none
  cmps := []
  window := none
  highTb := none
  run := none
  band := 0
  cur := 0
  bandFaults := []
  breakTb := 0
  indetTb := 0
  codeFault := none
  foreign := 0x1F
  final := false
  firstMis := 0
  judged := []
def InCh.reset : InCh := ⟨false, false, [], 0x1F, 0, false, 0, false, 0, false, 0, 0, 0⟩
def SrcSt.reset : SrcSt := ⟨.off, false, [], [], 0, none, 0, false⟩
def SwitchSt.reset : SwitchSt := ⟨false, false, false, false, false, false, false, false, none⟩
def OutCh.reset : OutCh := ⟨SwitchSt.reset, SwitchSt.reset, [], false, false, false, false, 0, false, false, [], 0, false, false, false, false⟩
def BankSt.reset : BankSt := ⟨.untested, 0, 0, 0, 0, false, false, false, false, none, false, false, false⟩
def LinkSt.reset : LinkSt where
  st := .down
  given := none
  par := none
  dnSend := 0
  upSend := 0
  dnLast := 15
  upLast := 15
  badRun := 0
  rxErr := false
  safe := false
  offRx := false
  openRx := false
  allOff := false
  marker := false
  image := 0
  seqState := 0
  seqFault := 0
  seqBank := List.replicate 6 0
  latState := 0
  latFault := 0
  latBank := List.replicate 6 0
  prevFault := 0
  prevBank := List.replicate 6 0
  latOk := false
  latSend := 0
  aux := 0
  err := 0
  miss := 0
  missRun := 0
  missed := false
def FldSt.reset : FldSt where
  seqA := List.replicate 96 SeqIn.reset
  seqB := List.replicate 96 SeqIn.reset
  ins := List.replicate 96 InCh.reset
  insPrev := List.replicate 96 InCh.reset
  banksPrev := List.replicate 6 BankSt.reset
  idisCnt := 0
  srcs := List.replicate 24 SrcSt.reset
  outs := List.replicate 96 OutCh.reset
  srcsF := List.replicate 24 SrcSt.reset
  outsF := List.replicate 96 OutCh.reset
  insF := List.replicate 96 InCh.reset
  banksF := List.replicate 6 BankSt.reset
  cmdF := 0
  stdF := 0
  blF := (.down, .down)
  banks := List.replicate 6 BankSt.reset
  linkA := LinkSt.reset
  linkB := LinkSt.reset
  sent := []

end Sys2Proof.Machine
end

