-- ==== Sys2Proof/Machine/StateHost.lean ====
section
/-! DEFINITION. State of the system bus, the host island and the Hedge: the SYS, EVT, HST, TTU, FUS and LCY pages, the rings,
the MRAM and the fuses (chapters 14 to 18, 20, 21). -/
namespace Sys2Proof.Machine

/-- Start-up and the SYS page (R363 to R373, R435 to R438). -/
structure SysSt where
  variant : Nat
  revMaj : Nat
  revMin : Nat
  /-- SYS_BOOT.STEP: highest step reached. -/
  step : Nat
  /-- SYS_BOOT.CAUSE, R367. -/
  cause : Nat
  halt : Bool
  /-- The step from 1 to 10 in progress; 0 when none is. -/
  running : Nat
  /-- Held in reset for SUPPLY, retried every 100 ms (R367). -/
  supplyHold : Bool
  /-- HOLD without configuration (R365). -/
  noCfg : Bool
  /-- STARTUP_END has been raised for this start-up (R370). -/
  ended : Bool
  /-- The running sequence is a wake from STANDBY (R409). -/
  wake : Bool
  /-- A wake has been asked for while the entry into STANDBY runs (R436). -/
  wakeReq : Bool
  /-- The entry into STANDBY is in progress (R409). -/
  entering : Bool
  /-- Failed trainings of step 7 (R363). -/
  trainTries : Nat
  /-- VDD is above its thresholds (R361). -/
  powered : Bool
  /-- SYS_RSTCAUSE: bit 0 POR, 1 BROWNOUT, 2 PIN, 3 SOFT. -/
  rstcause : BitVec 4
  tempBad : Bool
  /-- SYS_CLK as in its field map. -/
  clk : BitVec 8
  /-- LCY_STATE.PWR: 0 before step 5, 1 HOLD, 2 RUN, 3 STANDBY. -/
  pwr : Nat
  /-- SYS_PWR.REQ. -/
  pwrReq : BitVec 2
  convA : Bool
  convB : Bool
  /-- SYS_ERR: bit 0 STALL, 1 PWR, 2 KEY, 3 RUN, 4 ACCESS. -/
  err : BitVec 5
  wakeMask : BitVec 32
  vddMv : BitVec 16
  rejCode : BitVec 16
  rejCls : BitVec 8
  rejItem : BitVec 32
  /-- TB at the power-on release (R370). -/
  releaseTb : BitVec 64
  hedgeStalled : Bool
  hostStalled : Bool
  /-- The host island answers (R369). -/
  answers : Bool
deriving DecidableEq, Repr

/-- An event as its cause raises it: source, INFO words, and for a demand record the record queued before it (R145, R443). -/
structure RawEvt where
  src : Nat
  i0 : Nat
  i1 : Nat
  i2 : Nat
  record : Option Bytes
deriving DecidableEq, Repr

/-- The EVT page and the event controller (R328, R329, R439, R443). Lists are indexed by source. -/
structure EvtSt where
  map : List (BitVec 5)
  /-- Events held and not yet summarised; the 16-bit counter and its SAT flag are views. -/
  held : List Nat
  /-- ESEQ of the latest event raised. -/
  eseq : BitVec 32
  cnt : List (BitVec 32)
  /-- For every source raised "first in any second": key (source, connection) and the window of TB last used. -/
  win : List (Nat × Nat × Nat)
  /-- The latest event was queued, so that the next held one raises EVT_OVERFLOW (R329). -/
  wasQueued : Bool
  /-- Events raised by the command in hand, in the order in which it raises them; empty between commands. -/
  raised : List RawEvt
deriving DecidableEq, Repr

/-- One ring as its registers hold it (R315 to R318). -/
structure RingSt where
  base : BitVec 64
  size : Nat
  p : BitVec 32
  c : BitVec 32
deriving DecidableEq, Repr

/-- An outstanding command (R322): the 64-byte entry, and whether it is past its commit point, its end. -/
structure Outst where
  ring : Nat
  tag : BitVec 16
  entry : Bytes
  /-- The command has ended: its completion waits to be written. -/
  ended : Bool
  /-- READ_DIAG has begun and waits for the C instant of its snapshot (R324). -/
  waiting : Bool
deriving DecidableEq, Repr

/-- The completion of an ended command, with the ring and tag of its command. -/
structure Completion where
  ring : Nat
  tag : BitVec 16
  entry : Bytes
  /-- The command had passed its commit point when it ended (R322, R341). -/
  committed : Bool
deriving DecidableEq, Repr

/-- An ordered posted write into host memory or an MSI-X message (R317). -/
inductive Post where
  /-- A ring entry at its address. -/
  | entry (ring : Nat) (address : Nat) (data : Bytes)
  /-- The module's count for a ring in the status block. -/
  | status (ring : Nat) (address : Nat) (count : BitVec 32)
  /-- The whole status block. -/
  | statusBlock (address : Nat) (data : Bytes)
  /-- An MSI-X message of a vector. -/
  | msix (vector : Nat) (address : BitVec 64) (data : BitVec 32)
  /-- Bytes of a command's buffer. -/
  | buffer (address : Nat) (data : Bytes)
  /-- Bytes of the process image. -/
  | image (address : Nat) (data : Bytes)
deriving DecidableEq, Repr

/-- The registers of the PCI Express configuration space that the host writes (R312, R314): BAR0, Memory Space Enable, MSI-X Enable and Function
Mask, Device Control and the ASPM control of Link Control. Bus Master Enable and the power state are states of their own. -/
structure PciSt where
  bar0 : BitVec 32
  memEn : Bool
  msixEn : Bool
  msixMask : Bool
  devCtl : BitVec 16
  aspm : BitVec 2
deriving DecidableEq, Repr

/-- Its reset values, those of PCI Express: a maximum read request size of 512 bytes; relaxed ordering and no-snoop are never used (R312). -/
def PciSt.reset : PciSt := ⟨0, false, false, false, 0x2000, 0⟩

/-- The newest REQUEST entry of a slot with the TB of its consumption (R334). -/
structure SlotSt where
  value : Val
  tb : BitVec 64
deriving DecidableEq, Repr

/-- A report slot of the process image (R331, R335). -/
structure ReportSt where
  word : W72
  frame : BitVec 32
deriving DecidableEq, Repr

/-- An entry of the MSI-X table (R440). -/
structure MsixSt where
  addr : BitVec 64
  data : BitVec 32
  ctrl : BitVec 32
deriving DecidableEq, Repr

/-- The host island (chapter 14). -/
structure HostSt where
  ringEn : BitVec 7
  piEn : Bool
  /-- HST_ERR: bit 0 SIZE, 1 ALIGN, 2 DB, 3 ENABLED, 4 BUSY, 5 REQ, 6 DMA. -/
  err : BitVec 7
  lostCommitted : BitVec 16
  lostCancelled : BitVec 16
  sb : BitVec 64
  pi : BitVec 64
  div : BitVec 7
  /-- HST_PI_GEN: the last GEN_B written. -/
  piGen : BitVec 32
  /-- Updates made since PI_EN was set (R332). -/
  piCnt : Nat
  tunDrop : BitVec 32
  reqDrop : BitVec 32
  rings : List RingSt
  /-- The function is in D3hot. -/
  d3 : Bool
  linkUp : Bool
  busMaster : Bool
  tunEn : Bool
  outst : List Outst
  done : List Completion
  /-- Ring and tag of every command whose completion has been written since the island's reset (R327). -/
  seen : List (Nat × BitVec 16)
  /-- Request slots (R334): newest value, and the image latched at F(n). -/
  slots : List (Option SlotSt)
  slotLatch : List (Option SlotSt)
  /-- Host states of standard outputs, their off-latches, and the CLEAR_STD masks of the next C instant (R338). -/
  std : BitVec 96
  stdLatch : BitVec 96
  clearReq : BitVec 96
  reports : List (Option ReportSt)
  pci : PciSt
  msix : List MsixSt
  pba : BitVec 32
  posted : List Post
deriving DecidableEq, Repr

/-- A general timer (R348 to R353). -/
structure GtSt where
  cfg : BitVec 32
  buf : BitVec 32
  /-- BUF of the high half of a linked pair, written and not yet taken. -/
  staged : BitVec 32
  cnt : BitVec 32
  out : Bool
  down : Bool
  presc : Nat
  /-- Enabled at least once since reset (R355). -/
  started : Bool
  /-- An event happened on the last bus tick: it acts on slaves now. -/
  ev : Bool
  /-- The top taken at the last arrival at 0 in UPDOWN. -/
  top : BitVec 32
  /-- Enabled while frozen: it starts when the freeze ends (R352, R357). -/
  due : Bool
deriving DecidableEq, Repr

/-- A compare channel (R355, R356). -/
structure CcSt where
  cfg : BitVec 32
  lo : BitVec 32
  hi : BitVec 32
  v : BitVec 64
  armed : Bool
  late : Bool
  past : Bool
  fired : Bool
deriving DecidableEq, Repr

/-- The TTU page (chapter 15). -/
structure TtuSt where
  /-- TTU_ERR: bit 0 MODE, 1 LOOP, 2 TGT, 3 CFGEN, 4 RUN. -/
  err : BitVec 5
  en : BitVec 16
  freeze : BitVec 16
  link : BitVec 8
  ccEn : BitVec 32
  gts : List GtSt
  ccs : List CcSt
deriving DecidableEq, Repr

/-- One of the two sets of physical bits of a fuse word as the three references read it (R374, R378). -/
structure FuseCopy where
  normal : BitVec 32
  program : BitVec 32
  erase : BitVec 32
deriving DecidableEq, Repr

/-- A logical word of the fuse bank: every bit is stored in two physical bits (R374). -/
structure FuseWord where
  copy0 : FuseCopy
  copy1 : FuseCopy
deriving DecidableEq, Repr

/-- A block-library patch in MRAM (R390): its revision, the vendor slot that it names, its bytes and their signature. -/
structure LibPatch where
  rev : BitVec 16
  slot : Nat
  body : Bytes
  sig : Bytes
deriving DecidableEq, Repr

/-- A configuration slot (R80). -/
inductive SlotCfg where
  | empty
  | loaded (image : Bytes)
  | active (image : Bytes)
deriving DecidableEq, Repr

/-- What the module keeps without power: fuses and MRAM. -/
structure NvSt where
  fuse : List FuseWord
  slots : List SlotCfg
  /-- The stored acceptance record of 256 bytes (R286). -/
  accRec : Option Bytes
  /-- The key store (R386): for vendor slots 0 and 1 and owner slots 0 to 3, the public key of 97 bytes. -/
  keys : List (Option Bytes)
  /-- The log (R147), oldest first: DSEQ and the 32-byte record. -/
  log : List (Nat × Bytes)
  dseq : BitVec 32
  /-- Known lease epochs by FID (R296). -/
  epochs : List (Nat × BitVec 32)
  cert : Bytes
  libPatch : Option LibPatch
deriving DecidableEq, Repr

/-- The FUS page (R394). -/
structure FusSt where
  /-- Step 3 has ended: the fuse-derived fields have their values. -/
  sensed : Bool
  alarmReg : BitVec 8
  alarmOpen : Bool
  vddProg : Bool
  advanced : Bool
  lcy : Nat
  /-- Region states as of the last update (R377). -/
  regState : List Nat
  weakReg : BitVec 8
  weakFirst : Option Nat
  /-- Words WEAK at step 3. -/
  weakWords : List Nat
  lock : BitVec 8
  /-- FUS_KEYS: usable slots as of step 3 or the last FUSE_PROG, vendor slots in bits [1:0], owner slots in bits [5:2] (R394). -/
  usable : BitVec 6
  vrev : BitVec 2
  orev : BitVec 4
  dbgpol : BitVec 3
  serial : BitVec 64
  libEff : BitVec 16
  progCnt : BitVec 32
  lastStatus : BitVec 16
  lastWord : BitVec 9
  /-- CAL words in use: FW032 to FW094, after R380. -/
  cal : List (BitVec 32)
  /-- The device identity key is usable (R391). -/
  idUsable : Bool
  /-- The device identity private key as the Hedge has unwrapped it at step 3 (R391). -/
  devKey : Nat
  /-- FUS_WORD0 to FUS_WORD511 and FUS_CERTLEN as step 3 has left them (R394). -/
  words : List (BitVec 32)
  certLen : Nat
deriving DecidableEq, Repr

/-- The debug states (R399). -/
inductive DbgState where
  | closed
  | bench
  | auth
deriving DecidableEq, Repr

/-- Debug, the LCY page and the TAP (chapter 18). -/
structure LcySt where
  dbg : DbgState
  signer : BitVec 4
  /-- TB at which the AUTH session ends. -/
  authEnd : BitVec 64
  /-- BENCH was entered from an AUTH session that has not ended (R400, R406). -/
  benchBelow : Bool
  chal : Option (Bytes × BitVec 64)
  haltCnt : BitVec 32
  authFail : BitVec 32
  refused : Bool
  ir : BitVec 6
  /-- What the last scan of an instruction has put out (R396). -/
  irOut : BitVec 6
  /-- Values shifted out by the last instruction. -/
  dr : BitVec 72
  /-- Boundary-scan cells last captured, and the output cells last driven. -/
  cells : BitVec 28
  /-- EXTEST drives the output cells. -/
  driving : Bool
  /-- Forced targets (R403): target and value. -/
  forced : List (Nat × BitVec 64)
  forcedNext : List (Nat × BitVec 64)
deriving DecidableEq, Repr

/-- SYS page and start-up at reset (R435); VDD is present and step 1 runs. -/
def SysSt.reset : SysSt where
  variant := 1
  revMaj := 1
  revMin := 0
  step := 1
  cause := 0
  halt := false
  running := 1
  supplyHold := false
  noCfg := false
  ended := false
  wake := false
  wakeReq := false
  entering := false
  trainTries := 0
  powered := true
  rstcause := 1
  tempBad := false
  clk := 0
  pwr := 0
  pwrReq := 1
  convA := false
  convB := false
  err := 0
  wakeMask := 0
  vddMv := 0
  rejCode := 0
  rejCls := 0
  rejItem := 0
  releaseTb := 0
  hedgeStalled := false
  hostStalled := false
  answers := false

/-- EVT page at reset (R439): the default vector of source s is s >> 3. -/
def EvtSt.reset : EvtSt where
  map := (List.range 256).map (fun s => BitVec.ofNat 5 (s / 8))
  held := List.replicate 256 0
  eseq := 0
  cnt := List.replicate 256 0
  win := []
  wasQueued := false
  raised := []

/-- A ring at reset (R343). -/
def RingSt.reset : RingSt := ⟨0, 0x10, 0, 0⟩

/-- An MSI-X vector at reset: masked (R440). -/
def MsixSt.reset : MsixSt := ⟨0, 0, 1⟩

/-- The host island at reset (R343, R344). -/
def HostSt.reset : HostSt where
  ringEn := 0
  piEn := false
  err := 0
  lostCommitted := 0
  lostCancelled := 0
  sb := 0
  pi := 0
  div := 1
  piGen := 0
  piCnt := 0
  tunDrop := 0
  reqDrop := 0
  rings := List.replicate 7 RingSt.reset
  d3 := false
  linkUp := true
  busMaster := true
  tunEn := false
  outst := []
  done := []
  seen := []
  slots := List.replicate 256 none
  slotLatch := List.replicate 256 none
  std := 0
  stdLatch := 0
  clearReq := 0
  reports := List.replicate 256 none
  pci := PciSt.reset
  msix := List.replicate 32 MsixSt.reset
  pba := 0
  posted := []

/-- A general timer at reset (R360). -/
def GtSt.reset : GtSt := ⟨0, 0xFFFFFFFF, 0xFFFFFFFF, 0, false, false, 0, false, false, 0, false⟩

/-- A compare channel at reset (R360): it targets TB. -/
def CcSt.reset : CcSt := ⟨0x80000000, 0, 0, 0, false, false, false, false⟩

/-- The TTU page at reset (R360). -/
def TtuSt.reset : TtuSt := ⟨0, 0, 0, 0, 0, List.replicate 16 GtSt.reset, List.replicate 32 CcSt.reset⟩

/-- A fuse word with no bit blown. -/
def FuseWord.clear : FuseWord := ⟨⟨0, 0, 0⟩, ⟨0, 0, 0⟩⟩

/-- Fuses and MRAM of the module as delivered to the model: nothing programmed, nothing stored. -/
def NvSt.reset : NvSt where
  fuse := List.replicate 512 FuseWord.clear
  slots := [.empty, .empty]
  accRec := none
  keys := List.replicate 6 none
  log := []
  dseq := 0
  epochs := []
  cert := []
  libPatch := none

/-- The FUS page at reset (R394). -/
def FusSt.reset : FusSt where
  sensed := false
  alarmReg := 0
  alarmOpen := false
  vddProg := false
  advanced := false
  lcy := 0
  regState := List.replicate 8 0
  weakReg := 0
  weakFirst := none
  weakWords := []
  lock := 0
  usable := 0
  vrev := 0
  orev := 0
  dbgpol := 7
  serial := 0
  libEff := 0
  progCnt := 0
  lastStatus := 0
  lastWord := 0
  cal := []
  idUsable := false
  devKey := 0
  words := []
  certLen := 0

/-- The LCY page and the TAP at reset (R411). -/
def LcySt.reset : LcySt where
  dbg := .closed
  signer := 0xF
  authEnd := 0
  benchBelow := false
  chal := none
  haltCnt := 0
  authFail := 0
  refused := false
  ir := 1
  irOut := 0
  dr := 0
  cells := 0
  driving := false
  forced := []
  forcedNext := []

end Sys2Proof.Machine
end

