-- ==== Sys2Proof/Machine/BlocksLogic.lean ====
section
/-! DEFINITION. The logic and timing blocks (R69 to R72) on values in lane A form. -/
namespace Sys2Proof.Machine

/-- What a block sees of its present values: the effective values of its inputs (an input that does not count
holds its demand value, R84), whether every contributing input is usable, its parameters, its state words' values. -/
structure BlockIn where
  x : List Val
  /-- Each input is usable. -/
  us : List Bool
  ok : Bool
  /-- Type code of the first typed input (CMP, SEL). -/
  ty : Nat
  par : List Val
  st : List Val
  /-- D of R66, in TB ticks. -/
  d : Nat
  nin : Nat
  /-- CHOK of the channel a SOUT drives (R101). -/
  chok : Bool
  /-- EN carries TRANS, AGED or FALLOW (R101). -/
  holdOnly : Bool
  /-- Domain mode, mode epoch and transition window of the function (R97, R305). -/
  mode : Nat
  epoch : Nat
  window : Bool

/-- What a block answers: values of its outputs and state words, and qualifier bits it adds to its outputs. -/
structure BlockOut where
  outs : List Val
  st : List Val
  add : BitVec 8 := 0

/-- Input i as a BOOL. -/
def BlockIn.b (e : BlockIn) (i : Nat) : Bool := isOn (e.x.getD i 0)
/-- Parameter i. -/
def BlockIn.p (e : BlockIn) (i : Nat) : Nat := (e.par.getD i 0).toNat
/-- State word i. -/
def BlockIn.s (e : BlockIn) (i : Nat) : Val := e.st.getD i 0
/-- State word i as a number. -/
def BlockIn.n (e : BlockIn) (i : Nat) : Nat := (e.s i).toNat
/-- Flag j of state word i. -/
def BlockIn.f (e : BlockIn) (i j : Nat) : Bool := (e.s i).getLsbD j

/-- An elapsed-time word advanced by D. -/
def addD (n d : Nat) : Nat := (n + d) % 2 ^ 64
/-- REM > D ? REM − D : 0 (R71). -/
def decD (rem d : Nat) : Nat := if rem > d then rem - d else 0
/-- A number as a word's value. -/
def nv (n : Nat) : Val := BitVec.ofNat 64 n

/-- The bit of an edge-holding word that marks it primed (R68). DESIGN CHOICE (log 22): bit 63; the inputs lie from bit 0. -/
def primedBit : Nat := 63
/-- An edge-holding word that holds these inputs, primed. -/
def prevVal (l : List Bool) : Val := flagVal l ||| (1#64 <<< primedBit)
/-- Input j rises against the primed word p (R68). -/
def rise (p : Val) (j : Nat) (now : Bool) : Bool := p.getLsbD primedBit && !p.getLsbD j && now
/-- Input j falls against the primed word p. -/
def fall (p : Val) (j : Nat) (now : Bool) : Bool := p.getLsbD primedBit && p.getLsbD j && !now
/-- The edge-holding word after an evaluation: primed from the inputs, or unprimed after the unusable rule (R68). -/
def nextPrev (ok : Bool) (l : List Bool) : Val := if ok then prevVal l else 0

/-- AND, R69. -/
def blkAnd (e : BlockIn) : BlockOut := ⟨[boolVal (e.x.all isOn)], [], 0⟩
/-- OR, R69. -/
def blkOr (e : BlockIn) : BlockOut := ⟨[boolVal (e.x.any isOn)], [], 0⟩
/-- XOR, R69. -/
def blkXor (e : BlockIn) : BlockOut := ⟨[boolVal (e.b 0 != e.b 1)], [], 0⟩
/-- NOT, R69. -/
def blkNot (e : BlockIn) : BlockOut := ⟨[boolVal (!e.b 0)], [], 0⟩
/-- SEL, R69. -/
def blkSel (e : BlockIn) : BlockOut := ⟨[if e.b 0 then e.x.getD 2 0 else e.x.getD 1 0], [], 0⟩
/-- Is x below y in the type: unsigned for TIME, signed for INT and SPEED (R69). -/
def typedLt (ty : Nat) (x y : Val) : Bool := if ty == 2 then x.ult y else x.slt y
/-- CMP, R69. -/
def blkCmp (e : BlockIn) : BlockOut :=
  let x := e.x.getD 0 0
  let y := e.x.getD 1 0
  let lt := typedLt e.ty x y
  let q := match e.p 0 with
    | 0 => x == y
    | 1 => x != y
    | 2 => lt
    | 3 => lt || x == y
    | 4 => typedLt e.ty y x
    | _ => typedLt e.ty y x || x == y
  ⟨[boolVal q], [], 0⟩
/-- EDGE, R69. -/
def blkEdge (e : BlockIn) : BlockOut :=
  let r := rise (e.s 0) 0 (e.b 0)
  let f := fall (e.s 0) 0 (e.b 0)
  let q := match e.p 0 with
    | 0 => r
    | 1 => f
    | _ => r || f
  ⟨[boolVal q], [nextPrev e.ok [e.b 0]], 0⟩
/-- LATCH, R69. -/
def blkLatch (e : BlockIn) : BlockOut :=
  let q := if e.b 0 && e.b 1 then e.p 0 == 1 else if e.b 0 then true else if e.b 1 then false else e.f 0 0
  let q := e.ok && q
  ⟨[boolVal q], [boolVal q], 0⟩
/-- A value held within MIN and MAX. -/
def clampInt (lo hi x : Int) : Int := if x < lo then lo else if hi < x then hi else x
/-- COUNT, R69. Parameters PV, MIN, MAX, LDV. -/
def blkCount (e : BlockIn) : BlockOut :=
  let lo := (e.par.getD 1 0).toInt
  let hi := (e.par.getD 2 0).toInt
  let cv := (e.s 0).toInt
  let up : Int := if rise (e.s 1) 0 (e.b 0) then 1 else 0
  let dn : Int := if rise (e.s 1) 1 (e.b 1) then 1 else 0
  let cv' := if !e.ok then cv else if e.b 2 then (e.par.getD 3 0).toInt else clampInt lo hi (cv + up - dn)
  let w : Val := BitVec.ofInt 64 cv'
  ⟨[w, boolVal (decide ((e.par.getD 0 0).toInt ≤ cv'))], [w, nextPrev e.ok [e.b 0, e.b 1]], 0⟩
/-- TON, R71. -/
def blkTon (e : BlockIn) : BlockOut :=
  if !e.ok then ⟨[0], [nv (e.p 0)], 0⟩
  else if !e.b 0 then ⟨[0], [nv (e.p 0)], 0⟩
  else ⟨[boolVal (e.n 0 == 0)], [nv (decD (e.n 0) e.d)], 0⟩
/-- TOF, R71. -/
def blkTof (e : BlockIn) : BlockOut :=
  if !e.ok then ⟨[0], [0], 0⟩
  else if e.b 0 then ⟨[1], [nv (e.p 0)], 0⟩
  else ⟨[boolVal (e.n 0 > 0)], [nv (decD (e.n 0) e.d)], 0⟩
/-- TPULSE, R71. -/
def blkTpulse (e : BlockIn) : BlockOut :=
  if !e.ok then ⟨[0], [0, 0], 0⟩
  else
    let rem := if rise (e.s 1) 0 (e.b 0) && e.n 0 == 0 then e.p 0 else e.n 0
    ⟨[boolVal (rem > 0)], [nv (decD rem e.d), prevVal [e.b 0]], 0⟩
/-- TWIN, R72. FLAGS holds RUN in bit 0 and ERR in bit 1. -/
def blkTwin (e : BlockIn) : BlockOut :=
  if !e.ok then ⟨[0, 0], [e.s 0, flagVal [false, e.f 1 1], 0], 0⟩
  else
    let rst := rise (e.s 2) 2 (e.b 2)
    let err0 := !rst && e.f 1 1
    let run0 := !rst && e.f 1 0
    let el0 := if rst then 0 else e.n 0
    let ev := rise (e.s 2) 1 (e.b 1)
    let el1 := if run0 then addD el0 e.d else el0
    let hit := run0 && ev && decide (e.p 0 ≤ el1) && decide (el1 ≤ e.p 1)
    let bad := run0 && ((ev && !hit) || (!ev && decide (e.p 1 < el1)))
    let run1 := run0 && !hit && !bad
    let err1 := err0 || bad
    let go := rise (e.s 2) 0 (e.b 0) && !run1 && !err1
    ⟨[boolVal hit, boolVal err1],
      [nv (if go then 0 else el1), flagVal [run1 || go, err1], prevVal [e.b 0, e.b 1, e.b 2]], 0⟩

end Sys2Proof.Machine
end

