-- ==== Sys2Proof/Machine/BlocksField.lean ====
section
/-! DEFINITION. The sensor and actuator blocks (R84 to R102) and the host-independent part of SOUT. FLAGS words hold their
flags from bit 0 in the order of R102 (DESIGN CHOICE, log 23: the spec names the flags of a word, not their bits). -/
namespace Sys2Proof.Machine

/-- One evaluation of the discrepancy routine (R88). -/
structure Disc where
  dt : Nat
  err : Bool
  act : Bool

/-- The discrepancy routine of R88 on the mapped channels. -/
def discrepancy (a b : Bool) (dt : Nat) (err : Bool) (tdisc d : Nat) : Disc :=
  let dt' := if a == b then 0 else addD dt d
  let err' := if !a && !b then false else if a != b && decide (tdisc < dt') then true else err
  ⟨dt', err', a && b && !err'⟩

/-- The diagnosis code 1 while a discrepancy is latched. -/
def discDiag (err : Bool) : Val := if err then 1 else 0

/-- ESTOP, EQV2 and ANTV2 (R89): `anti` is the coding, `t` the discrepancy time. -/
def blkTwoChannel (e : BlockIn) (anti : Bool) (t : Nat) : BlockOut :=
  let r := discrepancy (e.b 0) (e.b 1 != anti) (e.n 0) (e.f 1 0) t e.d
  ⟨[boolVal r.act, discDiag r.err], [nv r.dt, flagVal [r.err]], 0⟩

/-- ESTOP: parameters CODE, TDISC. -/
def blkEstop (e : BlockIn) : BlockOut := blkTwoChannel e (e.p 0 == 1) (e.p 1)
/-- EQV2: parameter TDISC. -/
def blkEqv2 (e : BlockIn) : BlockOut := blkTwoChannel e false (e.p 0)
/-- ANTV2: parameter TDISC. -/
def blkAntv2 (e : BlockIn) : BlockOut := blkTwoChannel e true (e.p 0)

/-- OSSD, R90: parameters RESTART, TDISC; state DT, FLAGS (ERR, HELD), PREV. -/
def blkOssd (e : BlockIn) : BlockOut :=
  let r := discrepancy (e.b 0) (e.b 1) (e.n 0) (e.f 1 0) (e.p 1) e.d
  let held := if !r.act then true else if rise (e.s 2) 0 (e.b 2) then false else e.f 1 1
  let q := r.act && (e.p 0 == 0 || !held)
  ⟨[boolVal q, discDiag r.err], [nv r.dt, flagVal [r.err, held], nextPrev e.ok [e.b 2]], 0⟩

/-- ENABLE3, R91: parameters USE_P3, TDISC; state DT, FLAGS (ERR, ARM). -/
def blkEnable3 (e : BlockIn) : BlockOut :=
  let r := discrepancy (e.b 0) (e.b 1) (e.n 0) (e.f 1 0) (e.p 1) e.d
  let p3 := e.p 0 == 1 && e.b 2
  let arm0 := if p3 then false else if !e.b 0 && !e.b 1 then true else e.f 1 1
  let arm := arm0 && !r.err
  ⟨[boolVal (r.act && arm && !p3), discDiag r.err], [nv r.dt, flagVal [r.err, arm]], 0⟩

/-- TWOHAND, R92: inputs L_NO, L_NC, R_NO, R_NC; parameters TDISC, TSYNC; state DTL, DTR, TS,
FLAGS (ERRL, ERRR, ARM, WIN, QON, SYNC). DESIGN CHOICE (log 166): DIAG shows a discrepancy before a synchronism failure. -/
def blkTwohand (e : BlockIn) : BlockOut :=
  let l := discrepancy (e.b 0) (!e.b 1) (e.n 0) (e.f 3 0) (e.p 0) e.d
  let r := discrepancy (e.b 2) (!e.b 3) (e.n 1) (e.f 3 1) (e.p 0) e.d
  let rel := !e.b 0 && e.b 1 && !e.b 2 && e.b 3
  let first := !rel && e.f 3 2 && !e.f 3 3 && (l.act || r.act)
  let arm0 := rel || e.f 3 2
  let win0 := !rel && (e.f 3 3 || first)
  let ts0 := if rel || first then 0 else e.n 2
  let sync0 := !rel && e.f 3 5
  let good := win0 && l.act && r.act && decide (ts0 ≤ e.p 1)
  let ts1 := if win0 && !good then addD ts0 e.d else ts0
  let late := win0 && !good && decide (e.p 1 < ts1)
  let win1 := win0 && !good && !late
  let arm1 := arm0 && !good && !late
  let sync1 := sync0 || late
  let qon := (e.f 3 4 || good) && l.act && r.act
  let diag : Val := if l.err || r.err then 1 else if sync1 then 2 else 0
  ⟨[boolVal qon, diag], [nv l.dt, nv r.dt, nv ts1, flagVal [l.err, r.err, arm1, win1, qon, sync1]], 0⟩

/-- GUARD, R93: inputs POS1, POS2, LFB, UNL, RST; parameters CODE, TDISC, LOCKING, TLOCK; state DT, LT,
FLAGS (ERR, LERR), PREV. -/
def blkGuard (e : BlockIn) : BlockOut :=
  let r := discrepancy (e.b 0) (e.b 1 != (e.p 0 == 1)) (e.n 0) (e.f 2 0) (e.p 1) e.d
  let closed := r.act
  let lfb := e.b 2
  let unl := e.b 3
  let want := closed && !unl
  let lk := match e.p 2 with
    | 1 => unl
    | 2 => want
    | _ => false
  let locking := e.p 2 != 0
  let lt := if !locking then e.n 1 else if lfb != want then addD (e.n 1) e.d else 0
  let lerr0 := e.f 2 1 || (locking && decide (e.p 3 < lt))
  let lerr := lerr0 && !(locking && rise (e.s 3) 0 (e.b 4) && lfb == want)
  let q := closed && !lerr && (!locking || (lfb && !unl))
  let diag : Val := if r.err then 1 else if lerr then 4 else 0
  ⟨[boolVal q, boolVal lk, diag], [nv r.dt, nv lt, flagVal [r.err, lerr], nextPrev e.ok [e.b 4]], 0⟩

/-- The muting diagnosis: 2 in LOCKED_SEQ, 3 in LOCKED_TIME (R94). -/
def muteDiag (seq : Nat) : Val := if seq == 4 then 2 else if seq == 5 then 3 else 0

/-- What MUTE2 and MUTE4 answer from the next SEQ and TM. -/
def muteOut (pd : Bool) (seq tm : Nat) (prev : Val) : BlockOut :=
  ⟨[boolVal (pd || seq == 3), boolVal (seq == 3), muteDiag seq], [nv tm, nv seq, prev], 0⟩

/-- MUTED of R94 and R95 while `hold` stands: next (SEQ, TM). -/
def muteMuted (hold : Bool) (tm tmute d : Nat) : Nat × Nat :=
  let tm' := addD tm d
  if !hold then (0, tm') else if tmute < tm' then (5, tm') else (3, tm')

/-- MUTE2, R94: inputs PD, MS1, MS2, ENA, RST; parameters TSYNC, TMUTE; state TM, SEQ, PREV (MS1, MS2, RST). -/
def blkMute2 (e : BlockIn) : BlockOut :=
  let ms1 := e.b 1
  let ms2 := e.b 2
  let ena := e.b 3
  let p := e.s 2
  let tm := e.n 0
  let r : Nat × Nat := match e.n 1 with
    | 0 => if (rise p 0 ms1 || rise p 1 ms2) && ena && e.b 0 then (if ms1 && ms2 then 3 else 1, 0) else (0, tm)
    | 1 =>
      if !(ms1 || ms2) || !ena then (0, tm)
      else if ms1 && ms2 then (3, 0)
      else if e.p 0 < addD tm e.d then (4, addD tm e.d) else (1, addD tm e.d)
    | 3 => muteMuted (ms1 && ms2 && ena) tm (e.p 1) e.d
    | q => if rise p 2 (e.b 4) && !(ms1 || ms2) then (0, tm) else (q, tm)
  muteOut (e.b 0) r.1 r.2 (nextPrev e.ok [ms1, ms2, e.b 4])

/-- MUTE4, R95: inputs PD, MS1 to MS4, ENA, RST; parameters DIR, TSYNC, TMUTE; state TM, SEQ, PREV (MS1 to MS4, RST).
DESIGN CHOICE (log 24): in IDLE a sensor that may not rise locks even if MS1 rises with it. DESIGN CHOICE (log 168): MS1 before MS4, ENA = 0 ends
the waiting, and the way out of the locked states asks all four sensors. -/
def blkMute4 (e : BlockIn) : BlockOut :=
  let m1 := e.b 1
  let m2 := e.b 2
  let m3 := e.b 3
  let m4 := e.b 4
  let ena := e.b 5
  let p := e.s 2
  let tm := e.n 0
  let rev := e.p 0 == 1
  let start := ena && e.b 0
  let wait (own next : Bool) (q : Nat) : Nat × Nat :=
    if !own || !ena then (0, tm)
    else if own && next then (3, 0)
    else if e.p 1 < addD tm e.d then (4, addD tm e.d) else (q, addD tm e.d)
  let any := m1 || m2 || m3 || m4
  let r : Nat × Nat := match e.n 1 with
    | 0 =>
      if rise p 1 m2 || rise p 2 m3 || (rise p 3 m4 && !rev) then (4, tm)
      else if rise p 0 m1 && start then (1, 0)
      else if rise p 3 m4 && start then (2, 0)
      else (0, tm)
    | 1 => wait m1 m2 1
    | 2 => wait m4 m3 2
    | 3 => muteMuted (ena && ((m1 && m2) || (m2 && m3) || (m3 && m4))) tm (e.p 2) e.d
    | q => if rise p 4 (e.b 6) && !any then (0, tm) else (q, tm)
  muteOut (e.b 0) r.1 r.2 (nextPrev e.ok [m1, m2, m3, m4, e.b 6])

/-- The M outputs of MODESEL, R97. -/
def modeOuts (on : Bool) (mode : Nat) (diag : Val) : List Val :=
  (List.range 8).map (fun i => boolVal (on && i == mode)) ++ [nv mode, diag]

/-- MODESEL, R97: parameters SRC, TSW; state MODE, SWT. With SRC = 1 the SWT word holds the epoch last seen. -/
def blkModesel (e : BlockIn) : BlockOut :=
  if e.p 0 == 1 then
    let on := e.n 1 == e.epoch && !e.window
    ⟨modeOuts on e.mode 0, [nv e.mode, nv e.epoch], if e.window then qTrans else 0⟩
  else
    let s := (e.x.take e.nin).map isOn
    let cnt := s.countP id
    let sel := s.findIdx id
    if cnt == 1 then
      ⟨modeOuts (sel == e.n 0) sel 0, [nv sel, 0], 0⟩
    else
      let t := addD (e.n 1) e.d
      ⟨modeOuts false (e.n 0) (if e.p 1 < t then 6 else 0), [e.s 0, nv t], 0⟩

/-- LEVEL2, R98: inputs HI, HH1, HH2, RST; parameters VOTE, HIUSE, LATCH, TDISC, TSEQ; state DT, ST,
FLAGS (PERR, TRIP, CAUSE in bits [4:2]), PREV. -/
def blkLevel2 (e : BlockIn) : BlockOut :=
  let w1 := !e.b 1
  let w2 := !e.b 2
  let dt := if w1 != w2 then addD (e.n 0) e.d else 0
  let st := if e.p 1 == 1 && e.b 0 && (w1 || w2) then addD (e.n 1) e.d else 0
  let e1 := decide (e.p 3 < dt)
  let e2 := decide (e.p 4 < st)
  let perr0 := e.f 2 0 || e1 || e2
  let cause : Nat := if e2 then 6 else if e1 then 1 else (e.n 2 / 4) % 8
  let hh := if e.p 0 == 1 then w1 && w2 else w1 || w2
  let trip0 := e.f 2 1 || (e.p 2 == 1 && hh)
  let clr := rise (e.s 3) 0 (e.b 3) && !w1 && !w2
  let perr := perr0 && !clr
  let trip := trip0 && !clr
  let dry := !hh && !perr
  let flags := nv (b2n perr + 2 * b2n trip + 4 * cause)
  ⟨[boolVal (dry && !trip), boolVal dry, if perr then nv cause else 0],
    [nv dt, nv st, flags, nextPrev e.ok [e.b 3]], 0⟩

/-- VALVE2, R99: inputs CMD, FBO, FBC, RST; parameters SPRING, TOPEN, TCLOSE, TLEAVE; state POS (bits [2:0], CAUSE in
[10:8]), TT, PREV. 0 CLOSED, 1 OPENING, 2 OPEN, 3 CLOSING, 4 FAULT, 5 INIT. -/
def blkValve2 (e : BlockIn) : BlockOut :=
  let cmd := e.b 0
  let fbo := e.b 1
  let fbc := e.b 2
  let spring := e.p 0 == 1
  let pos0 := e.n 0 % 8
  let cause0 := e.n 0 / 256 % 8
  let tt := e.n 1
  let tt' := addD tt e.d
  let bad := !(e.us.getD 1 true) || !(e.us.getD 2 true)
  -- next position, cause, travel time
  let r : Nat × Nat × Nat :=
    if bad then (if pos0 == 4 then (4, cause0, tt) else (4, 5, tt))
    else if fbo && fbc && pos0 != 4 then (4, 4, tt)
    else match pos0 with
      | 0 => if !fbc then (4, 4, tt) else if cmd then (1, cause0, 0) else (0, cause0, tt)
      | 1 =>
        if !cmd then (3, cause0, 0)
        else if fbo then (2, cause0, tt')
        else if e.p 1 < tt' || (fbc && decide (e.p 3 < tt')) then (4, 3, tt') else (1, cause0, tt')
      | 2 => if !fbo then (4, 4, tt) else if !cmd then (3, cause0, 0) else (2, cause0, tt)
      | 3 =>
        if cmd then (1, cause0, 0)
        else if fbc then (0, cause0, tt')
        else if e.p 2 < tt' || (fbo && decide (e.p 3 < tt')) then (4, 3, tt') else (3, cause0, tt')
      | 4 =>
        if rise (e.s 2) 0 (e.b 3) && cmd == spring && (if spring then fbo && !fbc else fbc && !fbo)
        then (if spring then 2 else 0, cause0, tt) else (4, cause0, tt)
      | _ => (if fbc then 0 else if fbo then 2 else if spring then 1 else 3, cause0, 0)
  let pos := r.1
  let sol := if pos == 1 || pos == 2 then !spring else if pos == 3 || pos == 0 then spring else false
  ⟨[boolVal sol, boolVal (pos == 2), boolVal (pos == 0), if pos == 4 then nv r.2.1 else 0],
    [nv (pos + 256 * r.2.1), nv r.2.2, nextPrev e.ok [e.b 3]], 0⟩

/-- RESET, R96: inputs RQ, COND; parameters MODE, TMIN, TMAX; state Q, PT, PREV (RQ, BAD). DESIGN CHOICE (log 169): only a release with Q = 0 is a
rejected one. -/
def blkReset (e : BlockIn) : BlockOut :=
  let rq := e.b 0
  let cond := e.b 1
  let p := e.s 2
  let priming := !p.getLsbD primedBit
  let up := rise p 0 rq
  let down := fall p 0 rq
  let bad0 := p.getLsbD 1
  let pt := if priming && rq then 0 else if up then e.d % 2 ^ 64 else if rq then addD (e.n 1) e.d else e.n 1
  let bad := if priming && rq then true else if up then !cond else if rq then bad0 || !cond else bad0
  let q0 := e.f 0 0
  let good := !bad && decide (e.p 1 ≤ pt) && decide (pt ≤ e.p 2)
  let q := if !cond then false else if q0 then true
    else (e.p 0 == 0 && down && good) || (e.p 0 == 1 && up)
  let rejected := e.p 0 == 0 && down && !q0 && !q
  ⟨[boolVal q, if rejected then 2 else 0], [boolVal q, nv pt, nextPrev e.ok [rq, bad]], 0⟩

/-- The monitoring part of EDM (R100): next ET and ERR from CMD, its rise, FB. -/
def edmStep (cmd cmdRise fb : Bool) (et : Nat) (err : Bool) (tedm d : Nat) : Nat × Bool :=
  let w := tedm + 2 * d
  let et' := if fb == cmd then addD et d else 0
  (et', err || (cmdRise && !fb) || decide (w < et'))

/-- EDM, R100: inputs CMD, FB, RST; parameter TEDM; state ET, FLAGS (ERR), PREV (CMD, RST). -/
def blkEdm (e : BlockIn) : BlockOut :=
  let cmd := e.b 0
  let fb := e.b 1
  let m := edmStep cmd (rise (e.s 2) 0 cmd) fb (e.n 0) (e.f 1 0) (e.p 0) e.d
  let err := m.2 && !(rise (e.s 2) 1 (e.b 2) && !cmd && fb)
  ⟨[boolVal (!err), if err then 4 else 0], [nv m.1, flagVal [err], nextPrev e.ok [cmd, e.b 2]], 0⟩

/-- SOUT, R101: inputs EN, RST, FB; parameters CH, EDMEN, TEDM; state Q, ET, FLAGS (CERR, EERR),
PREV (RST, and the Q stored on entry to the previous evaluation). DESIGN CHOICE (log 167): DIAG shows CERR before EERR. -/
def blkSout (e : BlockIn) : BlockOut :=
  let en := e.b 0
  let fb := e.b 2
  let q0 := e.f 0 0
  let edm := e.p 1 == 1
  let p := e.s 3
  let cerr0 := e.f 2 0 || !e.chok
  let m := if edm then edmStep q0 (rise p 1 q0) fb (e.n 1) (e.f 2 1) (e.p 2) e.d else (e.n 1, e.f 2 1)
  let clr := rise p 0 (e.b 1) && !en && e.chok && (!edm || fb)
  let cerr := cerr0 && !clr
  let eerr := m.2 && !clr
  let on := en && !cerr && !eerr
  let q := on && (q0 || !e.holdOnly)
  ⟨[boolVal q, boolVal (!cerr && !eerr), if cerr then 7 else if eerr then 4 else 0],
    [boolVal q, nv m.1, flagVal [cerr, eerr], nextPrev e.ok [e.b 1, q0]], 0⟩

end Sys2Proof.Machine
end

