-- ==== Sys2Proof/Machine/BlocksMotion.lean ====
section
/-! DEFINITION. The motion blocks (R217 to R226). FLAGS words hold their flags from bit 0 in the order of R226; SOS keeps the
cause it latched beside them (DESIGN CHOICE, log 25). An unusable SPEED or INT input violates every limit that the block is
checking (R217). -/
namespace Sys2Proof.Machine

/-- Magnitude of a SPEED value. -/
def mag (v : Val) : Nat := v.toInt.natAbs

/-- Input i is usable. -/
def BlockIn.good (e : BlockIn) (i : Nat) : Bool := e.us.getD i true

/-- A position difference, modulo 2^48 and sign-extended from bit 47 (R217). -/
def posDiff (x y : Val) : Int := ((x - y).setWidth 48).toInt

/-- STO, R219: inputs EN, RST; parameters RESTART, TREL; state FLAGS (LAT), TR, PREV. -/
def blkSto (e : BlockIn) : BlockOut :=
  let en := e.b 0
  let lat := if !en then e.p 0 == 1 else if rise (e.s 2) 0 (e.b 1) then false else e.f 0 0
  let t := en && !lat
  let brk := t && decide (e.p 1 ≤ e.n 1)
  let tr := if t then addD (e.n 1) e.d else 0
  ⟨[boolVal t, boolVal t, boolVal brk, 0], [flagVal [lat], nv tr, nextPrev e.ok [e.b 1]], 0⟩

/-- The speed envelope of SS1R at EL (R221): A × (EL − TD) / 10^8 counts/s in 32.32, saturating at V0. -/
def ss1Limit (v0 acc el td vss tol : Nat) : Nat :=
  let drop := acc * (el - td) * 2 ^ 32 / 100000000
  max (v0 - min v0 drop) vss + tol

/-- SS1R, R221 and R222: inputs REQ, V, RES, ABT, RST; parameters A, TD, VSS, TOL, TSS, TMAX, RESUME_OK; state
S (bits [1:0], CAUSE in [10:8]), V0, EL, TS, PREV (REQ, RES, ABT, RST). S is 0 NORMAL, 1 RAMP, 2 STOPPED. -/
def blkSs1r (e : BlockIn) : BlockOut :=
  let v := mag (e.x.getD 1 0)
  let p := e.s 4
  let resR := rise p 1 (e.b 2)
  let abtR := rise p 2 (e.b 3)
  let s0 := e.n 0 % 4
  let cause0 := e.n 0 / 256 % 8
  let el := addD (e.n 2) e.d
  -- next S, CAUSE, V0, EL, TS
  let r : Nat × Nat × Nat × Nat × Nat :=
    if s0 == 2 then
      (if rise p 3 (e.b 4) && !e.b 0 then (0, 0, e.n 1, e.n 2, e.n 3) else (2, cause0, e.n 1, e.n 2, e.n 3))
    else if s0 == 0 then
      (if rise p 0 (e.b 0) then (1, cause0, v, 0, 0) else (0, cause0, e.n 1, e.n 2, e.n 3))
    else if !e.good 1 || ss1Limit (e.n 1) (e.p 0) el (e.p 1) (e.p 2) (e.p 3) < v then (2, 1, e.n 1, el, e.n 3)
    else if e.p 5 < el then (2, 6, e.n 1, el, e.n 3)
    else if abtR then (2, cause0, e.n 1, el, e.n 3)
    else if resR && e.p 6 == 1 && !e.b 0 then (0, cause0, e.n 1, el, e.n 3)
    else
      let ts := if v ≤ e.p 2 then addD (e.n 3) e.d else 0
      (if e.p 4 ≤ ts then 2 else 1, cause0, e.n 1, el, ts)
  let s := r.1
  let late := s0 == 2 && (resR || abtR)
  ⟨[boolVal (s == 1), boolVal (s != 2), boolVal (s == 2 && r.2.1 == 0), if late then 7 else nv r.2.1],
    [nv (s + 256 * r.2.1), nv r.2.2.1, nv r.2.2.2.1, nv r.2.2.2.2,
      nextPrev e.ok [e.b 0, e.b 2, e.b 3, e.b 4]], 0⟩

/-- SS1T, R223: inputs REQ, RES, ABT, RST; parameters TSTOP, RESUME_OK; state S, EL, PREV. -/
def blkSs1t (e : BlockIn) : BlockOut :=
  let p := e.s 2
  let resR := rise p 1 (e.b 1)
  let abtR := rise p 2 (e.b 2)
  let s0 := e.n 0 % 4
  let el := addD (e.n 1) e.d
  let r : Nat × Nat :=
    if s0 == 2 then (if rise p 3 (e.b 3) && !e.b 0 then (0, e.n 1) else (2, e.n 1))
    else if s0 == 0 then (if rise p 0 (e.b 0) then (1, 0) else (0, e.n 1))
    else if abtR then (2, el)
    else if resR && e.p 1 == 1 && !e.b 0 then (0, el)
    else (if e.p 0 ≤ el then 2 else 1, el)
  let late := s0 == 2 && (resR || abtR)
  ⟨[boolVal (r.1 == 1), boolVal (r.1 != 2), if late then 7 else 0],
    [nv r.1, nv r.2, nextPrev e.ok [e.b 0, e.b 1, e.b 2, e.b 3]], 0⟩

/-- SLS, R224: inputs EN, V, RST; parameters VLIM, TACT; state FLAGS (ERR), TA, PREV. -/
def blkSls (e : BlockIn) : BlockOut :=
  let ta := if e.b 0 then addD (e.n 1) e.d else 0
  let armed := e.b 0 && decide (e.p 1 ≤ ta)
  let ovr := !e.good 1 || decide (e.p 0 < mag (e.x.getD 1 0))
  let err0 := e.f 0 0 || (armed && ovr)
  let err := err0 && !(rise (e.s 2) 0 (e.b 2) && !ovr)
  ⟨[boolVal (!err), if err then 2 else 0], [flagVal [err], nv ta, nextPrev e.ok [e.b 2]], 0⟩

/-- SOS, R224: inputs EN, P, V, RST; parameters PTOL, VSS, TACT; state P0, FLAGS (ERR, ARM, and in bit 2 the latched
cause: 1 LIMIT, 0 POSITION), TA, PREV. -/
def blkSos (e : BlockIn) : BlockOut :=
  let p := e.x.getD 1 0
  let ta := if e.b 0 then addD (e.n 2) e.d else 0
  let armed := e.b 0 && (e.f 1 1 || decide (e.p 2 ≤ ta))
  let p0 := if armed && !e.f 1 1 then p else e.s 0
  let pos := !e.good 1 || decide (e.p 0 < (posDiff p p0).natAbs)
  let lim := !e.good 2 || decide (e.p 1 < mag (e.x.getD 2 0))
  let hit := armed && (pos || lim)
  let isLim := if e.f 1 0 then e.f 1 2 else hit && !pos
  let err0 := e.f 1 0 || hit
  let err := err0 && !(rise (e.s 3) 0 (e.b 3) && (!armed || (!pos && !lim)))
  ⟨[boolVal (!err), if err then (if isLim then 2 else 3) else 0],
    [p0, flagVal [err, armed, err && isLim], nv ta, nextPrev e.ok [e.b 3]], 0⟩

/-- SDI, R224: inputs EN, P, RST; parameters DIR, PTOL, TACT; state PREF, FLAGS (ERR, ARM), TA, PREV. -/
def blkSdi (e : BlockIn) : BlockOut :=
  let p := e.x.getD 1 0
  let ta := if e.b 0 then addD (e.n 2) e.d else 0
  let armed := e.b 0 && (e.f 1 1 || decide (e.p 2 ≤ ta))
  let ref0 := if armed && !e.f 1 1 then p else e.s 0
  let d : Int := if e.p 0 == 1 then posDiff ref0 p else posDiff p ref0
  let bad := !e.good 1 || decide ((e.p 1 : Int) < -d)
  let pref := if armed && e.good 1 && decide (0 < d) then p else ref0
  let err0 := e.f 1 0 || (armed && bad)
  let err := err0 && !(rise (e.s 3) 0 (e.b 2) && (!armed || !bad))
  ⟨[boolVal (!err), if err then 4 else 0], [pref, flagVal [err, armed], nv ta, nextPrev e.ok [e.b 2]], 0⟩

/-- SSM, R225: input V; parameters VLIM, HYS, VSS, TSS; state TS, FLAGS (B). -/
def blkSsm (e : BlockIn) : BlockOut :=
  let v := mag (e.x.getD 0 0)
  let good := e.good 0
  let b := if !good || e.p 0 < v then false else if v + e.p 1 ≤ e.p 0 then true else e.f 1 0
  let ts := if good && v ≤ e.p 2 then addD (e.n 0) e.d else 0
  ⟨[boolVal b, boolVal (e.p 3 ≤ ts), 0], [nv ts, flagVal [b]], 0⟩

end Sys2Proof.Machine
end

