-- ==== Sys2Proof/Machine/Blocks.lean ====
section
/-! DEFINITION. Evaluation of one block instance on words in lane A form: usability, qualifiers and state words (R59 to R62,
R84, R104), and the network and host blocks, which deal in whole words (R248, R249, R335). -/
namespace Sys2Proof.Machine

/-- The connection latch as KRECV reads it (R239, R249). -/
structure ConnView where
  /-- The connection's state is RUN. -/
  run : Bool
  /-- DIAG while it is not: 1 TIMEOUT, 2 CHECK, 3 EPOCH, 4 IDLE or WAIT. -/
  cause : Nat
  /-- Agreed age in ticks. -/
  age : Nat
  words : List W72
  window : Bool
  fallow : Bool
deriving DecidableEq, Repr

/-- A request slot as latched: its word's value and the request age in ticks; none while unwritten (R334); forced in bench mode (R403). -/
structure SlotView where
  value : Val
  age : Nat
  forced : Bool
deriving DecidableEq, Repr

/-- What an evaluation supplies to a block beside its inputs. -/
structure BlockEnv where
  d : Nat
  chok : Bool
  slot : Option SlotView
  conn : ConnView
  mode : Nat
  epoch : Nat
  window : Bool
  /-- Type code of the block's typed inputs. -/
  ty : Nat
deriving DecidableEq, Repr

/-- What a block yields: its output words and its state words. -/
structure BlockRes where
  outs : List W72
  st : List W72

/-- The value function of a block (R69, R87, R218). -/
def blockFn (c : Nat) (e : BlockIn) : BlockOut := match c with
  | 0x01 => blkAnd e
  | 0x02 => blkOr e
  | 0x03 => blkXor e
  | 0x04 => blkNot e
  | 0x05 => blkSel e
  | 0x06 => blkCmp e
  | 0x07 => blkEdge e
  | 0x08 => blkLatch e
  | 0x09 => blkCount e
  | 0x0A => blkTon e
  | 0x0B => blkTof e
  | 0x0C => blkTpulse e
  | 0x0D => blkTwin e
  | 0x20 => blkEstop e
  | 0x21 => blkEqv2 e
  | 0x22 => blkAntv2 e
  | 0x23 => blkOssd e
  | 0x24 => blkMute2 e
  | 0x25 => blkMute4 e
  | 0x26 => blkGuard e
  | 0x27 => blkEnable3 e
  | 0x28 => blkTwohand e
  | 0x29 => blkModesel e
  | 0x2A => blkLevel2 e
  | 0x2B => blkValve2 e
  | 0x2C => blkReset e
  | 0x2D => blkEdm e
  | 0x2E => blkSout e
  | 0x40 => blkSto e
  | 0x41 => blkSs1r e
  | 0x42 => blkSs1t e
  | 0x43 => blkSls e
  | 0x44 => blkSos e
  | 0x45 => blkSdi e
  | 0x46 => blkSsm e
  | _ => ⟨[], [], 0⟩

/-- Is input i of the block usable: R60, and R104 for HOST at a reset or enabling input? -/
def inUsable (b : BlockRec) (i : Nat) (w : W72) : Bool := usable w && !(hostBarred b.type i && carries w qHost)

/-- The contributing inputs of a block as (usable, word). -/
def contribList (b : BlockRec) (ins : List W72) : List (Bool × W72) :=
  (ins.zipIdx.filter (fun x => contributes b (isOn (wval (ins.getD 0 0))) x.2)).map (fun x => (inUsable b x.2 x.1, x.1))

/-- A state word after an evaluation (R61): a changed value takes the inputs' carried bits, a kept one its own. -/
def nextStateWord (old : W72) (v : Val) (q : BitVec 8) : W72 :=
  mkWord v (qValid ||| (if v == wval old then wqual old &&& qCarried else q))

/-- A block of R60 or R84 on its words. -/
def evalValueBlock (b : BlockRec) (e : BlockEnv) (ins st : List W72) : BlockRes :=
  let cs := contribList b ins
  let ok := cs.all (·.1)
  let q := (cs.foldl (fun q x => q ||| wqual x.2) 0) &&& qCarried
  let x := ins.zipIdx.map (fun p => if inUsable b p.2 p.1 || b.type < 0x20 then wval p.1 else demandVal b p.2)
  let r := blockFn b.type
    { x := x, us := ins.zipIdx.map (fun p => inUsable b p.2 p.1), ok := ok, ty := e.ty, par := b.pars.map ParRec.value,
      st := st.map wval, d := e.d, nin := b.nin, chok := e.chok,
      holdOnly := carries (ins.getD 0 0) (qTrans ||| qAged ||| qFallow),
      mode := e.mode, epoch := e.epoch, window := e.window }
  let vs := if !ok && (b.type == 0x2C || b.type == 0x2E) then r.st.set 0 0 else r.st
  let st' := List.zipWith (fun old v => nextStateWord old v q) st vs
  let carried := (st'.foldl (fun q w => q ||| wqual w) q) &&& qCarried
  let outs :=
    if ok then r.outs.map (fun v => mkWord v (qValid ||| carried ||| r.add))
    else (List.range b.nout).map (fun o => mkWord (faultValue b e.ty o) (qFault ||| carried ||| r.add))
  ⟨outs, st'⟩

/-- KRECV, R249: input RST; parameters SRCFID, SRCBLK, TE, TA, RESTART; state FLAGS (LAT), PREV. TA = 0 means TE/2 (R240). -/
def evalKrecv (b : BlockRec) (e : BlockEnv) (ins st : List W72) : BlockRes :=
  let rst := ins.getD 0 0
  let ok := inUsable b 0 rst
  let on := ok && isOn (wval rst)
  let c := e.conn
  let bad := !c.run || decide (b.parN 2 < c.age)
  let lat := if bad then b.parN 4 == 1 else if rise (wval (st.getD 1 0)) 0 on then false else isOn (wval (st.getD 0 0))
  let q := wqual rst &&& qCarried
  let st' := [nextStateWord (st.getD 0 0) (boolVal lat) q, nextStateWord (st.getD 1 0) (nextPrev ok [on]) q]
  let carried := (st'.foldl (fun q w => q ||| wqual w) q) &&& qCarried
  let n := b.nout - 2
  if !ok then
    ⟨(List.range b.nout).map (fun o => mkWord (if o + 1 == b.nout then 5 else 0) (qFault ||| carried)), st'⟩
  else if bad || lat then
    ⟨List.replicate n (mkWord 0 (qValid ||| qFault))
      ++ [mkWord 0 (qValid ||| carried), mkWord (BitVec.ofNat 64 (if bad then (if c.run then 1 else c.cause) else 6)) (qValid ||| carried)],
      st'⟩
  else
    let ta := if b.parN 3 == 0 then b.parN 2 / 2 else b.parN 3
    let add := (if ta < c.age then qAged else 0) ||| (if c.window then qTrans else 0) ||| (if c.fallow then qFallow else 0)
    ⟨(List.range n).map (fun i => let w := c.words.getD i 0; mkWord (wval w) (wqual w ||| add))
      ++ [mkWord 1 (qValid ||| carried), mkWord 0 (qValid ||| carried)], st'⟩

/-- The word and OK of a request slot (R335); tmo 0 means never stale. -/
def slotWords (s : Option SlotView) (tmo : Nat) : W72 × W72 := match s with
  | none => (mkWord 0 0x23, mkWord 0 0x21)
  | some v =>
    if v.forced then (mkWord v.value (qValid ||| qForced), mkWord 1 0x21)
    else if tmo != 0 && decide (tmo < v.age) then (mkWord 0 0x23, mkWord 0 0x21) else (mkWord v.value 0x21, mkWord 1 0x21)

/-- One block instance on its input words and state words, all in lane A form. -/
def evalBlock (b : BlockRec) (e : BlockEnv) (ins st : List W72) : BlockRes := match b.type with
  | 0x50 => ⟨[], ins⟩
  | 0x51 => evalKrecv b e ins st
  | 0x58 => ⟨[(slotWords e.slot (b.parN 1)).1, (slotWords e.slot (b.parN 1)).2], []⟩
  | 0x59 => ⟨[], ins⟩
  | _ => evalValueBlock b e ins st

end Sys2Proof.Machine
end

