-- ==== Sys2Proof/Machine/StateLanes.lean ====
section
/-! DEFINITION. State of the lanes, the frame timers, the functions in their contexts and the Riddle (chapters 02, 05, 06). -/
namespace Sys2Proof.Machine

/-- A verdict of a Riddle half (R114). -/
inductive Verdict where
  | eq
  | ne
  | ee
deriving DecidableEq, Repr

/-- What a verdict pair of one checkpoint holds: each half's verdict, and each half's difference vector (R114, R115). -/
structure VerdRec where
  decoy : Bool
  fp : Bool
  ctx : Nat
  v0 : Option Verdict
  v1 : Option Verdict
  d0 : W72
  d1 : W72
deriving DecidableEq, Repr

/-- An entry of a signature delay queue (R117), with the TB of its arrival. -/
structure QEntry where
  sig : W72
  tag : BitVec 16
  par : BitVec 11
  stamp : BitVec 64
deriving DecidableEq, Repr

/-- One evaluation of a function in flight: the words each lane wrote, in that lane's form, and their signatures. -/
structure EvalRec where
  frame : Nat
  wordsA : Option (List W72)
  wordsB : Option (List W72)
  sigA : W72
  sigB : W72
deriving DecidableEq, Repr

/-- What one block instance reads from outside its function in an evaluation: the word of each SIGNAL or EXPORT reference, none for every
other input, and what HREQ, SOUT, KRECV and the timers are given beside their inputs. -/
structure OutsideIn where
  ext : List (Option W72)
  env : BlockEnv
deriving DecidableEq, Repr

/-- What an evaluation of a function reads from outside it: the applied mode and its epoch, and each block's own reads. -/
structure EvalIn where
  mode : Nat
  epoch : Nat
  blocks : List OutsideIn
deriving DecidableEq, Repr

/-- One lane's replay buffer entry of one evaluation (R134): the committed words before it and the input words it read, as the lane holds
them, and its own signature. -/
structure LaneReplay where
  before : List W72
  ins : EvalIn
  sig : W72
deriving DecidableEq, Repr

/-- The entries of both lanes for one evaluation of a function (R134). -/
structure ReplayEnt where
  frame : Nat
  a : Option LaneReplay
  b : Option LaneReplay
deriving DecidableEq, Repr

/-- Words of a function released at a C instant (R39), in each lane's form. -/
structure Released where
  frame : Nat
  a : List W72
  b : List W72
deriving DecidableEq, Repr

/-- A context: a hosted function or the standby's copy of one (R281). -/
structure FnSt where
  ctx : Nat
  fid : Nat
  /-- Index of the function in the configuration. -/
  idx : Nat
  klog : Nat
  phase : Nat
  k : W72
  standby : Bool
  /-- Committed words as the next evaluation reads them, in lane A form and in lane B form (R58, R63). -/
  memA : List W72
  memB : List W72
  /-- The parameters of each block as each lane's loader has written them (R105). -/
  parA : List (List W72)
  parB : List (List W72)
  /-- State memory as of the latest C instant, for DBG_MEM (R397). -/
  snapA : List W72
  snapB : List W72
  /-- Words released, newest first (R39). -/
  hist : List Released
  /-- Released gate states of each SOUT by local index: gate A, gate B (R107, R142). -/
  gates : List (Nat × Bool × Bool)
  /-- Evaluations not yet past their C instant, newest first. -/
  evals : List EvalRec
  replay : List ReplayEnt
  /-- The last frame whose commits R40 discards. -/
  drop : Option Nat
  /-- The status in force (R129): context word 0 as the latest C instant or reaction left it. A lane's own word may differ from it until the
  Riddle's verdict acts. The model's own field. -/
  status : Val
deriving DecidableEq, Repr

/-- The agreed input image of one frame in one lane's memory, in that lane's form: inputs, CHOK, banks, axes, connections and request
slots (R34, R105, R188, R196, R213, R239, R334). -/
structure LaneImg where
  inputs : List W72
  chok : List Bool
  banks : List W72
  axes : List (List W72)
  conns : List (Nat × ConnView)
  slots : List (Option SlotView)
deriving DecidableEq, Repr

/-- What a latch took of an output forward consumed here (R279, R302): its connection, the frame's lease epoch, and the TB of its
acceptance. -/
structure FwdLatch where
  conn : Nat
  epoch : BitVec 32
  stamp : BitVec 64
deriving DecidableEq, Repr

/-- The latched image of one frame: each lane's agreed input image, and what the module latches beside it. -/
structure FrameImg where
  n : Nat
  tb : BitVec 64
  /-- The frame is a frame of RUN. -/
  run : Bool
  inA : LaneImg
  inB : LaneImg
  fwds : List FwdLatch
  /-- Banks that became LOW or LOST at this latch (R193), and every bank LOW, LOST or UNTESTED. -/
  off : List Nat
  mode : Nat
  epoch : Nat
  window : Bool
  /-- The field bits that the process image shows of this frame: IN_STATE, IN_FAULT, STDIN, readback, OUT_FAULT (R331). -/
  page : List (BitVec 96)
  /-- State codes of the banks. -/
  bankst : List Nat
deriving DecidableEq, Repr

/-- A lane's evaluation (R35, R51): the next frame to evaluate, and the progress of the frame in hand. -/
structure LaneEval where
  /-- Frames begun and not yet evaluated by this lane, oldest first. -/
  todo : List Nat
  /-- Newest frame this lane has finished. -/
  finished : Option Nat
  /-- Cycles that the evaluation of each open frame took (R52). -/
  cycles : List (Nat × Nat)
  /-- The lane waits at a full signature delay queue (R120). -/
  waiting : Bool
deriving DecidableEq, Repr

/-- The LAN page, the frame timers and the module-wide reactions (R30 to R52, R130, R139). -/
structure LanSt where
  tfUnits : BitVec 11
  woUs : BitVec 14
  swarn : BitVec 20
  smax : BitVec 20
  fstate : BitVec 2
  slowB : Bool
  clkFault : Bool
  overrun : Bool
  skewFault : Bool
  skewWarn : Bool
  late : Bool
  frame : BitVec 64
  fstart : BitVec 64
  nrun : BitVec 64
  skewLast : BitVec 24
  skewPeak : BitVec 24
  cycA : BitVec 22
  cycB : BitVec 22
  cycPeak : BitVec 22
  emargin : BitVec 32
  vmargin : BitVec 32
  lateCnt : BitVec 32
  /-- The frame timers run (R32). -/
  timerOn : Bool
  /-- No F instant since the timers started. -/
  fresh : Bool
  /-- The lanes are halted in bench mode (R404); a halt or a single step is asked for. -/
  halted : Bool
  haltReq : Bool
  stepReq : Bool
  /-- After a halt the output tests wait for the next slot boundary (R404). -/
  testWait : Bool
  /-- The frame number at which RUN begins, fixed by START or by a rejoin (R323, R373). -/
  startAt : Option Nat
  /-- The module is in RUN. -/
  inRun : Bool
  /-- Latched images, newest first. -/
  imgs : List FrameImg
  /-- Frames begun and not past their C instant, oldest first. -/
  open_ : List Nat
  evalA : LaneEval
  evalB : LaneEval
  /-- Skew measured so far in each open frame (R49): frame, ticks, lane B later. -/
  skews : List (Nat × Nat × Bool)
  /-- Instants of the latest checkpoint and the latest verdict of each open frame (R52). -/
  lastCp : List (Nat × BitVec 64)
  lastVerd : List (Nat × BitVec 64)
  /-- Functions late in a frame: frame, context (R41). -/
  lates : List (Nat × Nat)
  markA : Bool
  markB : Bool
  /-- An uncorrectable memory error awaits the next C instant (R139). -/
  memErr : Option Lane
  /-- A module-wide fault code that acts at the next C instant (R131). -/
  pendFault : Option Nat
  /-- The module-wide fault in force while functions remain in FALLOW, or after which the module went to HOLD (R130). -/
  modFault : Option Nat
  /-- All-off has been sent at once: nothing is released until HOLD (R124). -/
  allOff : Bool
  /-- START completes with RESET_REQUIRED until a module reset (R148). -/
  needReset : Bool
  /-- A BL_FAULT since the links were last trained (R148). -/
  blFault : Bool
  /-- The running diagnosis: TB of its C instant, and the functions joined with their mismatching frames (R137). -/
  diag : Option (BitVec 64 × List (Nat × Nat))
  /-- The constants as each lane's loader has written them (R105). -/
  constA : List W72
  constB : List W72
deriving DecidableEq, Repr

/-- A signature with its checkpoint tag on the way from a lane to a half (R113). -/
structure SigMsg where
  lane : Lane
  tag : BitVec 16
  sig : W72
deriving DecidableEq, Repr

/-- An entry of a half's K table with its even parity per byte (R112). -/
structure KEntry where
  k : W72
  par : BitVec 9
deriving DecidableEq, Repr

/-- A mismatch of a frame whose C instant is to come, as the last-mismatch registers show it then (R126, R433). -/
structure MmHeld where
  frame : Nat
  mm : BitVec 32
  diff : W72
deriving DecidableEq, Repr

/-- The RDL page and the two halves (R113 to R126). -/
structure RdlSt where
  injDone : Bool
  injPass : Bool
  cmpFault : Bool
  halfDis : Bool
  decoyFail : Bool
  entryRepeat : Bool
  injFail : Bool
  entry : Bool
  mismatch : Bool
  active : Bool
  decoyInt : BitVec 7
  decoyCnt : BitVec 32
  injResult : BitVec 32
  mmCnt : BitVec 32
  eeCnt : BitVec 32
  lastMm : BitVec 32
  lastFrame : BitVec 32
  lastDiff : W72
  /-- Mismatches of open frames, the last one of each. -/
  mmHeld : List MmHeld
  qPeak : BitVec 7
  qDepth : BitVec 7
  waitCnt : BitVec 32
  devA : BitVec 32
  devB : BitVec 32
  q0 : List QEntry
  q1 : List QEntry
  verds : List VerdRec
  /-- Frame of the latest EE of each half (R116). -/
  ee0 : Option Nat
  ee1 : Option Nat
  /-- Count d of the decoys begun since entry to RUN (R122). -/
  decoys : Nat
  /-- Decoy frames begun and not past their C instant, with their counts. -/
  decoyOpen : List (Nat × Nat)
  /-- Signatures on the way to each half, oldest first (R113). -/
  way0 : List SigMsg
  way1 : List SigMsg
  /-- The K tables by w: RH0's in plain form, RH1's complemented (R112). -/
  kTab0 : List KEntry
  kTab1 : List KEntry
deriving DecidableEq, Repr

/-- A lane's evaluation before any frame. -/
def LaneEval.reset : LaneEval := ⟨[], none, [], false⟩

/-- The LAN page at reset (R52). -/
def LanSt.reset : LanSt where
  tfUnits := 0x064
  woUs := 0x00FA
  swarn := 0x030D4
  smax := 0x061A8
  fstate := 0
  slowB := false
  clkFault := false
  overrun := false
  skewFault := false
  skewWarn := false
  late := false
  frame := 0
  fstart := 0
  nrun := 0
  skewLast := 0
  skewPeak := 0
  cycA := 0
  cycB := 0
  cycPeak := 0
  emargin := 0xFFFFFFFF
  vmargin := 0xFFFFFFFF
  lateCnt := 0
  timerOn := false
  fresh := true
  halted := false
  haltReq := false
  stepReq := false
  testWait := false
  startAt := none
  inRun := false
  imgs := []
  open_ := []
  evalA := LaneEval.reset
  evalB := LaneEval.reset
  skews := []
  lastCp := []
  lastVerd := []
  lates := []
  markA := false
  markB := false
  memErr := none
  pendFault := none
  modFault := none
  allOff := false
  needReset := false
  blFault := false
  diag := none
  constA := []
  constB := []

/-- The RDL page at reset (R126). -/
def RdlSt.reset : RdlSt where
  injDone := false
  injPass := false
  cmpFault := false
  halfDis := false
  decoyFail := false
  entryRepeat := false
  injFail := false
  entry := false
  mismatch := false
  active := false
  decoyInt := 0x10
  decoyCnt := 0
  injResult := 0
  mmCnt := 0
  eeCnt := 0
  lastMm := 0
  lastFrame := 0
  lastDiff := 0
  mmHeld := []
  qPeak := 0
  qDepth := 0
  waitCnt := 0
  devA := 0
  devB := 0
  q0 := []
  q1 := []
  verds := []
  ee0 := none
  ee1 := none
  decoys := 0
  decoyOpen := []
  way0 := []
  way1 := []
  kTab0 := []
  kTab1 := []

end Sys2Proof.Machine
end

