-- ==== Sys2Proof/Machine/StateNet.lean ====
section
/-! DEFINITION. State of the Safe Motion Unit, the Keapor Safety Layer, the cuttings, the modes, the network island and the
Planter (chapters 09 to 13). -/
namespace Sys2Proof.Machine

/-- One decoder half's view of a port (R211 to R215). -/
structure PortHalf where
  pos : BitVec 48
  chg : BitVec 16
  la : Bool
  lb : Bool
  lz : Bool
  /-- An edge has been counted since reset. -/
  counted : Bool
  /-- Stamp of the last counted edge, on the half's own clock. -/
  t1 : BitVec 64
  /-- (N1, t1) at the last latches, newest first. -/
  past : List (BitVec 48 × BitVec 64)
  /-- Speed of the previous latch, 32.32. -/
  v : Int
  /-- Count at the last rising Z edge. -/
  zpos : Option (BitVec 48)
  /-- The last sample of the three signals, and the one before it: a level counts after three equal ones (R207). -/
  s1 : Levels
  s2 : Levels
deriving DecidableEq, Repr

/-- A fault cause of an axis with the ports on which DA and DB declare it: bit 0 primary, bit 1 secondary (R208, R228). -/
structure AxisCause where
  cause : Nat
  byA : BitVec 2
  byB : BitVec 2
deriving DecidableEq, Repr

/-- One axis (R209 to R216, R228). -/
structure AxisSt where
  pA : PortHalf
  pB : PortHalf
  sA : PortHalf
  sB : PortHalf
  causes : List AxisCause
  lat : BitVec 48
  spd : Int
  xdev : BitVec 32
  xpeak : BitVec 32
  fltCnt : BitVec 32
  /-- XT of R215, in ticks. -/
  xt : Nat
  /-- Time for which dev has exceeded tol/2, in ticks, and whether XDEV_WARN has been raised for it. -/
  wt : Nat
  xwarned : Bool
  rwarned : Bool
  zseen : Bool
  dirp : Bool
deriving DecidableEq, Repr

/-- A KSL frame's fields (R232). -/
structure KFrame where
  type : Nat
  sync : Bool
  syncReq : Bool
  fallow : Bool
  nw : Nat
  echoIdx : Nat
  connId : Nat
  seq : Nat
  ts : Nat
  modeEpoch : BitVec 16
  leaseEpoch : BitVec 32
  echoSeq : BitVec 32
  echoHold : Nat
  payload : Bytes
deriving DecidableEq, Repr

/-- A connection key as one lane stores it, in that lane's form, with even parity per byte (R234). -/
structure LaneKey where
  k : BitVec 32
  par : BitVec 4
deriving DecidableEq, Repr

/-- A connection's key in both lanes (R234). -/
structure ConnKey where
  a : LaneKey
  b : LaneKey
deriving DecidableEq, Repr

/-- A produced connection (R230, R235 to R237, R243, R245, R246). -/
structure ProdSt where
  conn : PlanConn
  key : ConnKey
  /-- Release stamps of the last 64 frames: SEQ and TB, newest first. -/
  sent : List (BitVec 32 × BitVec 64)
  /-- Nonce of a SYNCREQ to be answered in the next frame. -/
  answer : Option (BitVec 32)
  slow : Bool
  /-- TB since which PATH has stayed below 60 % of the budget while SLOW is set. -/
  calm : Option (BitVec 64)
  pathUs : Nat
deriving DecidableEq, Repr

/-- State of a consumed connection (R241). -/
inductive ConnState where
  | idle
  | wait
  | run
  | fault
deriving DecidableEq, Repr

/-- A consumed connection (R238 to R244, R255). -/
structure ConsSt where
  conn : PlanConn
  key : ConnKey
  st : ConnState
  cause : Nat
  /-- Newest accepted frame with each lane's stamp on its own clock. -/
  newest : Option (KFrame × BitVec 64 × BitVec 64)
  /-- Full sequence number of the last accepted frame. -/
  lastSeq : Nat
  /-- A frame has been accepted since the last SYNC was asked for. -/
  synced : Bool
  /-- TB of the check failures of the last second. -/
  fails : List (BitVec 64)
  /-- Latest SYNCREQ nonce and its TB. -/
  nonce : Option (BitVec 32 × BitVec 64)
  /-- A SYNCREQ entry waits to be sent. -/
  reqDue : Bool
  chk : BitVec 8
  ageLast : BitVec 16
  agePeak : BitVec 16
  /-- Lease epochs reported as fenced (R256). -/
  fenced : List (BitVec 32)
  /-- The newest accepted frame as taken by the latest latch, with its agreed age in ticks. -/
  latched : Option KFrame
  age : Nat
deriving DecidableEq, Repr

/-- The KSL page and the connections. -/
structure KslSt where
  txCnt : BitVec 32
  rxCnt : BitVec 32
  chkCnt : BitVec 32
  oldCnt : BitVec 32
  fenceCnt : BitVec 32
  foreignCnt : BitVec 32
  slowCnt : BitVec 32
  prod : List ProdSt
  cons : List ConsSt
  /-- Sequence number of the last frame released on each connection in this powered period (R237). -/
  seqs : List (Nat × Nat)
  /-- Echo rotation toward each peer: peer, next position. -/
  rot : List (Nat × Nat)
  /-- Connections as the latest F(n) found them, for the KSL page (R255). -/
  prodF : List ProdSt
  consF : List ConsSt
deriving DecidableEq, Repr

/-- A mirror set (R293 to R295), its words in each lane's form (R105). -/
structure MirrorSet where
  eval : BitVec 32
  epoch : BitVec 32
  locked : Bool
  wordsA : List W72
  wordsB : List W72
deriving DecidableEq, Repr

/-- A function with a cutting, as its host or standby node keeps it (R296 to R301). -/
structure CutSt where
  fid : Nat
  host : Bool
  /-- This node holds the spade, under this epoch. -/
  holder : Bool
  epoch : BitVec 32
  /-- Host: newest set formed. Standby: stored set. -/
  set : Option MirrorSet
  /-- Newest EVAL seen on any fragment. -/
  newestEval : Option (BitVec 32)
  /-- The takeover frames are still to be released (R299). -/
  takeover : Bool
  lateWarned : Bool
  /-- Latch frame at which the standby took the spade. -/
  since : Nat
  /-- The standby took over a LOCKED set, which it never evaluates: its DATA and output-forward frames rest after the takeover frames. -/
  silent : Bool
  /-- TB at which the cutting was set up, from which the silence of a connection that has delivered nothing counts (R297). -/
  setUp : BitVec 64
deriving DecidableEq, Repr

/-- The channels of an owned function in one lane: those applied on, and those barred (R302). -/
structure OwnLane where
  on : List Nat
  barred : List Nat
deriving DecidableEq, Repr

/-- A function whose SOUT channels this node owns and another node or a cutting may drive (R279, R302). -/
structure OwnSt where
  fid : Nat
  epoch : BitVec 32
  /-- TB of the acceptance of the newest holder frame applied. -/
  stamp : BitVec 64
  seen : Bool
  expired : Bool
  a : OwnLane
  b : OwnLane
deriving DecidableEq, Repr

/-- A KRECV's choice between the host's and the standby's connection (R301); none while it has read neither. -/
structure PickSt where
  fid : Nat
  blk : Nat
  conn : Option Nat
deriving DecidableEq, Repr

/-- Cuttings (chapter 13). -/
structure CutsSt where
  cuts : List CutSt
  owns : List OwnSt
  picks : List PickSt
deriving DecidableEq, Repr

/-- An announced mode change (R306, R307). -/
structure ModeAnn where
  epoch : BitVec 16
  new : Nat
  old : Nat
  sec : Nat
  ns : Nat
  orig : Nat
deriving DecidableEq, Repr

/-- A pending change (R308, R309): its announcement, and whether MODE_LATE has been raised for it. -/
structure ModePend where
  ann : ModeAnn
  late : Bool
deriving DecidableEq, Repr

/-- A cancelled change: its epoch, and the announcement if the node has held it (R307, R308). -/
structure ModeCut where
  epoch : BitVec 16
  ann : Option ModeAnn
deriving DecidableEq, Repr

/-- System-wide modes (R305 to R310). -/
structure ModeSt where
  applied : Nat
  epoch : BitVec 16
  highest : BitVec 16
  /-- The epoch held before the change last applied. -/
  prevEpoch : BitVec 16
  /-- Announcements received and not yet taken at a latch, oldest first. -/
  arrived : List ModeAnn
  /-- Pending changes, oldest first. -/
  pending : List ModePend
  /-- Changes cancelled. -/
  cancels : List ModeCut
  /-- The change whose transition window may be open. -/
  window : Option ModeAnn
  /-- Tree neighbours' MODE_STATE: node, RUN, mode, epoch. -/
  nbrs : List (Nat × Bool × Nat × BitVec 16)
deriving DecidableEq, Repr

/-- The IPv4 and UDP headers of a KSL datagram (R261). -/
structure UdpHead where
  src : BitVec 32
  dst : BitVec 32
  dscp : Nat
  df : Bool
  ttl : Nat
  sport : Nat
  dport : Nat
  checksum : Nat
deriving DecidableEq, Repr

/-- What an Announce tells of the own clock (R265). -/
structure AnnHead where
  priority1 : Nat
  clockClass : Nat
deriving DecidableEq, Repr

/-- A frame that the module hands to a port (R258, R260, R261, R265). -/
inductive NetOut where
  /-- A KSL frame with its addresses, its priority tag (PCP, VID), its EtherType, its IPv4 and UDP headers when it is a datagram, its 96 bytes
  and the redundancy trailer of a doubly-attached node. -/
  | ksl (dst src : BitVec 48) (tag : Nat × Nat) (etherType : Nat) (udp : Option UdpHead) (frame trailer : Bytes)
  /-- A PTP message by its messageType, with its tag, the own clockIdentity and domain, and what an Announce adds. -/
  | ptp (tag : Nat × Nat) (kind : Nat) (clockId : BitVec 64) (domain : Nat) (ann : Option AnnHead)
  | supervision (src : BitVec 48)
  | arp (targetMac : BitVec 48) (targetIp : BitVec 32)
  | forward (f : EthFrame)
deriving DecidableEq, Repr

/-- A clock that a port has heard Announces of (R265): its port identity, its dataset, and the TB of its last two Announces, newest first. -/
structure Foreign where
  port : Nat
  src : BitVec 64
  srcPort : Nat
  ds : PtpClock
  seen : List (BitVec 64)
deriving DecidableEq, Repr

/-- Status fields as the NET page shows them: those of the latest F(n) (R269). -/
structure NetView where
  speed0 : BitVec 2
  speed1 : BitVec 2
  gm : Bool
  ptp0 : BitVec 8
  ptp1 : BitVec 8
  gmId : BitVec 64
  offset : BitVec 32
  mpd : BitVec 32
deriving DecidableEq, Repr

/-- The network island (chapter 11). -/
structure NetSt where
  speed0 : BitVec 2
  speed1 : BitVec 2
  /-- SYNC_OK as the clock judges it, and as NET_STATUS shows it since the latest F(n). -/
  healthy : Bool
  syncOk : Bool
  gm : Bool
  ptp0 : BitVec 8
  ptp1 : BitVec 8
  gmId : BitVec 64
  /-- TB at which the grandmaster identity last changed. -/
  gmSince : BitVec 64
  /-- TB of the last Sync. -/
  lastSync : BitVec 64
  syncSeen : Bool
  offset : BitVec 32
  mpd : BitVec 32
  /-- The last 8 offset measurements lie within tolerance or not, newest first. -/
  offs : List Bool
  /-- PT as a view of TB (R263): its value in nanoseconds at the TB `ptTb`, and the rate correction in parts per 10^9. -/
  ptRef : Nat
  ptTb : BitVec 64
  ptRate : Int
  /-- PT at the latest F(n). -/
  ptSec : BitVec 48
  ptNs : BitVec 32
  rx0 : BitVec 32
  rx1 : BitVec 32
  errCnt : BitVec 32
  dropCnt : BitVec 32
  /-- Sync intervals expired, for Announce at every fourth (R264). -/
  ticks : Nat
  /-- MAC learning: address and port (R258). -/
  macs : List (BitVec 48 × Nat)
  view : NetView
  /-- The eight egress queues of each port, queue 0 first, oldest frame first (R258). -/
  egress0 : List (List NetOut)
  egress1 : List (List NetOut)
  /-- Frames that have left, with their port, oldest first (observable). -/
  out : List (Nat × NetOut)
  /-- Sequence number of the next redundancy trailer (R260). -/
  prpSeq : BitVec 16
  /-- Redundancy trailers of the last 400 ms: source address, sequence number, TB (R260). -/
  prpSeen : List (BitVec 48 × Nat × BitVec 64)
  /-- Connections whose next frame a stalled crossing of a lane loses (R18). -/
  stalls : List Nat
  /-- The clocks heard by Announces, and the port identity of the master that a port follows: own port, clockIdentity, port number (R265). -/
  foreign : List Foreign
  parent : Option (Nat × BitVec 64 × Nat)
  /-- TB since which each port carries PTP (R265). -/
  since0 : BitVec 64
  since1 : BitVec 64
deriving DecidableEq, Repr

/-- A tree neighbour (R274, R284, R285). -/
structure NbrSt where
  node : Nat
  joined : Bool
  /-- LEVEL with the digest halves it came with: reported level and whether each half equals the own plan digest. -/
  levelLo : Option Nat
  levelHi : Option Nat
  accepted : Bool
  run : Bool
  /-- ACCEPT fragments received: index and bytes. -/
  frags : List (Nat × Bytes)
  /-- PATH measurements: count and largest in µs (R284). -/
  paths : Nat
  pathMax : Nat
  /-- Position in the rotation of messages (R275, R307). -/
  rot : Nat
deriving DecidableEq, Repr

/-- The Planter and the PLT page (R284 to R289). -/
structure PltSt where
  state : BitVec 4
  err : BitVec 8
  errCause : BitVec 4
  errFid : BitVec 20
  errNode : Option Nat
  level : Nat
  plan : Option Plan
  planDig : BitVec 384
  topoDig : BitVec 384
  cfgDig : BitVec 384
  diam : Nat
  parent : BitVec 11
  nbrs : List NbrSt
  time : BitVec 32
  peak : BitVec 22
  /-- The plan is accepted (PLT_STATUS.ACCEPTED), and by the rejoin exception (R285). -/
  accepted : Bool
  rejoin : Bool
deriving DecidableEq, Repr

/-- Reset values (R211, R228, R255, R269, R289, R305). -/
def PortHalf.reset : PortHalf := ⟨0, 0, false, false, false, false, 0, [], 0, none, ⟨false, false, false⟩, ⟨false, false, false⟩⟩
def AxisSt.reset : AxisSt :=
  ⟨PortHalf.reset, PortHalf.reset, PortHalf.reset, PortHalf.reset, [], 0, 0, 0, 0, 0, 0, 0, false, false, false, false⟩
def KslSt.reset : KslSt := ⟨0, 0, 0, 0, 0, 0, 0, [], [], [], [], [], []⟩
def CutsSt.reset : CutsSt := ⟨[], [], []⟩
def ModeSt.reset : ModeSt := ⟨0, 0, 0, 0, [], [], [], none, []⟩
def NetSt.reset : NetSt where
  speed0 := 0
  speed1 := 0
  healthy := false
  syncOk := false
  gm := false
  ptp0 := 1
  ptp1 := 1
  gmId := 0
  gmSince := 0
  lastSync := 0
  syncSeen := false
  offset := 0
  mpd := 0
  offs := []
  ptRef := 0
  ptTb := 0
  ptRate := 0
  ptSec := 0
  ptNs := 0
  rx0 := 0
  rx1 := 0
  errCnt := 0
  dropCnt := 0
  ticks := 0
  macs := []
  view := ⟨0, 0, false, 1, 1, 0, 0, 0⟩
  egress0 := List.replicate 8 []
  egress1 := List.replicate 8 []
  out := []
  prpSeq := 0
  prpSeen := []
  stalls := []
  foreign := []
  parent := none
  since0 := 0
  since1 := 0
def PltSt.reset : PltSt where
  state := 0
  err := 0
  errCause := 0
  errFid := 0
  errNode := none
  level := 0
  plan := none
  planDig := 0
  topoDig := 0
  cfgDig := 0
  diam := 0
  parent := 0x7FF
  nbrs := []
  time := 0
  peak := 0
  accepted := false
  rejoin := false

end Sys2Proof.Machine
end

