-- ==== Sys2Proof/Machine/State.lean ====
section
/-! DEFINITION. The state of the block: plain data, holding every register, buffer, counter, mode and pin state the spec gives it, and the
queue of the commands that wait. -/
namespace Sys2Proof.Machine

/-- Why a step of the block could stop with a fault. The spec gives every command an effect, so no meaning raises one. -/
inductive Fault where
  /-- Never raised: no command of the table is left without an effect (safe). -/
  | none_
deriving DecidableEq, Repr

/-- Why a command has no meaning. -/
inductive Refusal where
  /-- A command without a meaning in this model, named by its mnemonic: raised by an arm of exec (safe). -/
  | notModelled (mnemonic : String)
deriving DecidableEq, Repr

/-- The state of the block. -/
structure State where
  /-- Commands that wait, first in first out. -/
  pending : List Instr
  /-- The time base TB (R345). -/
  tb : BitVec 64
  /-- Lane B's own clock count (R16, R33). -/
  clkB : BitVec 64
  /-- Counter that feeds the free values of Config. -/
  freeCnt : Nat
  sys : SysSt
  evt : EvtSt
  host : HostSt
  ttu : TtuSt
  lan : LanSt
  rdl : RdlSt
  fns : List FnSt
  fld : FldSt
  smu : List AxisSt
  ksl : KslSt
  cuts : CutsSt
  mode : ModeSt
  net : NetSt
  plt : PltSt
  fus : FusSt
  lcy : LcySt
  nv : NvSt
  /-- The active configuration as the lanes have loaded it (R105, R365). -/
  cfg : Option Image
deriving DecidableEq, Repr

/-- The block right after a power-on reset. -/
def State.reset : State where
  pending := []
  tb := 0
  clkB := 0
  freeCnt := 0
  sys := SysSt.reset
  evt := EvtSt.reset
  host := HostSt.reset
  ttu := TtuSt.reset
  lan := LanSt.reset
  rdl := RdlSt.reset
  fns := []
  fld := FldSt.reset
  smu := List.replicate 4 AxisSt.reset
  ksl := KslSt.reset
  cuts := CutsSt.reset
  mode := ModeSt.reset
  net := NetSt.reset
  plt := PltSt.reset
  fus := FusSt.reset
  lcy := LcySt.reset
  nv := NvSt.reset
  cfg := none

end Sys2Proof.Machine
end

