-- ==== Sys2Proof/Machine/Ops.lean ====
section
/-! DEFINITION. Shared operations: events, demand records and the posted writes of the host island (R145, R147, R314, R317,
R328, R329, R441 to R443), and small helpers on lists and registers. -/
namespace Sys2Proof.Machine

/-- Change element i of a list. -/
def modAt {α : Type} (l : List α) (i : Nat) (f : α → α) : List α := match l[i]? with
  | some x => l.set i (f x)
  | none => l

/-- A register bit set. -/
def setBit {w : Nat} (x : BitVec w) (i : Nat) : BitVec w := x ||| BitVec.ofNat w (2 ^ i)

/-- A register bit cleared. -/
def clearBit {w : Nat} (x : BitVec w) (i : Nat) : BitVec w := x &&& ~~~(BitVec.ofNat w (2 ^ i))

/-- A mask of 96 channels from a predicate. -/
def mask96 (f : Nat → Bool) : BitVec 96 :=
  BitVec.ofNat 96 ((List.range 96).foldl (fun n i => n + (if f i then 2 ^ i else 0)) 0)

/-- Numbers below n that satisfy p. -/
def idxs (n : Nat) (p : Nat → Bool) : List Nat := (List.range n).filter p

/-- Capacities of the variant (R1): channels, banks, sources, consumed or produced connections. -/
def nChanOf (v : Nat) : Nat := if v == 3 then 48 else 96
def nBankOf (v : Nat) : Nat := if v == 3 then 3 else 6
def nSrcOf (v : Nat) : Nat := if v == 3 then 12 else 24
def nConnOf (v : Nat) : Nat := if v == 3 then 128 else 256
/-- The variant has the Safe Motion Unit (R1). -/
def hasSmuOf (v : Nat) : Bool := v == 1

/-- The own node's number; 0xFFFF before a configuration is active (R328). -/
def ownNodeNo (s : State) : Nat := match s.cfg with
  | some c => c.own
  | none => 0xFFFF

/-- The own TOPOLOGY record. -/
def ownRec (c : Image) : Option NodeRec := c.nodes.find? (fun n => n.node == c.own)

/-- T_F in ticks of 10 ns (R30, R66). -/
def tfTicks (s : State) : Nat := s.lan.tfUnits.toNat * 1000
/-- W_O in ticks. -/
def woTicks (s : State) : Nat := s.lan.woUs.toNat * 100

/-- Is DMA running: D0, link up, Bus Master Enable set (R322, R341)? -/
def dmaOk (s : State) : Bool := !s.host.d3 && s.host.linkUp && s.host.busMaster

/-- The ring r. -/
def ringAt (s : State) (r : Nat) : RingSt := s.host.rings.getD r RingSt.reset

/-- Bytes of an entry of ring r (R315, R333). -/
def entrySize (r : Nat) : Nat := match r with
  | 0 | 1 => 64
  | 2 | 3 => 32
  | 4 | 5 => 128
  | _ => 16

/-- P minus C of ring r (R317). -/
def ringFill (s : State) (r : Nat) : Nat := ((ringAt s r).p - (ringAt s r).c).toNat

/-- Ring r is enabled. -/
def ringOn (s : State) (r : Nat) : Bool := s.host.ringEn.getLsbD r

/-- A posted write appended in order (R317). -/
def post (s : State) (p : Post) : State := { s with host := { s.host with posted := s.host.posted ++ [p] } }

/-- A message of MSI-X vector v may leave: MSI-X is enabled, neither the function nor the vector is masked, and DMA runs (R314, R341, R440). -/
def maySend (s : State) (v : Nat) : Bool :=
  dmaOk s && s.host.pci.msixEn && !s.host.pci.msixMask && !(s.host.msix.getD v MsixSt.reset).ctrl.getLsbD 0

/-- The MSI-X vector v is asserted: a message, or its pending bit while none may leave (R314, R440). -/
def assertVector (s : State) (v : Nat) : State :=
  let m := s.host.msix.getD v MsixSt.reset
  if maySend s v then post s (.msix v m.addr m.data)
  else { s with host := { s.host with pba := setBit s.host.pba v } }

/-- The vector of a source (R439). -/
def vectorOf (s : State) (src : Nat) : Nat := (s.evt.map.getD src 0).toNat

/-- A count of events of a source (R443). -/
def countEvt (s : State) (src : Nat) : State :=
  { s with evt := { s.evt with cnt := modAt s.evt.cnt src (fun c => satAdd c 1) } }

/-- A notification source asserts its vector and takes no ESEQ (R330). -/
def notify (s : State) (src : Nat) : State := assertVector (countEvt s src) (vectorOf s src)

/-- The module's count of a ring is written to the status block (R317). -/
def writeStatus (s : State) (r : Nat) : State :=
  post s (.status r (s.host.sb.toNat + 4 * r) (if r == 2 || r == 3 || r == 4 then (ringAt s r).p else (ringAt s r).c))

/-- An entry is written into a module-produced ring at P, and P advances (R317). -/
def putEntry (s : State) (r : Nat) (data : Bytes) : State :=
  let g := ringAt s r
  let s := post s (.entry r (g.base.toNat + (g.p.toNat % g.size) * entrySize r) data)
  { s with host := { s.host with rings := modAt s.host.rings r (fun g => { g with p := g.p + 1 }) } }

/-- May an entry be queued in the EVT ring (R329)? -/
def evtRoom (s : State) : Bool := ringOn s 3 && dmaOk s && ringFill s 3 < (ringAt s 3).size

/-- Sources of non-zero held counters, ascending. -/
def heldSources (s : State) : List Nat := idxs 256 (fun i => s.evt.held.getD i 0 != 0)

/-- One overflow summary of the first held counters (R329). -/
def oneSummary (s : State) : State :=
  let srcs := (heldSources s).take 6
  let item := fun i => leBytes 1 i ++ [if 0xFFFF < s.evt.held.getD i 0 then 1 else 0] ++ leBytes 2 (min 0xFFFF (s.evt.held.getD i 0))
  let data := [0x03, BitVec.ofNat 8 srcs.length] ++ zeros 6 ++ (srcs.map item).flatten ++ zeros (24 - 4 * srcs.length)
  let s := putEntry s 3 data
  { s with evt := { s.evt with held := srcs.foldl (fun h i => h.set i 0) s.evt.held } }

/-- Overflow summaries while the ring has space, in ascending source order, then the count, the notification and the vectors
of the sources they report (R314, R329, R330). -/
def summariesLoop : Nat → State → State
  | 0, s => s
  | n + 1, s => if evtRoom s && !(heldSources s).isEmpty then summariesLoop n (oneSummary s) else s

/-- All summaries that the ring takes. -/
def writeSummaries (s : State) : State :=
  let before := heldSources s
  let s' := summariesLoop 43 s
  let told := before.filter (fun i => s'.evt.held.getD i 0 == 0)
  if told.isEmpty then s' else told.foldl (fun t i => assertVector t (vectorOf t i)) (notify (writeStatus s' 3) 185)

/-- A source that is never raised: R10, R171, R229, R268, R441. -/
def neverRaised (variant src : Nat) : Bool :=
  (4 ≤ src && src < 16) || (31 ≤ src && src < 48) || (108 ≤ src && src < 112) || (136 ≤ src && src < 144) || src == 159
    || (165 ≤ src && src < 168) || (179 ≤ src && src < 184) || src == 255 || 256 ≤ src
    || (variant == 3 && ((72 ≤ src && src < 96) || (99 ≤ src && src < 102) || (105 ≤ src && src < 108) || (146 ≤ src && src ≤ 150)))
    || (!hasSmuOf variant && 112 ≤ src && src < 128)

/-- The 32-byte event entry (R328). -/
def evtEntry (s : State) (e : RawEvt) : Bytes :=
  [0x01, BitVec.ofNat 8 e.src] ++ leBytes 2 (ownNodeNo s) ++ bytesOf s.evt.eseq 4 ++ bytesOf s.tb 8
    ++ leBytes 4 s.lan.frame.toNat ++ leBytes 4 e.i0 ++ leBytes 4 e.i1 ++ leBytes 4 e.i2

/-- An event is held in its counter (R329). -/
def holdEvt (s : State) (src : Nat) : State :=
  { s with evt := { s.evt with held := modAt s.evt.held src (· + 1), wasQueued := false } }

/-- An entry goes into the EVT ring, after the summaries of the held counters, if it has room; the answer says whether. -/
def tryQueue (s : State) (data : Bytes) : State × Bool :=
  let s := if evtRoom s then writeSummaries s else s
  if evtRoom s && (heldSources s).isEmpty then (notify (writeStatus (putEntry s 3 data) 3) 185, true) else (s, false)

/-- One event takes its ESEQ and its place (R328, R329, R443). -/
def emitEvt (s : State) (e : RawEvt) : State :=
  let s := match e.record with
    | some r => (tryQueue s r).1
    | none => s
  let s := countEvt s e.src
  let s := { s with evt := { s.evt with eseq := s.evt.eseq + 1 } }
  let p := tryQueue s (evtEntry s e)
  if p.2 then assertVector { p.1 with evt := { p.1.evt with wasQueued := true } } (vectorOf s e.src)
  else
    let ovr := p.1.evt.wasQueued
    let s := holdEvt p.1 e.src
    if ovr then
      let s := countEvt s 189
      holdEvt { s with evt := { s.evt with eseq := s.evt.eseq + 1 } } 189
    else s

/-- Insert an event after those of the same or a lower source. -/
def insertEvt (e : RawEvt) : List RawEvt → List RawEvt
  | [] => [e]
  | x :: r => if e.src < x.src then e :: x :: r else x :: insertEvt e r

/-- Events of one instant in ascending source order, those of one source in the order raised (R443). -/
def sortEvts (l : List RawEvt) : List RawEvt := l.foldl (fun acc e => insertEvt e acc) []

/-- Every event raised by a command takes its place. -/
def flush (s : State) : State :=
  (sortEvts s.evt.raised).foldl emitEvt { s with evt := { s.evt with raised := [] } }

/-- An event is raised with its INFO words (R442). -/
def raise (s : State) (src i0 i1 i2 : Nat) : State :=
  if neverRaised s.sys.variant src then s
  else { s with evt := { s.evt with raised := s.evt.raised ++ [⟨src, i0, i1, i2, none⟩] } }

/-- An event raised at most once in each window of one second; key tells apart the things counted on their own (R443). -/
def raiseFirst (s : State) (src key i0 i1 i2 : Nat) : State :=
  let w := s.tb.toNat / 100000000
  if s.evt.win.any (fun x => x.1 == src && x.2.1 == key && x.2.2 == w) then s
  else
    let win := (src, key, w) :: s.evt.win.filter (fun x => !(x.1 == src && x.2.1 == key))
    raise { s with evt := { s.evt with win := win } } src i0 i1 i2

/-- The module is out of reset: VDD is present, and the power-on reset has been released at the end of step 1 (R361, R367, R369). -/
def awake (s : State) : Bool := s.sys.powered && !s.sys.supplyHold && s.sys.running != 1

/-- A command's outcome: its effect, then its events. In reset nothing but the supply acts (R361, R407, R410). -/
def finish (s s' : State) : Host.Outcome State Fault Refusal := if awake s then .next (flush s') else .next s

/-- The outcome of a command of the supply itself. -/
def finishAlways (s' : State) : Host.Outcome State Fault Refusal := .next (flush s')

/-- The host reaches the registers: the host island answers, over a link that is up, in D0 (R369, R341). -/
def hostReach (s : State) : Bool := s.sys.answers && s.host.linkUp && !s.host.d3

/-- The outcome of a write into the host island's own pages. -/
def finishHost (s s' : State) : Host.Outcome State Fault Refusal := finish s (if hostReach s then s' else s)

/-- An HST_ERR bit is set, and its event raised (R330, R343). -/
def hstErr (s : State) (bit : Nat) : State :=
  let err := setBit s.host.err bit
  raise { s with host := { s.host with err := err } } 188 err.toNat 0 0

/-- A SYS_ERR bit is set, and its event raised (R435). -/
def sysErr (s : State) (bit : Nat) : State :=
  let err := setBit s.sys.err bit
  raise { s with sys := { s.sys with err := err } } 1 err.toNat 0 0

/-- A write that crosses to the system bus, at an address of BAR0; a stalled crossing abandons it (R18, R432). -/
def finishBus (s : State) (address : Nat) (s' : State) : Host.Outcome State Fault Refusal :=
  finish s (if !hostReach s then s else if s.sys.hostStalled then raise (sysErr s 0) 2 address 0 0 else s')

/-- A record joins the MRAM log, which holds 65,536 (R147). -/
def logRecord (s : State) (seq : Nat) (r : Bytes) : State :=
  let l := s.nv.log ++ [(seq, r)]
  { s with nv := { s.nv with log := l.drop (l.length - 65536), dseq := BitVec.ofNat 32 seq } }

/-- The lane marked faulty as the records give it: 0 none, 1 A, 2 B (R146, R324). -/
def laneMark (s : State) : Nat := if s.lan.markA then 1 else if s.lan.markB then 2 else 0

/-- One demand record of a function, into the log and with EV029 into the ring (R145 to R147, R443). -/
def demandRecord (s : State) (cause fid ctx frame flags : Nat) : State :=
  let seq := (s.nv.dseq + 1).toNat
  let r := [0x02, if 0x20 ≤ cause then 1 else 0] ++ leBytes 2 cause ++ leBytes 4 fid ++ leBytes 2 ctx ++ leBytes 2 (ownNodeNo s)
    ++ leBytes 4 seq ++ bytesOf s.tb 8 ++ leBytes 4 frame ++ leBytes 1 flags ++ leBytes 1 (laneMark s) ++ zeros 2
  let s := logRecord s seq r
  { s with evt := { s.evt with raised := s.evt.raised ++ [⟨29, ctx, fid, cause, some r⟩] } }

/-- Queue a free value of Config: the counter advances. -/
def nextFree (s : State) : State := { s with freeCnt := s.freeCnt + 1 }

end Sys2Proof.Machine
end

