-- ==== Sys2Proof/Machine/Planter.lean ====
section
/-! DEFINITION. The Planter: the control tree, placement, connections and the plan as bytes (R46, R111, R273 to R282). -/
namespace Sys2Proof.Machine

/-- Insert by a key, after equal keys. -/
def insertBy {α : Type} (le : α → α → Bool) (x : α) : List α → List α
  | [] => [x]
  | y :: r => if le y x then y :: insertBy le x r else x :: y :: r

/-- Stable ascending sort. -/
def sortBy {α : Type} (le : α → α → Bool) (l : List α) : List α := l.foldl (fun acc x => insertBy le x acc) []

/-- First of each value, in order. -/
def distinct (l : List Nat) : List Nat := l.foldl (fun acc x => if acc.contains x then acc else acc ++ [x]) []

/-- Ascending numbers. -/
def sortNat (l : List Nat) : List Nat := sortBy (fun a b => a ≤ b) l

/-- The fold step L of R108. -/
def misrL (s : W72) : W72 := let t := s <<< 1; if s.msb then t ^^^ 0x040000000002080001#72 else t

/-- All 72 bits set. -/
def ones72 : W72 := 0xFFFFFFFFFFFFFFFFFF#72

/-- K(w) of R111. -/
def kOf : Nat → W72
  | 0 => ones72
  | n + 1 => misrL (kOf n) ^^^ ones72

/-- The node record of a number. -/
def nodeOf (c : Image) (n : Nat) : Option NodeRec := c.nodes.find? (fun r => r.node == n)
/-- T_F of a node in microseconds (R276). -/
def tfOf (c : Image) (n : Nat) : Nat := ((nodeOf c n).map (fun r => r.tf * 10)).getD 0
/-- W_O of a node in microseconds. -/
def woOf (c : Image) (n : Nat) : Nat := ((nodeOf c n).map (fun r => r.wo)).getD 0
/-- Variant of a node. -/
def variantOf (c : Image) (n : Nat) : Nat := ((nodeOf c n).map (fun r => r.variant)).getD 0

/-- The path record of a pair (R254). -/
def pathOf (c : Image) (a b : Nat) : Option PathRec := c.paths.find? (fun p => p.x == min a b && p.y == max a b)
/-- TN of a pair. -/
def tnOf (c : Image) (a b : Nat) : Nat := ((pathOf c a b).map (fun p => p.tn)).getD 0
/-- net of R276. -/
def netOf (c : Image) (a b : Nat) : Nat := 30 + tnOf c a b + 10
/-- up100 of R276. -/
def up100 (t : Nat) : Nat := let u := (t + 99) / 100 * 100; if u < 1000 then 1000 else u

/-- Neighbours of a node by path records, ascending. -/
def neighbours (c : Image) (u : Nat) : List Nat :=
  sortNat (c.paths.filterMap (fun p => if p.x == u then some p.y else if p.y == u then some p.x else none))

/-- Breadth-first growth of the control tree: queue, and edges (child, parent) with the depth of each visited node (R274). -/
def treeLoop (c : Image) : Nat → List Nat → List (Nat × Nat × Nat) → List (Nat × Nat × Nat)
  | 0, _, seen => seen
  | _, [], seen => seen
  | n + 1, u :: q, seen =>
    let d := ((seen.find? (fun x => x.1 == u)).map (fun x => x.2.2)).getD 0
    let kids := ((neighbours c u).filter (fun v => !seen.any (fun x => x.1 == v))).take 8
    treeLoop c n (q ++ kids) (seen ++ kids.map (fun v => (v, u, d + 1)))

/-- The control tree: (node, parent, depth) of each node reached; the root is its own parent (R274). -/
def controlTree (c : Image) : List (Nat × Nat × Nat) := match sortNat (c.nodes.map (fun r => r.node)) with
  | [] => []
  | r :: _ => treeLoop c (c.nodes.length + 1) [r] [(r, r, 0)]

/-- D: twice the height of the tree (R274). -/
def treeDiam (c : Image) : Nat := 2 * (controlTree c).foldl (fun m x => max m x.2.2) 0

/-- Tree neighbours of a node in ascending order (R274). -/
def treeNbrs (c : Image) (n : Nat) : List Nat :=
  sortNat ((controlTree c).filterMap (fun x =>
    if x.1 == x.2.1 then none else if x.1 == n then some x.2.1 else if x.2.1 == n then some x.1 else none))

/-- An SOUT of a function: its local index, and the SIGNAL index its CH names (R101). -/
structure SoutRef where
  loc : Nat
  sig : Nat
  node : Nat
  unit : Nat
deriving DecidableEq, Repr

/-- The SOUT blocks of a function. -/
def soutsOf (c : Image) (f : FnRec) : List SoutRef :=
  f.blocks.zipIdx.filterMap (fun x =>
    if x.1.type == 0x2E then (c.signals[x.1.parN 0]?).map (fun s => ⟨x.2, x.1.parN 0, s.node, s.unit⟩) else none)

/-- Distinct SIGNAL indexes of a function's inputs: references, and the slots of its HREQ blocks (R276). -/
def inSignals (c : Image) (f : FnRec) : List Nat :=
  distinct (f.blocks.flatMap (fun b =>
    b.ins.filterMap (fun r => match refOf r with
      | .signal i => if (c.signals[i]?).any (fun s => s.kind == 1 || s.kind == 3 || s.kind == 4 || s.kind == 6) then some i else none
      | _ => none)
    ++ (if b.type == 0x58 then [b.parN 0] else [])))

/-- Input words of a function for the replay buffer (R134, R277). -/
def inputWords (f : FnRec) : Nat :=
  (distinct (f.blocks.flatMap (fun b => b.ins.filter (fun r => match refOf r with
    | .signal _ => true
    | .exported _ _ => true
    | _ => false)))).length
  + f.blocks.foldl (fun n b => if b.type == 0x51 then n + (b.nout - 2) else n) 0

/-- Node that owns a SIGNAL entry. -/
def sigNode (c : Image) (i : Nat) : Nat := ((c.signals[i]?).map (fun s => s.node)).getD 0

/-- in_part of R276. -/
def inPart (c : Image) (i : Nat) : Nat := match c.signals[i]? with
  | none => 0
  | some s =>
    if s.kind == 1 then
      let f := ((c.chans.find? (fun x => x.node == s.node && x.chan == s.unit)).map (fun x => x.filt)).getD 0
      (if f == 0 then 3000 else f * 100) + 20
    else if s.kind == 6 then
      ((c.axes.find? (fun x => x.node == s.node && x.axis == s.unit)).map (fun x => x.spwin)).getD 0 * tfOf c s.node + 20
    else 0

/-- rf(f, h, k) of R276; the CHOK words of remote channels count as inputs of their owner. -/
def reactionFigure (c : Image) (f : FnRec) (h k : Nat) : Nat :=
  let base := (k + 1) * tfOf c h + woOf c h
  let part := fun (x p : Nat) =>
    p + base + (if x == h then 0 else 2 * tfOf c x + woOf c x + netOf c x h + (up100 (tfOf c x + 2 * netOf c x h) - tfOf c x))
  let souts := soutsOf c f
  let aMax := (inSignals c f).foldl (fun m i => max m (part (sigNode c i) (inPart c i))) base
  let aMax := souts.foldl (fun m o => if o.node == h then m else max m (part o.node 0)) aMax
  let oMax := souts.foldl (fun m o => max m (72 + (if o.node == h then 0 else
    netOf c h o.node + (up100 (k * tfOf c h + 2 * netOf c h o.node) - k * tfOf c h) + 2 * tfOf c o.node + woOf c o.node))) 0
  aMax + oMax

/-- A function as placed: index in the image, host, divider exponent, phase, and standby with its phase. -/
structure Placed where
  idx : Nat
  fn : FnRec
  host : Nat
  klog : Nat
  phase : Nat
  standby : Option (Nat × Nat)
  rf : Nat
deriving DecidableEq, Repr

/-- Signals a function needs at a node: its inputs and the CHOK of its SOUT channels, of other owners (R279). -/
def remoteSigs (c : Image) (f : FnRec) (n : Nat) : List Nat :=
  distinct ((inSignals c f ++ (soutsOf c f).map (fun o => o.sig)).filter (fun i => sigNode c i != n))

/-- The function is hosted or stood by at the node. -/
def Placed.on (p : Placed) (n : Nat) : Bool := p.host == n || p.standby.any (fun s => s.1 == n)

/-- SIGNAL indexes forwarded from x to n (R279), ascending. -/
def forwarded (c : Image) (ps : List Placed) (x n : Nat) : List Nat :=
  sortNat (distinct ((ps.filter (fun p => p.on n)).flatMap (fun p => (remoteSigs c p.fn n).filter (fun i => sigNode c i == x))))

/-- SOUT words that a function on n sends to owner y. -/
def soutWordsTo (c : Image) (f : FnRec) (y : Nat) : Nat := ((soutsOf c f).filter (fun o => o.node == y)).length

/-- Cycles in every frame of a node (R277). -/
def steadyCost (c : Image) (ps : List Placed) (n : Nat) : Nat :=
  let others := (c.nodes.map (fun r => r.node)).filter (fun x => x != n)
  let recvIn := others.foldl (fun t x => t + (forwarded c ps x n).length) 0
  let sentIn := others.foldl (fun t h => t + (forwarded c ps n h).length) 0
  let recvOut := ps.foldl (fun t p =>
    t + (if p.host != n then soutWordsTo c p.fn n else 0) + (if p.standby.any (fun s => s.1 != n) then soutWordsTo c p.fn n else 0)) 0
  let mirrors := ps.foldl (fun t p => if p.standby.any (fun s => s.1 == n) then t + (8 + 2 * cutCount p.fn) else t) 0
  12 * (recvIn + sentIn + recvOut) + mirrors

/-- Cycles of a hosted function in its due frames (R277). -/
def dueCost (c : Image) (f : FnRec) (h : Nat) : Nat :=
  f.cost + 12 * ((soutsOf c f).filter (fun o => o.node != h)).length + (if nbit f.flags 1 then 8 + 2 * cutCount f else 0)

/-- The 64 frame costs of a node (R44, R277). -/
def frameCosts (c : Image) (ps : List Placed) (n : Nat) : List Nat :=
  let base := steadyCost c ps n
  (List.range 64).map (fun j => ps.foldl (fun t p =>
    t + (if p.host == n && j % 2 ^ p.klog == p.phase then dueCost c p.fn n else 0)
      + (if p.standby.any (fun s => s.1 == n && j % 2 ^ p.klog == s.2) then p.fn.cost else 0)) base)

/-- ticks of R46. -/
def ticks97 (cycles : Nat) : Nat := (cycles * 100 + 96) / 97

/-- The loop of frames_feasible: carry and the carry after frame 63 (R46). -/
def feasibleLoop (cost : List Nat) (tf wo : Nat) : Nat → Nat → Nat → Option (Nat × Nat)
  | 0, carry, c63 => some (carry, c63)
  | n + 1, carry, c63 =>
    let i := 127 - n
    let fin := max carry 800 + ticks97 (cost.getD (i % 64) 0)
    if tf + wo / 2 < fin then none
    else
      let carry := fin - tf
      feasibleLoop cost tf wo n carry (if i == 63 then carry else c63)

/-- frames_feasible of R46. -/
def framesFeasible (cost : List Nat) (tf wo : Nat) : Bool := match feasibleLoop cost tf wo 128 0 0 with
  | none => false
  | some (c, c63) => c == c63

/-- Every node's frames are feasible where a placement changes its pattern (R277). -/
def patternsOk (c : Image) (before after : List Placed) : Bool :=
  c.nodes.all (fun r =>
    let new := frameCosts c after r.node
    new == frameCosts c before r.node || framesFeasible new (r.tf * 1000) (r.wo * 100))

/-- The limits of R277 but the cycles, on the node n. -/
def capacityOk (c : Image) (ps : List Placed) (n : Nat) : Bool :=
  let here := ps.filter (fun p => p.on n)
  let small := variantOf c n == 3
  here.length ≤ (if small then 512 else 1024)
    && here.foldl (fun t p => t + p.fn.nblk) 0 ≤ (if small then 8192 else 16384)
    && here.foldl (fun t p => t + p.fn.nword) 0 ≤ 32768
    && here.foldl (fun t p => if nbit p.fn.flags 0 then t + 2 * (p.fn.nword + inputWords p.fn) else t) 0 ≤ 16384

/-- Phases of divider k in ascending phase load, ties to the lowest (R278). -/
def phaseOrder (cost : List Nat) (k : Nat) : List Nat :=
  let load := fun q => (cost.zipIdx.filter (fun x => x.2 % k == q)).foldl (fun t x => t + x.1) 0
  sortBy (fun a b => load a < load b || (load a == load b && a ≤ b)) (List.range k)

/-- The first of the phases that passes (R278). -/
def firstPhase (c : Image) (ps : List Placed) (mk : Nat → Placed) : List Nat → Option Nat
  | [] => none
  | q :: r => if patternsOk c ps (ps ++ [mk q]) then some q else firstPhase c ps mk r

/-- reserve() of R278 for a placement made from a phase: the phase, or the note (2 CAPACITY, 3 CYCLES). -/
def reserve (c : Image) (ps : List Placed) (n k : Nat) (mk : Nat → Placed) : Except Nat Nat :=
  if !capacityOk c (ps ++ [mk 0]) n then .error 2
  else match firstPhase c ps mk (phaseOrder (frameCosts c ps n) k) with
    | some q => .ok q
    | none => .error 3

/-- Owners of the signals of f: inputs, and its SOUT channels. -/
def signalOwners (c : Image) (f : FnRec) : List Nat :=
  distinct ((inSignals c f).map (sigNode c) ++ (soutsOf c f).map (fun o => o.node))

/-- The node has a path record to every other owner of a signal of f. -/
def reaches (c : Image) (f : FnRec) (n : Nat) : Bool :=
  (signalOwners c f).all (fun x => x == n || (pathOf c n x).isSome)

/-- The switch-over gap G (R278, R300). -/
def gapOf (c : Image) (h s : Nat) : Nat := c.domain.leaseL * tfOf c h + 4 * tfOf c s + tnOf c h s

/-- The first standby of the candidates that passes, with its phase (R278). -/
def standbyFrom (c : Image) (ps : List Placed) (p : Placed) : List Nat → Option (Nat × Nat)
  | [] => none
  | s :: r =>
    let k := 2 ^ p.klog
    if reactionFigure c p.fn s k + gapOf c p.host s ≤ p.fn.budget then
      match reserve c ps s k (fun q => { p with standby := some (s, q) }) with
      | .ok q => some (s, q)
      | .error _ => standbyFrom c ps p r
    else standbyFrom c ps p r

/-- standby() of R278. -/
def standbyFor (c : Image) (ps : List Placed) (p : Placed) : Option (Nat × Nat) :=
  let ok := fun n => n != p.host && variantOf c n != 3 && (pathOf c n p.host).isSome && reaches c p.fn n
  let cands := (sortNat (c.nodes.map (fun r => r.node))).filter ok
  standbyFrom c ps p (sortBy (fun a b => tnOf c p.host a < tnOf c p.host b || (tnOf c p.host a == tnOf c p.host b && a ≤ b)) cands)

/-- Try dividers from 2^n down on one candidate: the placement, or the last note (R278). -/
def tryDividers (c : Image) (ps : List Placed) (i : Nat) (f : FnRec) (h : Nat) : Nat → Nat → Except Nat Placed
  | 0, note => .error note
  | n + 1, _ =>
    let k := 2 ^ n
    let rf := reactionFigure c f h k
    if f.budget < rf then tryDividers c ps i f h n 1
    else match reserve c ps h k (fun q => ⟨i, f, h, n, q, none, rf⟩) with
      | .error e => tryDividers c ps i f h n e
      | .ok q =>
        let p : Placed := ⟨i, f, h, n, q, none, rf⟩
        if nbit f.flags 1 then match standbyFor c ps p with
          | some s => .ok { p with standby := some s }
          | none => tryDividers c ps i f h n 4
        else .ok p

/-- Node that owns the most of a list of owners, ties to the lowest. -/
def mostOwned (l : List Nat) : Option Nat :=
  (sortBy (fun a b => l.count b < l.count a || (l.count a == l.count b && a ≤ b)) (distinct l)).head?

/-- The candidates for a function in order (R278). -/
def candidates (c : Image) (ps : List Placed) (f : FnRec) : List Nat :=
  let load := fun n => (frameCosts c ps n).foldl (· + ·) 0
  let rest := sortBy (fun a b => load a < load b || (load a == load b && a ≤ b)) (c.nodes.map (fun r => r.node))
  distinct ((mostOwned ((soutsOf c f).map (fun o => o.node))).toList ++ (mostOwned ((inSignals c f).map (sigNode c))).toList ++ rest)

/-- The first candidate that takes the function, or the last note of the first candidate (R278). -/
def placeOn (c : Image) (ps : List Placed) (i : Nat) (f : FnRec) : Option Nat → List Nat → Except Nat Placed
  | note, [] => .error (note.getD 5)
  | note, h :: r =>
    if !reaches c f h then placeOn c ps i f (some (note.getD 5)) r
    else match tryDividers c ps i f h 7 1 with
      | .ok p => .ok p
      | .error e => placeOn c ps i f (some (note.getD e)) r

/-- Placement of every function in order (R278). -/
def placeAll (c : Image) : List (FnRec × Nat) → List Placed → Except PlanErr (List Placed)
  | [], ps => .ok ps
  | (f, i) :: r, ps => match placeOn c ps i f none (candidates c ps f) with
    | .ok p => placeAll c r (ps ++ [p])
    | .error e => .error ⟨4, e, f.fid, none⟩

/-- Five at a time. -/
def chunks5 : Nat → List Nat → List (List Nat)
  | 0, _ => []
  | _, [] => []
  | n + 1, l => l.take 5 :: chunks5 n (l.drop 5)

/-- KRECV instances on node n bound to block loc of the function at index fi: their TE in microseconds. -/
def krecvTes (c : Image) (ps : List Placed) (fi loc n : Nat) : List Nat :=
  (ps.filter (fun p => p.on n)).flatMap (fun p => p.fn.blocks.filterMap (fun b =>
    if b.type == 0x51 && boundKsend c.fns b == some (fi, loc) then some (b.parN 2 / 100) else none))

/-- A connection before its index is given. -/
def mkConn (prod cons type sub nw te fid blk : Nat) (sig : List Nat) : PlanConn := ⟨prod, 0, cons, type, sub, nw, te, fid, blk, sig⟩

/-- T_F·k of the producer of a connection by function, in microseconds. -/
def periodOf (c : Image) (p : Placed) (n : Nat) : Nat := 2 ^ p.klog * tfOf c n

/-- DATA connections of the KSEND blocks on node n (R280, group 1). -/
def ksendConns (c : Image) (ps : List Placed) (n : Nat) : List (PlanConn × Nat) :=
  let here := sortBy (fun a b => a.fn.fid ≤ b.fn.fid) (ps.filter (fun p => p.on n))
  here.flatMap (fun p => (p.fn.blocks.zipIdx.filter (fun x => x.1.type == 0x50)).flatMap (fun x =>
    (sortNat (c.nodes.map (fun r => r.node))).filterMap (fun m =>
      let tes := krecvTes c ps p.idx x.2 m
      if m == n || tes.isEmpty then none
      else some (mkConn n m 1 0 x.1.nin (tes.foldl min (tes.headD 0)) p.fn.fid x.2 [], periodOf c p n))))

/-- Input forwards of node n (R280, group 2). -/
def inputForwards (c : Image) (ps : List Placed) (n : Nat) : List (PlanConn × Nat) :=
  (sortNat (c.nodes.map (fun r => r.node))).flatMap (fun m =>
    if m == n then [] else
    let sigs := forwarded c ps n m
    (chunks5 sigs.length sigs).map (fun l => (mkConn n m 1 1 l.length (up100 (tfOf c n + 2 * netOf c n m)) 0 0 l, tfOf c n)))

/-- Output forwards of node n (R280, group 3). -/
def outputForwards (c : Image) (ps : List Placed) (n : Nat) : List (PlanConn × Nat) :=
  let here := sortBy (fun a b => a.fn.fid ≤ b.fn.fid) (ps.filter (fun p => p.on n))
  here.flatMap (fun p => (sortNat (c.nodes.map (fun r => r.node))).flatMap (fun y =>
    if y == n then [] else
    let locs := ((soutsOf c p.fn).filter (fun o => o.node == y)).map (fun o => o.loc)
    (chunks5 locs.length locs).map (fun l => (mkConn n y 1 2 l.length (up100 (periodOf c p n + 2 * netOf c n y)) p.fn.fid 0 l, periodOf c p n))))

/-- MIRROR connections of node n (R280 group 4, R292). -/
def mirrorConns (c : Image) (ps : List Placed) (n : Nat) : List (PlanConn × Nat) :=
  let here := sortBy (fun a b => a.fn.fid ≤ b.fn.fid) ps
  let l := c.domain.leaseL
  here.flatMap (fun p => match p.standby with
    | none => []
    | some (s, _) =>
      let cn := cutCount p.fn
      let nf := (cn + 3) / 4
      if p.host == n then (List.range nf).map (fun j =>
        (mkConn n s 2 0 (min 4 (cn - 4 * j)) (up100 (l * tfOf c n + 2 * tfOf c s)) p.fn.fid 0 [], tfOf c n))
      else if s == n then [(mkConn n p.host 2 0 0 (up100 (l * tfOf c n + 2 * tfOf c p.host)) p.fn.fid 0 [], tfOf c n)]
      else [])

/-- TE of a CONTROL or ECHO connection (R274). -/
def controlTe (c : Image) (p q : Nat) : Nat := max 100000 (up100 (tfOf c p + 2 * netOf c p q))

/-- Highest connection index of a node (R274). -/
def maxIdx (c : Image) (n : Nat) : Nat := if variantOf c n == 3 then 127 else 255

/-- CONTROL connections of a node (R274). -/
def controlConns (c : Image) (n : Nat) : List PlanConn :=
  (treeNbrs c n).zipIdx.map (fun x => { mkConn n x.1 3 0 0 (controlTe c n x.1) 0 0 [] with index := maxIdx c n - x.2 })

/-- Connections of groups 1 to 4 of a node with their production periods, numbered upward from 0. -/
def dataConns (c : Image) (ps : List Placed) (n : Nat) : List (PlanConn × Nat) :=
  (ksendConns c ps n ++ inputForwards c ps n ++ outputForwards c ps n ++ mirrorConns c ps n).zipIdx.map
    (fun x => ({ x.1.1 with index := x.2 }, x.1.2))

/-- ECHO connections of a node: to each producer that sends to it and receives nothing from it (R280, group 5). -/
def echoConns (c : Image) (ps : List Placed) (n : Nat) : List PlanConn :=
  let first := dataConns c ps n
  let known := first.map (fun x => x.1.cons) ++ treeNbrs c n
  let froms := (sortNat (c.nodes.map (fun r => r.node))).filter (fun m =>
    m != n && ((dataConns c ps m).any (fun x => x.1.cons == n) || (treeNbrs c m).contains n))
  ((froms.filter (fun m => !known.contains m)).zipIdx).map (fun x =>
    { mkConn n x.1 4 0 0 (controlTe c n x.1) 0 0 [] with index := first.length + x.2 })

/-- The error of one connection: a missing path (3) or a TE out of bounds (6) (R240, R279, R280, R292). -/
def connError (c : Image) (x : PlanConn × Nat) : Option PlanErr :=
  let k := x.1
  if (pathOf c k.prod k.cons).isNone then some ⟨3, 0, k.fid, some k.cons⟩
  else if k.te < x.2 + netOf c k.prod k.cons || 10000000 < k.te then some ⟨6, 0, k.fid, some k.prod⟩
  else none

/-- Connections of one node with the errors of R280. -/
def nodeConns (c : Image) (ps : List Placed) (n : Nat) : Except PlanErr (List PlanConn) :=
  let dat := dataConns c ps n
  match (dat.filterMap (connError c)).head? with
  | some e => .error e
  | none =>
    let echo := echoConns c ps n
    let ctl := controlConns c n
    if maxIdx c n + 1 < dat.length + echo.length + ctl.length then .error ⟨5, 0, 0, some n⟩
    else .ok (dat.map (fun x => x.1) ++ echo ++ ctl.reverse)

/-- Connections of every node in ascending CONN_ID (R280, R282). -/
def allConns (c : Image) (ps : List Placed) : List Nat → List PlanConn → Except PlanErr (List PlanConn)
  | [], acc => .ok acc
  | n :: r, acc => match nodeConns c ps n with
    | .error e => .error e
    | .ok l => allConns c ps r (acc ++ l)

/-- Contexts: hosted functions from 0 upward, cuttings from 1,023 downward, in placement order (R281). -/
def planFnOf (ps : List Placed) (i : Nat) (p : Placed) : PlanFn :=
  let before := ps.take i
  let hctx := (before.filter (fun q => q.host == p.host)).length
  let sctx := p.standby.map (fun s => 1023 - (before.filter (fun q => q.standby.any (fun t => t.1 == s.1))).length)
  ⟨p.fn.fid, p.host, p.standby.map (fun s => s.1), hctx, sctx.getD 0xFFFF, p.klog, p.phase, (p.standby.map (fun s => s.2)).getD 0xFF,
    kOf p.fn.nword, p.rf⟩

/-- The plan of an image, with the highest frame cost of the own node (R270, R289), or the plan error (R288). -/
def makePlan (c : Image) : Except PlanErr (Plan × Nat) :=
  let nodes := sortNat (c.nodes.map (fun r => r.node))
  let tree := controlTree c
  match nodes.find? (fun n => !tree.any (fun x => x.1 == n)) with
  | some n => .error ⟨1, 0, 0, some n⟩
  | none =>
    let order := sortBy (fun (a b : FnRec × Nat) => a.1.budget < b.1.budget || (a.1.budget == b.1.budget && a.1.fid ≤ b.1.fid)) c.fns.zipIdx
    match placeAll c order [] with
    | .error e => .error e
    | .ok ps => match allConns c ps nodes [] with
      | .error e => .error e
      | .ok conns =>
        match nodes.find? (fun n => (if variantOf c n == 3 then 128 else 256) < (conns.filter (fun k => k.cons == n)).length) with
        | some n => .error ⟨5, 0, 0, some n⟩
        | none =>
          .ok (⟨ps.zipIdx.map (fun x => planFnOf ps x.2 x.1), conns, c.digest⟩, (frameCosts c ps c.own).foldl max 0)

/-- A function record of the plan (R282). -/
def planFnBytes (f : PlanFn) : Bytes :=
  leBytes 4 f.fid ++ leBytes 2 f.host ++ leBytes 2 (f.standby.getD 0xFFFF) ++ leBytes 2 f.hctx ++ leBytes 2 f.sctx
    ++ leBytes 1 f.klog ++ leBytes 1 f.phase ++ leBytes 1 f.sphase ++ zeros 1 ++ bytesOf f.k 9 ++ zeros 3 ++ leBytes 4 f.rf

/-- A connection record of the plan (R282). -/
def planConnBytes (k : PlanConn) : Bytes :=
  leBytes 4 k.id ++ leBytes 2 k.cons ++ leBytes 1 k.type ++ leBytes 1 k.sub ++ leBytes 1 k.nw ++ zeros 3 ++ leBytes 4 k.te
    ++ leBytes 4 k.fid ++ leBytes 2 k.blk ++ (k.sig ++ List.replicate (5 - k.sig.length) 0xFFFF).flatMap (leBytes 2)

/-- The plan as bytes (R282). -/
def planBytes (nnode : Nat) (p : Plan) : Bytes :=
  leBytes 4 0x4C505853 ++ leBytes 2 1 ++ leBytes 2 nnode ++ leBytes 4 p.fns.length ++ leBytes 4 p.conns.length
    ++ beBytes 48 p.cfgDigest.toNat ++ p.fns.flatMap planFnBytes ++ p.conns.flatMap planConnBytes

/-- The topology digest (R273). -/
def topoDigest (c : Image) : BitVec 384 :=
  sha384 (c.nodes.flatMap (fun r => beBytes 2 r.node ++ beBytes 8 r.serial.toNat ++ [BitVec.ofNat 8 r.variant]))

/-- The connection key CK (R234): from the plan digest, or for CONTROL the configuration digest (R274). -/
def connKey (digest : BitVec 384) (connId : Nat) : BitVec 32 :=
  ((sha384 (beBytes 48 digest.toNat ++ beBytes 4 connId)) >>> 352).setWidth 32

end Sys2Proof.Machine
end

