-- ==== Sys2Proof/Machine/Operands.lean ====
section
/-! DEFINITION. What an evaluation reads (R38, R39, R65, R78, R79, R101, R239, R250, R279, R335): every kind of reference, and the
evaluation of one function in one lane on words in lane A form. -/
namespace Sys2Proof.Machine

/-- A function record without blocks. -/
def emptyFn : FnRec := ⟨0, 0, 0, 0, 0, 0, 0, [], []⟩

/-- The record of a context's function. -/
def fnRecOf (c : Image) (f : FnSt) : FnRec := c.fns.getD f.idx emptyFn

/-- The cutting of a function, if it has one. -/
def cutOf (s : State) (fid : Nat) : Option CutSt := s.cuts.cuts.find? (fun x => x.fid == fid)

/-- Does this node evaluate the function of the context (R291, R301): its host, or the holder of its spade? -/
def holds (s : State) (f : FnSt) : Bool := match cutOf s f.fid with
  | some x => x.holder
  | none => !f.standby

/-- The context here that evaluates a function. -/
def fnHere (s : State) (fid : Nat) : Option FnSt := s.fns.find? (fun f => f.fid == fid && holds s f)

/-- The plan's record of a function. -/
def planFn (s : State) (fid : Nat) : Option PlanFn := s.plt.plan.bind (fun p => p.fns.find? (fun f => f.fid == fid))

/-- D of R66, in ticks. -/
def dTicks (s : State) (f : FnSt) : Nat := 2 ^ f.klog * tfTicks s

/-- The place of output o of block loc among the function's committed words (R110). -/
def wordIdx (r : FnRec) (loc o : Nat) : Option Nat := match r.blocks[loc]? with
  | none => none
  | some b =>
    let off := (blockOffsets r).getD loc 2
    let i := (committedOuts b).findIdx (fun x => x == o)
    if stateOutput b.type == some o then some off
    else if i < (committedOuts b).length then some (off + stateCount b.type b.nin + i) else none

/-- Context word 1: the applied mode and its epoch (R305). -/
def ctxMode (mode epoch : Nat) : Val := BitVec.ofNat 64 (mode * 65536 + epoch)

/-- The committed words at start-up (R67): a committed output that is no state word starts at 0. -/
def startWords (r : FnRec) (ctx0 ctx1 : Val) : List W72 :=
  [validWord ctx0, validWord ctx1]
    ++ r.blocks.flatMap (fun b => (startState b).map validWord ++ (committedOuts b).map (fun _ => validWord 0))

/-- Words in the form of a lane; the complement is its own inverse, so the same function leads back (R58, R105). -/
def laneWords (l : Lane) (ws : List W72) : List W72 := ws.map (laneForm l)

/-- A context's committed words as a lane holds them, in lane A form. -/
def memOf (l : Lane) (f : FnSt) : List W72 := laneWords l (match l with
  | .a => f.memA
  | .b => f.memB)

/-- The release that a function evaluated in frame n reads: the newest of a frame up to n − 2 (R39). -/
def releasedFor (f : FnSt) (n : Nat) : Option Released := f.hist.find? (fun h => h.frame + 2 ≤ n)

/-- Its words as a lane holds them, in lane A form. -/
def Released.words (l : Lane) (h : Released) : List W72 := laneWords l (match l with
  | .a => h.a
  | .b => h.b)

/-- Word i of another function as frame n reads it in lane l: released, or the start-up value (R39, R67). -/
def committedWord (c : Image) (l : Lane) (f : FnSt) (n i : Nat) : W72 := match releasedFor f n with
  | some h => (h.words l).getD i (faultWord 0)
  | none => (startWords (fnRecOf c f) 0 0).getD i (faultWord 0)

/-- An export of another function (R39); of a function that is not evaluated here its start-up value (R301). -/
def exportWord (s : State) (c : Image) (l : Lane) (n fid e : Nat) : W72 :=
  match fnIndex c.fns fid, exportAt c.fns fid e with
  | some fi, some (_, loc, o) =>
    let r := c.fns.getD fi emptyFn
    match wordIdx r loc o with
    | none => faultWord 0
    | some i => match fnHere s fid with
      | some f => committedWord c l f n i
      | none => (startWords r 0 0).getD i (faultWord 0)
  | _, _ => faultWord 0

/-- A value in the form of a lane (R58). -/
def laneVal (l : Lane) (v : Val) : Val := match l with
  | .a => v
  | .b => ~~~v

/-- A bit in the form of a lane (R58). -/
def laneBit (l : Lane) (x : Bool) : Bool := x != (l == .b)

/-- A connection latch in the form of a lane; the same function leads back. -/
def laneConn (l : Lane) (v : ConnView) : ConnView := { v with words := laneWords l v.words }

/-- An input image in the form of a lane; the same function leads back (R105). -/
def laneImg (l : Lane) (x : LaneImg) : LaneImg where
  inputs := laneWords l x.inputs
  chok := x.chok.map (laneBit l)
  banks := laneWords l x.banks
  axes := x.axes.map (laneWords l)
  conns := x.conns.map (fun p => (p.1, laneConn l p.2))
  slots := x.slots.map (fun o => o.map (fun v => { v with value := laneVal l v.value }))

/-- The input image that a lane holds, in lane A form. -/
def FrameImg.of (l : Lane) (img : FrameImg) : LaneImg := laneImg l (match l with
  | .a => img.inA
  | .b => img.inB)

/-- A lane's loader (R105): what it reads from the configuration slot in lane A form, as it writes it into its own memory. -/
def loadConsts (l : Lane) (c : Image) : List W72 := laneWords l (c.consts.map (fun p => mkWord p.value (BitVec.ofNat 8 p.qual)))
/-- The same for the parameters of a function's blocks. -/
def loadPars (l : Lane) (r : FnRec) : List (List W72) :=
  r.blocks.map (fun b => laneWords l (b.pars.map (fun p => mkWord p.value (BitVec.ofNat 8 p.qual))))

/-- The constants that a lane holds, in lane A form. -/
def constsOf (s : State) (l : Lane) : List W72 := laneWords l (match l with
  | .a => s.lan.constA
  | .b => s.lan.constB)

/-- The parameters of block loc that a lane holds, in lane A form. -/
def parsOf (l : Lane) (f : FnSt) (loc : Nat) : List W72 := laneWords l ((match l with
  | .a => f.parA
  | .b => f.parB).getD loc [])

/-- A block as a lane evaluates it: its record with the parameter values of the lane's own memory. -/
def loadedBlock (l : Lane) (f : FnSt) (b : BlockRec) (loc : Nat) : BlockRec :=
  { b with pars := List.zipWith (fun p w => { p with value := wval w, qual := (wqual w).toNat }) b.pars (parsOf l f loc) }

/-- The connection latch of a lane's image. -/
def connView (img : LaneImg) (id : Nat) : ConnView := match img.conns.find? (fun x => x.1 == id) with
  | some x => x.2
  | none => ⟨false, 4, 0, [], false, false⟩

/-- A forwarded word of a SIGNAL entry of another node, with the age of its connection (R279, R244). -/
def forwardWord (s : State) (c : Image) (img : LaneImg) (i : Nat) : W72 × Nat :=
  match s.plt.plan.bind (fun p => p.conns.find? (fun k => k.type == 1 && k.sub == 1 && k.cons == c.own && k.sig.contains i)) with
  | none => (faultWord 0, 0)
  | some k =>
    let v := connView img k.id
    if !v.run || k.te * 100 < v.age then (faultWord 0, v.age)
    else
      let w := v.words.getD (k.sig.findIdx (fun x => x == i)) (faultWord 0)
      (mkWord (wval w) (wqual w ||| (if v.window then qTrans else 0) ||| (if v.fallow then qFallow else 0)), v.age)

/-- A request slot of the own node or of another (R334, R335): on another node the age is that of the forward. -/
def slotView (s : State) (c : Image) (img : LaneImg) (i : Nat) : Option SlotView := match c.signals[i]? with
  | none => none
  | some g =>
    if g.node == c.own then img.slots.getD g.unit none
    else
      let w := forwardWord s c img i
      if usable w.1 then some ⟨wval w.1, w.2, carries w.1 qForced⟩ else none

/-- The word that a SIGNAL reference reads (R65, R79, R170, R196, R216). -/
def signalWord (s : State) (c : Image) (img : LaneImg) (i : Nat) : W72 := match c.signals[i]? with
  | none => faultWord 0
  | some g =>
    if g.kind == 4 then (slotWords (slotView s c img i) 0).1
    else if g.node != c.own then (forwardWord s c img i).1
    else if g.kind == 1 then img.inputs.getD g.unit (faultWord 0)
    else if g.kind == 3 then img.banks.getD g.unit (faultWord 0)
    else if g.kind == 6 then (img.axes.getD g.unit []).getD (if g.type == 1 then 0 else 1) (faultWord 0)
    else faultWord 0

/-- CHOK of the channel that a SIGNAL entry of KIND 2 names (R101, R188, R279). -/
def chokOf (s : State) (c : Image) (img : LaneImg) (i : Nat) : Bool := match c.signals[i]? with
  | none => false
  | some g =>
    if g.node == c.own then img.chok.getD g.unit false
    else
      let w := (forwardWord s c img i).1
      usable w && isOn (wval w)

/-- The connection that a KRECV reads: the own node's KSEND (R250), or the connection picked at the latch (R301). -/
def recvView (s : State) (c : Image) (img : LaneImg) (n : Nat) (l : Lane) (b : BlockRec) : ConnView :=
  let fid := b.parN 0
  match fnHere s fid, boundKsend c.fns b with
  | some f, some (fi, kl) =>
    let r := c.fns.getD fi emptyFn
    let off := (blockOffsets r).getD kl 2
    let words := (List.range (b.nout - 2)).map (fun i => committedWord c l f n (off + i))
    let age := match releasedFor f n with
      | some h => (n - h.frame) * tfTicks s
      | none => 0
    ⟨true, 0, age, words, false, false⟩
  | _, _ => match s.cuts.picks.find? (fun p => p.fid == fid && p.blk == b.parN 1) with
    | some ⟨_, _, some id⟩ => connView img id
    | _ => ⟨false, 4, 0, [], false, false⟩

/-- What a reference reads from outside the function (R39, R65, R79); none for a reference to its own blocks or to a constant. -/
def outsideWord (s : State) (c : Image) (img : LaneImg) (n : Nat) (l : Lane) (x : Nat) : Option W72 := match refOf x with
  | .signal i => some (signalWord s c img i)
  | .exported fid e => some (exportWord s c l n fid e)
  | _ => none

/-- The value of a reference in an evaluation (R65): `ext` what it reads from outside, `mem` the committed words before the evaluation,
`outs` the outputs computed so far. -/
def readRef (consts : List W72) (r : FnRec) (mem : List W72) (outs : List (List W72)) (x : Nat) (ext : Option W72) : W72 :=
  match refOf x with
  | .block loc o => (outs.getD loc []).getD o (faultWord 0)
  | .const i => consts.getD i (faultWord 0)
  | .signal _ => ext.getD (faultWord 0)
  | .exported _ _ => ext.getD (faultWord 0)
  | .feedback loc o => match wordIdx r loc o with
    | some i => mem.getD i (faultWord 0)
    | none => faultWord 0
  | .unassigned => faultWord 0

/-- What a block is given beside its inputs. -/
def blockEnv (s : State) (c : Image) (img : FrameImg) (l : Lane) (f : FnSt) (b : BlockRec) (ty : Nat) : BlockEnv where
  d := dTicks s f
  chok := b.type == 0x2E && chokOf s c (img.of l) (b.parN 0)
  slot := if b.type == 0x58 then slotView s c (img.of l) (b.parN 0) else none
  conn := if b.type == 0x51 then recvView s c (img.of l) img.n l b else ⟨false, 4, 0, [], false, false⟩
  mode := img.mode
  epoch := img.epoch
  window := img.window
  ty := ty

/-- The graph of an active image (R69). -/
def imageGraph (c : Image) : GraphCtx := ⟨c.fns, c.signals, c.consts, c.axes, c.chans⟩

/-- The type T of a block's typed inputs. -/
def blockType (g : GraphCtx) (ty : OutTable Nat) (fi : Nat) (b : BlockRec) : Nat := commonType b (b.ins.map (refType g ty fi))

/-- The words of one evaluation so far: the outputs of each block, and the committed words in the order of R110. -/
structure EvalAcc where
  outs : List (List W72)
  words : List W72

/-- Everything that an evaluation of a function reads from outside it in lane l (R134), in lane A form. -/
def gatherIn (s : State) (c : Image) (img : FrameImg) (l : Lane) (f : FnSt) (g : GraphCtx) (ty : OutTable Nat) : EvalIn where
  mode := img.mode
  epoch := img.epoch
  blocks := (fnRecOf c f).blocks.map (fun b =>
    ⟨b.ins.map (outsideWord s c (img.of l) img.n l), blockEnv s c img l f b (blockType g ty f.idx b)⟩)

/-- What an evaluation reads, in the form of a lane; the same function leads back. -/
def laneIn (l : Lane) (x : EvalIn) : EvalIn :=
  { x with blocks := x.blocks.map (fun y =>
      { ext := y.ext.map (fun w => w.map (laneForm l)),
        env := { y.env with
          chok := laneBit l y.env.chok, conn := laneConn l y.env.conn,
          slot := y.env.slot.map (fun v => { v with value := laneVal l v.value }) } }) }

/-- The evaluation of one block instance within its function. -/
def evalStep (consts : List W72) (l : Lane) (f : FnSt) (r : FnRec) (mem : List W72) (acc : EvalAcc) (p : (BlockRec × OutsideIn) × Nat) : EvalAcc :=
  let b := loadedBlock l f p.1.1 p.2
  let ins := List.zipWith (readRef consts r mem acc.outs) b.ins p.1.2.ext
  let off := (blockOffsets r).getD p.2 2
  let st := (mem.drop off).take (stateCount b.type b.nin)
  let res := evalBlock b p.1.2.env ins st
  ⟨acc.outs ++ [res.outs], acc.words ++ res.st ++ (committedOuts b).map (fun o => res.outs.getD o (faultWord 0))⟩

/-- FAL_REM of a status (R129). -/
def falRem (v : Val) : Nat := nbits v.toNat 63 16
/-- STATE of a status. -/
def stState (v : Val) : Nat := nbits v.toNat 3 0
/-- MM_CNT of a status. -/
def stMm (v : Val) : Nat := nbits v.toNat 7 4
/-- LANE of a status. -/
def stLane (v : Val) : Nat := nbits v.toNat 9 8
/-- A status from its fields. -/
def mkStatus (rem lane mm st : Nat) : Val := BitVec.ofNat 64 (rem * 65536 + lane * 256 + mm * 16 + st)

/-- The status that an evaluation writes: FAL_REM falls by k × TF_UNITS × 10 µs in fallow (R143). -/
def nextStatus (s : State) (f : FnSt) (v : Val) : Val :=
  if stState v == 2 then mkStatus (falRem v - 2 ^ f.klog * s.lan.tfUnits.toNat * 10) (stLane v) (stMm v) 2 else v

/-- FALLOW on every word (R141). -/
def fallowWords (ws : List W72) : List W72 := ws.map (fun w => mkWord (wval w) (wqual w ||| qFallow))

/-- One evaluation of a function in one lane on the committed words `mem` and what it reads from outside: its committed words in lane A
form, in the order of R110. In fallow every committed word carries FALLOW (R141). -/
def evalFn (s : State) (c : Image) (l : Lane) (f : FnSt) (mem : List W72) (x : EvalIn) : List W72 :=
  let r := fnRecOf c f
  let v0 := wval (mem.getD 0 0)
  let head := [validWord (nextStatus s f v0), validWord (ctxMode x.mode x.epoch)]
  let acc := (r.blocks.zip x.blocks).zipIdx.foldl (evalStep (constsOf s l) l f r mem) ⟨[], head⟩
  if stState v0 == 2 then fallowWords acc.words else acc.words

end Sys2Proof.Machine
end

