-- ==== Sys2Proof/Machine/Lanes.lean ====
section
/-! DEFINITION. The lanes: due frames (R43), the evaluation of a frame by one lane with its signatures (R35, R105 to R111, R134),
and the decoy checkpoints (R122). -/
namespace Sys2Proof.Machine

/-- One fold of a word at its offset (R108). -/
def misrFold (sg word : W72) (off : Nat) : W72 := misrL sg ^^^ word.rotateLeft (off % 72)

/-- Lane A's seed of a context (R109). -/
def seedA (ctx : Nat) : W72 := BitVec.ofNat 72 (0xA5 * 2 ^ 64 + ctx % 1024)

/-- The signature of words in the form in which lane l holds them (R109, R110). -/
def signature (l : Lane) (ctx : Nat) (words : List W72) : W72 :=
  words.zipIdx.foldl (fun sg p => misrFold sg p.1 p.2) (laneForm l (seedA ctx))

/-- The functions are evaluated in RUN, in the frames of the latched image. -/
def imgOf (s : State) (n : Nat) : Option FrameImg := s.lan.imgs.find? (fun i => i.n == n)

/-- Is a context due in frame n: by the RUN index in RUN, by the frame number in HOLD (R43)? -/
def dueIn (s : State) (f : FnSt) (n : Nat) (run : Bool) : Bool :=
  let k := 2 ^ f.klog
  if run then s.lan.nrun.toNat ≤ n && (n - s.lan.nrun.toNat) % k == f.phase else n % k == f.phase

/-- The commits of frame n are discarded (R40). -/
def dropped (f : FnSt) (n : Nat) : Bool := f.drop.any (fun d => decide (n ≤ d))

/-- This node runs the function of the context in frame n: it is due, and a spade it holds was taken by then (R298, R299). -/
def runsIn (s : State) (f : FnSt) (n : Nat) : Bool :=
  holds s f && dueIn s f n true && ((cutOf s f.fid).map (fun x => decide (x.since ≤ n))).getD true

/-- A lane is marked faulty (R139). -/
def marked (s : State) (l : Lane) : Bool := match l with
  | .a => s.lan.markA
  | .b => s.lan.markB

/-- Does lane l evaluate the context in frame n (R128, R140, R298, R299)? -/
def evaluates (s : State) (l : Lane) (f : FnSt) (n : Nat) : Bool := runsIn s f n && stState f.status != 3 && !marked s l

/-- Change the context ctx. -/
def modFn (s : State) (ctx : Nat) (g : FnSt → FnSt) : State :=
  { s with fns := s.fns.map (fun f => if f.ctx == ctx then g f else f) }

/-- The record of frame n among a context's evaluations. -/
def evalRec (f : FnSt) (n : Nat) : Option EvalRec := f.evals.find? (fun e => e.frame == n)

/-- The words of a lane joined to the record of frame n. -/
def putEval (f : FnSt) (l : Lane) (n : Nat) (ws : List W72) (sg : W72) : FnSt :=
  let e := (evalRec f n).getD ⟨n, none, none, 0, 0⟩
  let e := match l with
    | .a => { e with wordsA := some ws, sigA := sg }
    | .b => { e with wordsB := some ws, sigB := sg }
  { f with evals := e :: f.evals.filter (fun x => x.frame != n) }

/-- The replay buffer entry of frame n with what lane l put into it; two entries are kept (R134). -/
def putReplay (f : FnSt) (l : Lane) (n : Nat) (x : LaneReplay) : FnSt :=
  let e := (f.replay.find? (fun x => x.frame == n)).getD ⟨n, none, none⟩
  let e := match l with
    | .a => { e with a := some x }
    | .b => { e with b := some x }
  { f with replay := (e :: f.replay.filter (fun x => x.frame != n)).take 2 }

/-- The committed words of a context as lane l stores them, replaced. -/
def putMem (f : FnSt) (l : Lane) (ws : List W72) : FnSt := match l with
  | .a => { f with memA := ws }
  | .b => { f with memB := ws }

/-- The stored words of a context in lane l. -/
def rawMem (f : FnSt) (l : Lane) : List W72 := match l with
  | .a => f.memA
  | .b => f.memB

/-- A context frozen for a diagnosis keeps the entry of its mismatching frame (R135). -/
def frozenReplay (s : State) (f : FnSt) : Bool := (s.lan.diag.map (fun d => d.2.any (fun x => x.1 == f.ctx))).getD false

/-- Bits that a lane's own fault turns over in the committed words of a context (R132), by their offset. -/
def flipWords (flips : List WordFlip) (ctx : Nat) (ws : List W72) : List W72 :=
  ws.zipIdx.map (fun p => (flips.filter (fun x => x.ctx == ctx && x.off == p.2)).foldl (fun w x => w ^^^ x.bits) p.1)

/-- The checkpoint tag that a lane sends (R117). -/
def ctxTag (l : Lane) (n : Nat) (decoy : Bool) (num : Nat) : BitVec 16 :=
  BitVec.ofNat 16 (2 ^ 15 * b2n decoy + 2 ^ 11 * b2n (l == .b) + 2 ^ 10 * (n % 2) + num % 1024)

/-- A lane sends a signature with its tag to its own half and to the other (R113). -/
def sendSig (s : State) (l : Lane) (tag : BitVec 16) (sg : W72) : State :=
  { s with rdl := { s.rdl with way0 := s.rdl.way0 ++ [⟨l, tag, sg⟩], way1 := s.rdl.way1 ++ [⟨l, tag, sg⟩] } }

/-- One context evaluated in lane l for frame n: signature, committed words and replay entry. The evaluation of a frame whose commits
R40 discards leaves a re-initialised function's words as they are (R128). -/
def evalContext (s : State) (c : Image) (img : FrameImg) (l : Lane) (g : GraphCtx) (ty : OutTable Nat) (flips : List WordFlip) (f : FnSt) :
    FnSt :=
  if !evaluates s l f img.n then f
  else
    let before := rawMem f l
    let x := gatherIn s c img l f g ty
    let ws := flipWords flips f.ctx (laneWords l (evalFn s c l f (memOf l f) x))
    let sg := signature l f.ctx ws
    let f1 := putEval f l img.n ws sg
    let f2 := if nbit (fnRecOf c f).flags 0 && !frozenReplay s f then putReplay f1 l img.n ⟨before, laneIn l x, sg⟩ else f1
    if dropped f img.n && stState f.status != 1 then f2 else putMem f2 l ws

/-- The signature that a lane formed for frame n. -/
def sigOf (l : Lane) (f : FnSt) (n : Nat) : W72 := ((evalRec f n).map (fun e => match l with
  | .a => e.sigA
  | .b => e.sigB)).getD 0

/-- The one bit of count d, as it stands in a signature and in the difference vector (R122, R123). -/
def decoyDiff (d : Nat) : W72 := BitVec.ofNat 72 (2 ^ ((d / 2) % 72))

/-- A lane's reference signature: four fixed words folded into the register seeded with c = 1023, without a difference (R121, R122). -/
def refSig (l : Lane) : W72 := signature l 1023 (laneWords l ((List.range 4).map Config.decoyWord))

/-- A decoy's signature in a lane (R122): the lane whose turn it is carries the one bit of count d in its last word. The last word is folded
without a further multiplication, so the bit enters the signature as it is; DEDUCED (log 152): it counts after the fold's rotation. -/
def decoySig (l : Lane) (d : Nat) : W72 := refSig l ^^^ (if (d % 2 == 1) == (l == .b) then decoyDiff d else 0)

/-- Progress of a lane. -/
def laneEval (s : State) (l : Lane) : LaneEval := match l with
  | .a => s.lan.evalA
  | .b => s.lan.evalB

/-- Progress of a lane replaced. -/
def setLaneEval (s : State) (l : Lane) (e : LaneEval) : State := match l with
  | .a => { s with lan := { s.lan with evalA := e } }
  | .b => { s with lan := { s.lan with evalB := e } }

/-- The checkpoints of frame n leave lane l, in placement order, and after them the frame's decoy (R113, R122). While a lane is marked
the Riddle compares nothing (R139). -/
def sendSigs (s : State) (l : Lane) (n : Nat) : State :=
  if !s.rdl.active then s
  else
    let s := s.fns.foldl (fun t f => if evaluates s l f n then sendSig t l (ctxTag l n false f.ctx) (sigOf l f n) else t) s
    (s.rdl.decoyOpen.filter (fun x => x.1 == n)).foldl (fun t x => sendSig t l (ctxTag l n true x.2) (decoySig l x.2)) s

/-- FRAME_EVALUATION: lane l evaluates the due functions of the next frame it has not evaluated, in placement order (R35, R52), and sends
their signatures. A lane that waits at a full queue goes on only after CHECKPOINT_WAIT_END (R120). -/
def frameEvaluationEffect (l : Lane) (o : EvalObs) (s : State) : State :=
  let e := laneEval s l
  match e.todo, s.cfg with
  | n :: rest, some c =>
    if e.waiting || s.lan.halted then s
    else match imgOf s n with
      | none => s
      | some img =>
        let g := imageGraph c
        let ty := graphTypes g
        let s' := if img.run && s.lan.inRun then sendSigs { s with fns := s.fns.map (evalContext s c img l g ty o.flips) } l n else s
        setLaneEval s' l { e with todo := rest, finished := some n, cycles := (n, o.cycles) :: e.cycles }
  | _, _ => s

/-- CHECKPOINT_WAIT_END: both queues have a free entry and the lane goes on (R120). -/
def checkpointWaitEndEffect (l : Lane) (s : State) : State :=
  if s.rdl.q0.length < 64 && s.rdl.q1.length < 64 then setLaneEval s l { laneEval s l with waiting := false } else s

/-- FRAME_EVALUATION. -/
def execFrameEvaluation (l : Lane) (o : EvalObs) (s : State) : Host.Outcome State Fault Refusal :=
  finish s (frameEvaluationEffect l o s)
/-- CHECKPOINT_WAIT_END. -/
def execCheckpointWaitEnd (l : Lane) (s : State) : Host.Outcome State Fault Refusal := finish s (checkpointWaitEndEffect l s)

/-- The frame parity and context of a tag (R117). -/
def tagFp (t : BitVec 16) : Bool := t.getLsbD 10
/-- DECOY of a tag. -/
def tagDecoy (t : BitVec 16) : Bool := t.getLsbD 15
/-- CTX of a tag. -/
def tagCtx (t : BitVec 16) : Nat := nbits t.toNat 9 0

/-- A frame is a decoy frame (R122). -/
def decoyFrame (s : State) (n : Nat) : Bool :=
  s.lan.nrun.toNat ≤ n && (n - s.lan.nrun.toNat) % (max 1 s.rdl.decoyInt.toNat) == 0

end Sys2Proof.Machine
end

