-- ==== Sys2Proof/Machine/Faults.lean ====
section
/-! DEFINITION. Faults and the safe state (R127 to R131, R139, R145): what a function and the module do when they are forced, the images
that the lanes hand to their barrier links (R107, R142, R197), and the way into HOLD. -/
namespace Sys2Proof.Machine

/-- The channel record of an own channel. -/
def ownChan (c : Image) (ch : Nat) : Option ChanRec := c.chans.find? (fun x => x.node == c.own && x.chan == ch)

/-- The use of an own channel; 0 without a record (R149). -/
def chanUse (c : Image) (ch : Nat) : Nat := ((ownChan c ch).map (fun x => x.use)).getD 0

/-- Own standard outputs (R174). -/
def stdMask (c : Image) : BitVec 96 := mask96 (fun ch => chanUse c ch == 6)

/-- Own standard outputs with SAFE_STD set (R197). -/
def safeStdMask (c : Image) : BitVec 96 := mask96 (fun ch => (ownChan c ch).any (fun x => x.use == 6 && nbit x.oflags 1))

/-- The own channels that an SOUT drives: one, or both of a ganged pair (R101, R181). -/
def soutChans (c : Image) (b : BlockRec) : List Nat := match c.signals[b.parN 0]? with
  | none => []
  | some g => if g.kind != 2 || g.node != c.own then [] else if chanUse c g.unit == 5 then [g.unit, g.unit + 1] else [g.unit]

/-- The local indexes of a function's SOUT blocks. -/
def soutLocs (r : FnRec) : List Nat := (r.blocks.zipIdx.filter (fun p => p.1.type == 0x2E)).map (fun p => p.2)

/-- The own channels that block loc of a function drives. -/
def locChans (c : Image) (r : FnRec) (loc : Nat) : List Nat := match r.blocks[loc]? with
  | some b => soutChans c b
  | none => []

/-- An owned function's channels in a lane. -/
def OwnSt.lane (o : OwnSt) : Lane → OwnLane
  | .a => o.a
  | .b => o.b

/-- Lane l's gate states of the safety outputs: those of functions without a cutting that are hosted here, and those applied as
an owner (R36, R302). -/
def safetyImage (s : State) (c : Image) (l : Lane) : BitVec 96 :=
  let mine := s.fns.flatMap (fun f => if (cutOf s f.fid).isSome || !holds s f then [] else
    f.gates.flatMap (fun x => if (match l with
      | .a => x.2.1
      | .b => x.2.2) then locChans c (fnRecOf c f) x.1 else []))
  let owned := s.cuts.owns.flatMap (fun o => (o.lane l).on)
  mask96 (fun ch => mine.contains ch || owned.contains ch)

/-- Bank b. -/
def bankAt (s : State) (b : Nat) : BankSt := s.fld.banks.getD b BankSt.reset

/-- The channels of the banks whose switches have not been tested: their outputs are unusable (R27). -/
def untestedMask (s : State) : BitVec 96 := mask96 (fun ch => (bankAt s (ch / 16)).st == .untested)

/-- The states of the standard outputs: the host's in RUN, SAFE_STD otherwise; one that is latched off stays off until CLEAR_STD (R27, R130,
R180, R194, R197, R338; DEDUCED, log 154). -/
def standardImage (s : State) (c : Image) : BitVec 96 :=
  (if s.lan.inRun && s.lan.modFault.isNone then s.host.std &&& stdMask c else safeStdMask c)
    &&& ~~~s.host.stdLatch &&& ~~~untestedMask s

/-- The complete image that lane l's link carries (R200). -/
def outImage (s : State) (l : Lane) : BitVec 96 := match s.cfg with
  | none => 0
  | some c => (if s.lan.inRun then safetyImage s c l else 0) ||| standardImage s c

/-- Both lanes release their images into their links. -/
def releaseImages (s : State) : State :=
  { s with fld := { s.fld with
      linkA := { s.fld.linkA with image := outImage s .a }, linkB := { s.fld.linkB with image := outImage s .b } } }

/-- Both lanes send all-off in their next packets (R124, R202). -/
def sendAllOff (s : State) : State :=
  { s with
    lan := { s.lan with allOff := true },
    fld := { s.fld with linkA := { s.fld.linkA with allOff := true }, linkB := { s.fld.linkB with allOff := true } } }

/-- A context's status replaced in both lanes' words; FALLOW marks it in fallow (R129, R141). -/
def setStatus (f : FnSt) (v : Val) : FnSt :=
  let w := if stState v == 2 then mkWord v (qValid ||| qFallow) else validWord v
  { f with status := v, memA := f.memA.set 0 w, memB := f.memB.set 0 (~~~w) }

/-- The committed words of a function in its safe state, as others read them (R127, R236): fault values on every output, the start-up
values elsewhere, in lane A form. -/
def faultedWords (c : Image) (f : FnSt) (ctx0 ctx1 : Val) : List W72 :=
  let r := fnRecOf c f
  let g := imageGraph c
  let ty := graphTypes g
  [validWord ctx0, validWord ctx1] ++ r.blocks.flatMap (fun b =>
    let t := blockType g ty f.idx b
    let st := (startState b).map validWord
    let st := match stateOutput b.type with
      | some o => st.set 0 (faultWord (faultValue b t o))
      | none => if b.type == 0x50 then st.map (fun _ => faultWord 0) else st
    st ++ (committedOuts b).map (fun o => faultWord (faultValue b t o)))

/-- The causes after which a function is LOCKED (R131). -/
def locksFn (cause : Nat) : Bool := cause == 0x13 || cause == 0x14 || cause == 0x15 || cause == 0x16 || cause == 0x26

/-- The causes that count in MM_CNT (R129). -/
def countsMm (cause : Nat) : Bool := cause == 0x10 || cause == 0x11 || cause == 0x12

/-- Both halves of a release that follow from words in lane A form. -/
def release (f : FnSt) (n : Nat) (ws : List W72) : FnSt :=
  { f with hist := ⟨n, ws, laneWords .b ws⟩ :: f.hist }

/-- A function's diagnosis ends; without a function left in it the diagnosis is over (R135, R137). -/
def leaveDiag (s : State) (ctx : Nat) : State :=
  match s.lan.diag with
  | none => s
  | some (t, l) =>
    let rest := l.filter (fun x => x.1 != ctx)
    { s with lan := { s.lan with diag := if rest.isEmpty then none else some (t, rest) } }

/-- A context takes its safe state with the given cause at the C instant of frame n (R127 to R129, R145): fault values released, gates
open, start-up words for the next evaluation unless it becomes LOCKED, one demand record. A function that leaves FALLOW is LOCKED (R144). The
commits of frame n + 1 are discarded (R40). -/
def takeSafe (s : State) (c : Image) (n : Nat) (f : FnSt) (cause : Nat) : State :=
  let st := f.status
  if stState st == 3 then s
  else
    let mm := if countsMm cause then min 15 (stMm st + 1) else stMm st
    let third := countsMm cause && mm == 3
    let cause' := if third then 0x15 else cause
    let locked := locksFn cause' || stState st == 2
    let v := if locked then mkStatus 0 (stLane st) mm 3 else mkStatus 0 0 mm 0
    let m := ctxMode s.mode.applied s.mode.epoch.toNat
    let start := startWords (fnRecOf c f) v m
    let g := fun (x : FnSt) =>
      let y := release { x with status := v, gates := x.gates.map (fun p => (p.1, false, false)), drop := some (n + 1) } n (faultedWords c x v m)
      if locked then setStatus y v else { y with memA := start, memB := laneWords .b start }
    let s := leaveDiag (modFn s f.ctx g) f.ctx
    let s := demandRecord s cause' f.fid f.ctx n (b2n (stState st == 2) + 2 * b2n (stState st == 1) + 4 * b2n locked)
    if third then raise s 21 f.ctx f.fid 0x15 else s

/-- Insert a context in ascending number. -/
def insertCtx (f : FnSt) : List FnSt → List FnSt
  | [] => [f]
  | x :: r => if f.ctx < x.ctx then f :: x :: r else x :: insertCtx f r

/-- Contexts in ascending number (R145). -/
def byCtx (l : List FnSt) : List FnSt := l.foldl (fun acc f => insertCtx f acc) []

/-- Every function here takes its safe state for a module-wide cause (R130). -/
def allSafe (s : State) (c : Image) (n cause : Nat) (except_ : FnSt → Bool) : State :=
  (byCtx (s.fns.filter (fun f => holds s f && !except_ f))).foldl (fun t f => takeSafe t c n f cause) s

/-- The Riddle stops comparing: queues, verdicts, decoys and what is on the way to the halves are gone (R130, R139). -/
def stopRiddle (r : RdlSt) : RdlSt := { r with active := false, q0 := [], q1 := [], verds := [], decoyOpen := [], way0 := [], way1 := [] }

/-- The module leaves RUN for HOLD with the given FSTATE (R32, R130, R412): frames in flight release nothing, and its spades are given up. -/
def enterHold (s : State) (fstate : BitVec 2) : State :=
  let lan := { s.lan with
    inRun := false, fstate := fstate, startAt := none, lates := [], pendFault := none, diag := none,
    evalA := { s.lan.evalA with todo := [], waiting := false }, evalB := { s.lan.evalB with todo := [], waiting := false } }
  let rdl := stopRiddle s.rdl
  let fns := s.fns.map (fun f => { f with gates := f.gates.map (fun p => (p.1, false, false)) })
  let cuts := { s.cuts with cuts := s.cuts.cuts.map (fun x => { x with holder := false, takeover := false }) }
  let s := { s with lan := lan, rdl := rdl, fns := fns, cuts := cuts, sys := { s.sys with pwr := 1 } }
  releaseImages (raise s 253 1 0 0)

/-- Codes after which START needs a module reset (R148). -/
def resetNeeded (cause : Nat) : Bool := cause == 0x22 || cause == 0x23 || cause == 0x24 || cause == 0x26 || cause == 0x27

/-- What a module-wide fault leaves for START (R148). -/
def noteFault (s : State) (cause : Nat) : State :=
  { s with lan := { s.lan with needReset := s.lan.needReset || resetNeeded cause, blFault := s.lan.blFault || cause == 0x25,
                               modFault := if cause == 0x30 then s.lan.modFault else some cause } }

/-- A module-wide fault in HOLD, with no function to stop: FSTATE 0b11, and a START that waits for its frame does not enter RUN (R130,
R148). -/
def faultInHold (s : State) : State :=
  { s with lan := { s.lan with startAt := none, fstate := if s.lan.timerOn || s.sys.pwr == 1 then 3 else s.lan.fstate } }

/-- A module-wide fault without fallow acts in frame n: every function stops and the module goes to HOLD, after HOLD_ORDERED alone with FSTATE
0b01 (R130). -/
def moduleFault (s : State) (n cause : Nat) : State :=
  let s := noteFault s cause
  let fst : BitVec 2 := if cause == 0x30 && s.lan.modFault.isNone then 1 else 3
  if s.lan.inRun then
    enterHold (match s.cfg with
      | some c => allSafe s c n cause (fun _ => false)
      | none => s) fst
  else if cause == 0x30 then s
  else faultInHold s

/-- A module-wide fault that acts at once, with its event (R124, R130, R131). -/
def faultAtOnce (s : State) (src cause : Nat) : State :=
  moduleFault (sendAllOff (raise s src 0xFFFFFFFF 0 cause)) s.lan.frame.toNat cause

/-- A function evaluated here is in FALLOW (R129, R140). -/
def inFallowHere (s : State) (f : FnSt) : Bool := holds s f && stState f.status == 2

/-- A context enters FALLOW under the lane that is not marked (R139, R143). -/
def enterFallow (s : State) (c : Image) (f : FnSt) : State :=
  let v := mkStatus ((fnRecOf c f).tfal * 1000000) (laneMark s) (stMm f.status) 2
  raise (modFn s f.ctx (fun x => setStatus x v)) 27 f.ctx f.fid 0x26

/-- One lane is marked faulty: the chosen functions enter FALLOW, every other one is LOCKED, and the Riddle stops comparing (R139). -/
def markLane (s : State) (l : Lane) (n : Nat) (keep : FnSt → Bool) : State :=
  let lan := match l with
    | .a => { s.lan with markA := true, memErr := none }
    | .b => { s.lan with markB := true, memErr := none }
  let s := raise { s with lan := lan } 25 0xFFFFFFFF 0 0x26
  let s := noteFault s 0x26
  if !s.lan.inRun then faultInHold s
  else
    let s := { s with rdl := stopRiddle s.rdl, lan := { s.lan with diag := none } }
    match s.cfg with
    | none => enterHold s 3
    | some c =>
      let stay := fun f => keep f && stState f.status != 3
      let s1 := allSafe s c n 0x26 stay
      let s2 := (s.fns.filter (fun f => holds s f && stay f)).foldl (fun t f => enterFallow t c f) s1
      if s2.fns.any (inFallowHere s2) then s2 else enterHold s2 3

/-- A fault of both lanes, at once (R131). -/
def bothLanes (s : State) : State := faultAtOnce s 25 0x27

/-- Both lanes are marked faulty (R131, R138, R139). -/
def markBoth (s : State) : State :=
  let t := bothLanes { s with lan := { s.lan with memErr := none } }
  { t with lan := { t.lan with markA := true, markB := true } }

/-- No function is left in FALLOW after a lane fault: the module enters HOLD (R130). -/
def holdIfDone (s : State) : State :=
  if s.lan.inRun && s.lan.modFault.isSome && !s.fns.any (inFallowHere s) then enterHold s 3 else s

/-- FALLOW_OK of a context's function. -/
def fallowOk (c : Image) (f : FnSt) : Bool := nbit (fnRecOf c f).flags 0

/-- The frame of the latest C instant. -/
def lastCommitted (s : State) : Nat := match s.lan.open_ with
  | n :: _ => n - 1
  | [] => s.lan.frame.toNat

/-- LANE_MEMORY_ERROR: acts at the next C instant in RUN, at once outside it or in a halt (R131, R139). -/
def laneMemoryErrorEffect (l : Lane) (s : State) : State :=
  if marked s l then s
  else if marked s l.other || s.lan.memErr == some l.other then markBoth s
  else if s.lan.inRun && !s.lan.halted then { s with lan := { s.lan with memErr := some l } }
  else markLane s l (lastCommitted s) (fun _ => false)

/-- A lane's replay signature (R137): the evaluation of the frozen entry once more, with what a fault of the lane turns over in its words. -/
def replaySig (s : State) (c : Image) (l : Lane) (f : FnSt) (flips : List WordFlip) (e : LaneReplay) : W72 :=
  signature l f.ctx (flipWords flips f.ctx (laneWords l (evalFn s c l f (laneWords l e.before) (laneIn l e.ins))))

/-- Both lanes' replay of a function: the replay signatures, and whether each lane's differs from its signature of the frame. A lane
without the frame's entry has no replay to finish. -/
def replayOf (s : State) (c : Image) (f : FnSt) (frame : Nat) (r : ReplayObs) : Option (W72 × W72 × Bool × Bool) :=
  match f.replay.find? (fun x => x.frame == frame) with
  | some ⟨_, some a, some b⟩ =>
    let x := replaySig s c .a f r.flipsA a
    let y := replaySig s c .b f r.flipsB b
    if r.finished then some (x, y, x != a.sig, y != b.sig) else none
  | _ => none

/-- The replay judged for one function in DIAG (R138): the lane it marks, if it marks one. -/
def judgeReplay (f : FnSt) (bistA bistB : Bool) (r : Option (W72 × W72 × Bool × Bool)) : Option Lane :=
  match bistA, bistB, r with
  | true, true, some (x, y, chA, chB) =>
    if x ^^^ y != f.k then none else if chA && !chB then some .a else if chB && !chA then some .b else none
  | true, false, some (_, _, chA, _) => if chA then none else some .b
  | true, false, none => some .b
  | false, true, some (_, _, _, chB) => if chB then none else some .a
  | false, true, none => some .a
  | _, _, _ => none

/-- What the BISTs and the replay of one function in DIAG mark: its mismatching frame is replayed from what `reps` tells (R137, R138). -/
def judgeDiag (s : State) (c : Image) (list : List (Nat × Nat)) (bistA bistB : Bool) (reps : List ReplayObs) (f : FnSt) : Option Lane :=
  judgeReplay f bistA bistB ((reps.find? (fun r => r.ctx == f.ctx)).bind
    (replayOf s c f (((list.find? (fun x => x.1 == f.ctx)).map (fun x => x.2)).getD 0)))

/-- The diagnosis judged at the C instant of frame n, for every function in DIAG (R137, R138). -/
def decideDiag (bistA bistB : Bool) (reps : List ReplayObs) (c : Image) (n : Nat) (list : List (Nat × Nat)) (s : State) : State :=
  if !bistA && !bistB then markBoth s
  else
    let isDiag := fun (f : FnSt) => stState f.status == 1
    let inDiag := s.fns.filter (fun f => holds s f && isDiag f)
    let ends := inDiag.map (judgeDiag s c list bistA bistB reps)
    if inDiag.isEmpty then { s with lan := { s.lan with diag := none } }
    else if ends.all (fun x => x == some Lane.a) then markLane s .a n isDiag
    else if ends.all (fun x => x == some Lane.b) then markLane s .b n isDiag
    else (byCtx inDiag).foldl (fun t f => takeSafe (raise t 26 f.ctx f.fid 0x12) c n f 0x12) s

/-- With a lane marked already, a failed BIST of the healthy lane is a fault of both (R131). -/
def healthyBist (bistA bistB : Bool) (s : State) : State :=
  if s.lan.inRun && ((s.lan.markA && !bistB) || (s.lan.markB && !bistA)) then markBoth s else s

/-- FRAME_OVERRUN: at E(n) of the oldest open frame a lane has not finished; it acts at C(n) (R42). A SKEW_FAULT that already waits for the
same instant stays the cause; an ordered HOLD does not. -/
def frameOverrunEffect (_l : Lane) (s : State) : State :=
  if s.lan.inRun && !s.lan.halted && !s.lan.overrun then
    let k := if s.lan.pendFault == some 0x21 then 0x21 else 0x20
    raise { s with lan := { s.lan with overrun := true, pendFault := some k } } 16 0xFFFFFFFF 0 0x20
  else s

/-- A clock fault acts at once (R20). -/
def clockFails (k : ClockCause) (s : State) : State :=
  let dev := fun (x : Int) => BitVec.ofInt 32 x
  let s := match k with
    | .deviation .a ppm => { s with rdl := { s.rdl with devA := dev ppm } }
    | .deviation .b ppm => { s with rdl := { s.rdl with devB := dev ppm } }
    | _ => s
  let s := { s with lan := { s.lan with clkFault := true } }
  let clk := match k with
    | .pllA => clearBit s.sys.clk 0
    | .pllB => clearBit s.sys.clk 1
    | .crystal => clearBit s.sys.clk 2
    | .deviation _ _ => s.sys.clk
  faultAtOnce { s with sys := { s.sys with clk := setBit clk 7 } } 20 0x22

/-- Deviations and PLL or crystal failures are clock faults (R20, R125). While the lanes are halted no deviation is measured (R404). -/
def clockFaultEffect (k : ClockCause) (s : State) : State := match k with
  | .deviation _ _ => if s.lan.halted then s else clockFails k s
  | _ => clockFails k s

/-- A deviation from T_F in parts per million, rounded down (R126). -/
def ppmOf (x tf : Int) : Int := if tf == 0 then 0 else (x - tf) * 1000000 / tf

/-- A count is more than 2.0 % of T_F away from T_F (R125). -/
def offClock (x tf : Int) : Bool := tf.natAbs < 50 * (x - tf).natAbs

/-- B_MARK: lane A has measured the interval between B marks on its clock; lane B reports its count at the start token. A deviation
above 2.0 % of T_F is a clock fault (R125). -/
def bMarkEffect (interval countB : Nat) (s : State) : State :=
  let tf : Int := tfTicks s
  let a := ppmOf interval tf
  let b := ppmOf countB tf
  if s.lan.halted then s
  else
    let s := { s with rdl := { s.rdl with devA := BitVec.ofInt 32 a, devB := BitVec.ofInt 32 b } }
    if offClock interval tf then clockFaultEffect (.deviation .a a) s
    else if offClock countB tf then clockFaultEffect (.deviation .b b) s
    else s

/-- LANE_MEMORY_ERROR. -/
def execLaneMemoryError (l : Lane) (s : State) : Host.Outcome State Fault Refusal := finish s (laneMemoryErrorEffect l s)
/-- FRAME_OVERRUN. -/
def execFrameOverrun (l : Lane) (s : State) : Host.Outcome State Fault Refusal := finish s (frameOverrunEffect l s)
/-- CLOCK_FAULT. -/
def execClockFault (k : ClockCause) (s : State) : Host.Outcome State Fault Refusal := finish s (clockFaultEffect k s)
/-- B_MARK. -/
def execBMark (interval countB : Nat) (s : State) : Host.Outcome State Fault Refusal := finish s (bMarkEffect interval countB s)

end Sys2Proof.Machine
end

