-- ==== Sys2Proof/Machine/Riddle.lean ====
section
/-! DEFINITION. The Riddle (R111 to R124): the K tables, the signature delay queues, the verdicts of the two halves and what a verdict pair
decides, and the injections of start-up. -/
namespace Sys2Proof.Machine

/-- Even parity per byte of a K table entry (R112). -/
def kParity (k : W72) : BitVec 9 :=
  BitVec.ofNat 9 ((leBytes 9 k.toNat).zipIdx.foldl (fun n p => n + (if parity8 p.1.toNat then 2 ^ p.2 else 0)) 0)

/-- A K value in the form in which a half keeps it: RH0 plain, RH1 complemented (R112). -/
def halfForm (h : Half) (k : W72) : W72 := match h with
  | .rh0 => k
  | .rh1 => ~~~k

/-- n values of K(w) in a row, from the first on (R111). -/
def kRun : Nat → W72 → List W72
  | 0, _ => []
  | n + 1, k => k :: kRun n (misrL k ^^^ ones72)

/-- A half's table as its own hardware computes it, w from 0 to 4,096 (R112). -/
def kTable (h : Half) : List KEntry := (kRun 4097 ones72).map (fun k => ⟨halfForm h k, kParity (halfForm h k)⟩)

/-- The K table of a half. -/
def kTabOf (s : State) (h : Half) : List KEntry := match h with
  | .rh0 => s.rdl.kTab0
  | .rh1 => s.rdl.kTab1

/-- A half's table replaced. -/
def setKTab (s : State) (h : Half) (t : List KEntry) : State := match h with
  | .rh0 => { s with rdl := { s.rdl with kTab0 := t } }
  | .rh1 => { s with rdl := { s.rdl with kTab1 := t } }

/-- Bits of entry w of a half's table turn over. -/
def spoilK (s : State) (h : Half) (w : Nat) (bits : W72) : State :=
  setKTab s h (modAt (kTabOf s h) w (fun e => { e with k := e.k ^^^ bits }))

/-- Both halves compute their tables (R112). -/
def fillKTabs (s : State) : State := setKTab (setKTab s .rh0 (kTable .rh0)) .rh1 (kTable .rh1)

/-- Entry w of a half, if its parity is right. -/
def kAt (s : State) (h : Half) (w : Nat) : Option W72 := ((kTabOf s h)[w]?).bind (fun e => if e.par == kParity e.k then some e.k else none)

/-- A half finds in its table the K that a plan stores for w words (R112). -/
def kAgrees (s : State) (h : Half) (w : Nat) (k : W72) : Bool := kAt s h w == some (halfForm h k)

/-- Even parity of SIG and TAG, one bit per byte (R117). -/
def entryParity (sg : W72) (tag : BitVec 16) : BitVec 11 :=
  let bytes := leBytes 9 sg.toNat ++ leBytes 2 tag.toNat
  BitVec.ofNat 11 ((bytes.zipIdx).foldl (fun n p => n + (if parity8 p.1.toNat then 2 ^ p.2 else 0)) 0)

/-- An entry's parity is correct. -/
def QEntry.good (e : QEntry) : Bool := e.par == entryParity e.sig e.tag

/-- The queue of a half. -/
def queueOf (s : State) (h : Half) : List QEntry := match h with
  | .rh0 => s.rdl.q0
  | .rh1 => s.rdl.q1

/-- A half's queue replaced, with the peak occupancy (R126). -/
def setQueue (s : State) (h : Half) (q : List QEntry) : State :=
  let rdl := match h with
    | .rh0 => { s.rdl with q0 := q }
    | .rh1 => { s.rdl with q1 := q }
  { s with rdl := { rdl with qPeak := bvMax rdl.qPeak (BitVec.ofNat 7 q.length) } }

/-- Clock of a half: RH0 on lane A's, RH1 on lane B's (R113). -/
def halfClock (s : State) (h : Half) : BitVec 64 := match h with
  | .rh0 => s.tb
  | .rh1 => s.clkB

/-- DECOY, FP and CTX of two tags agree (R119). -/
def sameTag (x y : BitVec 16) : Bool := tagDecoy x == tagDecoy y && tagFp x == tagFp y && tagCtx x == tagCtx y

/-- A comparator fault with its cause bit of RDL_STATUS: 3 INJ_FAIL, 4 ENTRY_REPEAT, 5 DECOY_FAIL, 6 HALF_DISAGREE (R124). -/
def comparatorFault (s : State) (bit : Nat) : State :=
  let r := { s.rdl with cmpFault := true }
  let r := match bit with
    | 3 => { r with injFail := true }
    | 4 => { r with entryRepeat := true }
    | 5 => { r with decoyFail := true }
    | _ => { r with halfDis := true }
  let t := faultAtOnce { s with rdl := r } 22 0x23
  { t with lan := { t.lan with fstate := 3 } }

/-- An EE verdict or a discarded entry of a half in frame n (R116, R119): true of the answer when it is the second within 1,024 frames. -/
def noteEntry (s : State) (h : Half) (tag : BitVec 16) (n : Nat) : State × Bool :=
  let fid := ((s.fns.find? (fun f => f.ctx == tagCtx tag)).map (fun f => f.fid)).getD 0
  let last := match h with
    | .rh0 => s.rdl.ee0
    | .rh1 => s.rdl.ee1
  let again := (last.map (fun m => decide (n ≤ m + 1024))).getD false
  let r := match h with
    | .rh0 => { s.rdl with ee0 := some n }
    | .rh1 => { s.rdl with ee1 := some n }
  let s := { s with rdl := { r with entry := true, eeCnt := satAdd r.eeCnt 1 } }
  (if tagDecoy tag then raise s 23 0xFFFFFFFF 0 0x11 else raise s 23 (tagCtx tag) fid 0x11, again)

/-- The open frame that a frame parity names (R118). -/
def frameOfParity (s : State) (fp : Bool) : Option Nat := s.lan.open_.find? (fun n => (n % 2 == 1) == fp)

/-- The verdict record of a checkpoint. -/
def verdOf (s : State) (decoy fp : Bool) (ctx : Nat) : Option VerdRec :=
  s.rdl.verds.find? (fun v => v.decoy == decoy && v.fp == fp && v.ctx == ctx)

/-- A half's verdict put into the record. -/
def putVerd (s : State) (h : Half) (tag : BitVec 16) (v : Verdict) (d : W72) : State :=
  let old := (verdOf s (tagDecoy tag) (tagFp tag) (tagCtx tag)).getD ⟨tagDecoy tag, tagFp tag, tagCtx tag, none, none, 0, 0⟩
  let new := match h with
    | .rh0 => { old with v0 := some v, d0 := d }
    | .rh1 => { old with v1 := some v, d1 := d }
  let rest := s.rdl.verds.filter (fun x => !(x.decoy == old.decoy && x.fp == old.fp && x.ctx == old.ctx))
  { s with rdl := { s.rdl with verds := new :: rest } }

/-- The verdict pair has not let the frame's commits go: it is complete and not EQ, EQ. -/
def VerdRec.failed (v : VerdRec) : Bool := match v.v0, v.v1 with
  | some x, some y => !(x == .eq && y == .eq)
  | _, _ => false

/-- The pair is EQ, EQ (R115). -/
def VerdRec.passed (v : VerdRec) : Bool := v.v0 == some .eq && v.v1 == some .eq

/-- RIDDLE_MISMATCH of a context in frame n (R116, R126). The last-mismatch registers show it at C(n) (R433). -/
def noteMismatch (s : State) (tag : BitVec 16) (n : Nat) (ee : Bool) (d : W72) : State :=
  let held : MmHeld := ⟨n, BitVec.ofNat 32 (2 ^ 31 + (if ee then 2 else 1) * 2 ^ 16 + tag.toNat), d⟩
  let r := { s.rdl with mmCnt := satAdd s.rdl.mmCnt 1, mismatch := true, mmHeld := held :: s.rdl.mmHeld.filter (fun x => x.frame != n) }
  let fid := ((s.fns.find? (fun f => f.ctx == tagCtx tag)).map (fun f => f.fid)).getD 0
  raise { s with rdl := r } 21 (tagCtx tag) fid 0x11

/-- A decoy verdict of one half (R123): EQ or a wrong vector fails at once; the second right one counts the decoy as passed. -/
def judgeDecoy (s : State) (h : Half) (tag : BitVec 16) (n : Nat) (v : Verdict) (delta : W72) : State :=
  let d := ((s.rdl.decoyOpen.find? (fun x => x.1 == n)).map (fun x => x.2)).getD 0
  match v with
  | .eq => comparatorFault s 5
  | .ee => s
  | .ne =>
    if delta != decoyDiff d then comparatorFault s 5
    else
      let other := (verdOf s true (tagFp tag) (tagCtx tag)).bind (fun r => match h with
        | .rh0 => r.v1
        | .rh1 => r.v0)
      if other == some .ne then { s with rdl := { s.rdl with decoyCnt := satAdd s.rdl.decoyCnt 1 } } else s

/-- What the pair of a function's checkpoint decides, once both halves have answered (R116). -/
def judgePair (s : State) (tag : BitVec 16) (n : Nat) : State :=
  match verdOf s false (tagFp tag) (tagCtx tag) with
  | none => s
  | some r => match r.v0, r.v1 with
    | some .eq, some .eq => s
    | some .ne, some .ne => noteMismatch s tag n false r.d0
    | some .ee, some _ => noteMismatch s tag n true r.d0
    | some _, some .ee => noteMismatch s tag n true r.d0
    | some _, some _ => comparatorFault s 6
    | _, _ => s

/-- A half gives its verdict on a checkpoint; a verdict that comes after COMMIT_LATE is discarded unread (R41, R114, R116). -/
def giveVerdict (s : State) (h : Half) (tag : BitVec 16) (n : Nat) (v : Verdict) (d delta : W72) : State :=
  let late := s.lan.lates.contains (n, tagCtx tag) && !tagDecoy tag
  let p := if v == .ee then noteEntry s h tag n else (s, false)
  let s := p.1
  if p.2 then comparatorFault s 4
  else if late then s
  else
    let verdTimes := (n, s.tb) :: s.lan.lastVerd.filter (fun x => x.1 != n)
    let s := { s with lan := { s.lan with lastVerd := verdTimes } }
    let s := putVerd s h tag v d
    if tagDecoy tag then judgeDecoy s h tag n v delta else judgePair s tag n

/-- SKEW_FAULT (R50, R131): it acts at the next C instant. An overrun that already waits for that instant stays the cause. -/
def skewFault (s : State) : State :=
  let k := if s.lan.pendFault == some 0x20 then 0x20 else 0x21
  raise { s with lan := { s.lan with skewFault := true, pendFault := some k } } 19 0xFFFFFFFF 0 0x21

/-- One interval of frame n's lane skew (R49): the lag of lane B's frame start, or that between the two signatures of a checkpoint. The skew
is the larger, and it is a SKEW_FAULT of the frame when it first lies above S_max (R50). While a lane is marked none is measured (R139). -/
def noteSkew (s : State) (n lag : Nat) (laterB : Bool) : State :=
  if s.lan.markA || s.lan.markB then s
  else
    let old := (s.lan.skews.find? (fun x => x.1 == n)).getD (n, 0, false)
    let new := if old.2.1 < lag then (n, lag, laterB) else old
    let s := { s with lan := { s.lan with skews := new :: s.lan.skews.filter (fun x => x.1 != n) } }
    if s.lan.smax.toNat < lag && old.2.1 ≤ s.lan.smax.toNat then skewFault s else s

/-- The instant of the latest checkpoint of a frame, as RH0 sees it (R42, R52). -/
def noteCheckpoint (s : State) (h : Half) (n : Nat) : State := match h with
  | .rh0 => { s with lan := { s.lan with lastCp := (n, s.tb) :: s.lan.lastCp.filter (fun x => x.1 != n) } }
  | .rh1 => s

/-- The number of words w of a checkpoint: its function's NWORD, or a decoy's four (R111, R121). -/
def checkpointW (s : State) (tag : BitVec 16) : Option Nat :=
  if tagDecoy tag then some 4
  else match s.fns.find? (fun f => f.ctx == tagCtx tag), s.cfg with
    | some f, some c => some (fnRecOf c f).nword
    | _, _ => none

/-- The verdict of a half on a matched pair with K as its table holds it: EQ or NE with its own difference vector, and Δ (R114). -/
def compareSigs (h : Half) (x y k : W72) : Verdict × W72 × W72 :=
  let d := x ^^^ y ^^^ k
  match h with
  | .rh0 => (if d == 0 then .eq else .ne, d, d)
  | .rh1 => (if d == ones72 then .eq else .ne, d, ones72 ^^^ d)

/-- The lane waits at this checkpoint: a queue is full, and the signature has not been taken in by the other half already (R120). -/
def mustWait (s : State) (h : Half) (l : Lane) (tag : BitVec 16) : Bool :=
  let other := queueOf s h.other
  let taken := other.any (fun e => sameTag e.tag tag && e.tag.getLsbD 11 == (l == .b))
  decide (64 ≤ (queueOf s h).length) || (decide (64 ≤ other.length) && !taken)

/-- A signature arrives at half h (R117 to R120): it is stored as the first of its checkpoint, or matched. True of the answer: the lane
waits, and the signature has not been taken in. -/
def takeSig (h : Half) (m : SigMsg) (s : State) : State × Bool :=
  let l := m.lane
  let q := queueOf s h
  match q.filter (fun e => sameTag e.tag m.tag) with
  | [] =>
    if mustWait s h l m.tag then
      (setLaneEval { s with rdl := { s.rdl with waitCnt := satAdd s.rdl.waitCnt 1 } } l { laneEval s l with waiting := true }, true)
    else
      let t := if l == .b then setBit m.tag 11 else clearBit m.tag 11
      let s := setQueue s h (q ++ [⟨m.sig, t, entryParity m.sig t, halfClock s h⟩])
      (match frameOfParity s (tagFp m.tag) with
        | some n => noteCheckpoint s h n
        | none => s, false)
  | e :: more =>
    let s := setQueue s h (q.filter (fun x => !sameTag x.tag m.tag))
    let n := (frameOfParity s (tagFp m.tag)).getD s.lan.frame.toNat
    let s := noteCheckpoint s h n
    let firstB := e.tag.getLsbD 11
    let both := firstB != (l == .b)
    let s := if both then noteSkew s n ((halfClock s h) - e.stamp).toNat (!firstB) else s
    (match more.isEmpty && e.good && both, (checkpointW s m.tag).bind (kAt s h) with
      | true, some k =>
        let r := compareSigs h e.sig m.sig k
        giveVerdict s h e.tag n r.1 r.2.1 r.2.2
      | _, _ => giveVerdict s h e.tag n .ee 0 0, false)

/-- Signatures on the way to a half. -/
def wayOf (s : State) (h : Half) : List SigMsg := match h with
  | .rh0 => s.rdl.way0
  | .rh1 => s.rdl.way1

/-- Those on the way to a half replaced. -/
def setWay (s : State) (h : Half) (w : List SigMsg) : State := match h with
  | .rh0 => { s with rdl := { s.rdl with way0 := w } }
  | .rh1 => { s with rdl := { s.rdl with way1 := w } }

/-- The oldest signature of a lane among those on the way, and the others. -/
def firstOf (l : Lane) : List SigMsg → Option (SigMsg × List SigMsg)
  | [] => none
  | m :: r => if m.lane == l then some (m, r) else (firstOf l r).map (fun x => (x.1, m :: x.2))

/-- SIGNATURE_ARRIVAL: the oldest signature that lane l has on the way to half h reaches it, with what a fault does to it on the way (R113,
R119). `kErr` is what a fault turns over in the half's K table entry for the checkpoint (R112). A lane that waits delivers nothing. -/
def signatureArrivalEffect (h : Half) (l : Lane) (fate : SigFate) (err : SigErr) (kErr : W72) (s : State) : State :=
  if !s.rdl.active || (laneEval s l).waiting then s
  else match firstOf l (wayOf s h) with
    | none => s
    | some (m, rest) =>
      let s := match checkpointW s m.tag with
        | some w => spoilK s h w kErr
        | none => s
      if fate == .lost then setWay s h rest
      else
        let r := takeSig h { m with tag := m.tag ^^^ err.tag, sig := m.sig ^^^ err.sig } (setWay s h (if fate == .twice then wayOf s h else rest))
        if r.2 then setWay r.1 h (wayOf s h) else r.1

/-- COMMIT_LATE: at C(n) − 4 µs of the oldest open frame a half lacks a verdict of the context; a decoy without both verdicts fails
then too (R41, R115, R123). -/
def commitLateEffect (_h : Half) (ctx : Nat) (s : State) : State :=
  match s.lan.open_ with
  | [] => s
  | n :: _ =>
    if !s.lan.inRun || !s.rdl.active || s.lan.halted then s
    else
      let missing := fun (decoy : Bool) (c : Nat) =>
        match (verdOf s decoy (n % 2 == 1) c) with
        | some v => v.v0.isNone || v.v1.isNone
        | none => true
      let decoyMissing := s.rdl.decoyOpen.any (fun x => x.1 == n && missing true (x.2 % 1024))
      match s.fns.find? (fun f => f.ctx == ctx && runsIn s f n && stState f.status != 3) with
      | some f =>
        let s := if missing false ctx && !s.lan.lates.contains (n, ctx) then
            raise { s with lan := { s.lan with lates := s.lan.lates ++ [(n, ctx)], late := true, lateCnt := satAdd s.lan.lateCnt 1 } }
              17 ctx f.fid 0x10
          else s
        if decoyMissing then comparatorFault s 5 else s
      | none => if decoyMissing then comparatorFault s 5 else s

/-- Entries of frame n's parity and entries with a parity error are discarded at C(n), each as an EE (R119). -/
def discardQueue (s : State) (h : Half) (n : Nat) : State × Bool :=
  let q := queueOf s h
  let bad := fun (e : QEntry) => (tagFp e.tag == (n % 2 == 1)) || !e.good
  let s := setQueue s h (q.filter (fun e => !bad e))
  (q.filter bad).foldl (fun (p : State × Bool) e => let r := noteEntry p.1 h e.tag n; (r.1, p.2 || r.2)) (s, false)

/-- Both queues and the verdicts of frame n at C(n), with the decoy that has not passed (R119, R123). -/
def closeVerdicts (s : State) (n : Nat) : State :=
  if !s.rdl.active then s
  else
    let decoys := s.rdl.decoyOpen.filter (fun x => x.1 == n)
    let fp := n % 2 == 1
    let passed := fun (x : Nat × Nat) => match verdOf s true fp (x.2 % 1024) with
      | some v => v.v0 == some .ne && v.v1 == some .ne
      | none => false
    let p0 := discardQueue s .rh0 n
    let p1 := discardQueue p0.1 .rh1 n
    let s := p1.1
    let s := { s with rdl := { s.rdl with
      verds := s.rdl.verds.filter (fun v => v.fp != fp),
      decoyOpen := s.rdl.decoyOpen.filter (fun x => x.1 != n) } }
    if p0.2 || p1.2 then comparatorFault s 4
    else if !decoys.all passed then comparatorFault s 5 else s

/-- The occupancy of the fuller queue at C(n) (R126). -/
def noteDepth (s : State) : State := { s with rdl := { s.rdl with qDepth := BitVec.ofNat 7 (max s.rdl.q0.length s.rdl.q1.length) } }

/-- The difference that an injection puts on its path: one bit of a signature, or bit j of every byte of K (R121). -/
def injDiff (path index : Nat) : W72 :=
  BitVec.ofNat 72 (if path < 2 then 2 ^ index else (List.range 9).foldl (fun n b => n + 2 ^ (index + 8 * b)) 0)

/-- The 152 injections in their order: path 0 A, 1 B, 2 K (R121). -/
def injections : List (Nat × Nat) :=
  (List.range 72).map (fun i => (0, i)) ++ (List.range 72).map (fun i => (1, i)) ++ (List.range 8).map (fun i => (2, i))

/-- The difference vector that a half shows in an injection on the reference pair (R114, R121). -/
def injVector (k : W72) (errs : List InjErr) (h : Half) (path index : Nat) : W72 :=
  let on := fun (p : Nat) => if path == p then injDiff path index else 0
  let err := (errs.filter (fun e => e.half == h && e.path == path && e.index == index)).foldl (fun x e => x ^^^ e.bits) 0
  (compareSigs h (refSig .a ^^^ on 0) (refSig .b ^^^ on 1) (k ^^^ on 2)).2.1 ^^^ err

/-- An injection passes in a half: NE, with the difference vector of the injected difference alone (R121). -/
def injPasses (k : Option W72) (errs : List InjErr) (h : Half) (path index : Nat) : Bool := match k with
  | none => false
  | some k => injVector k errs h path index == halfForm h (injDiff path index)

/-- The first injection that fails, with its half; both halves run each injection at once (R121). -/
def injFailure (s : State) (errs : List InjErr) : Option (Half × Nat × Nat) :=
  (injections.flatMap (fun p => [(Half.rh0, p), (Half.rh1, p)])).find? (fun x => !injPasses (kAt s x.1 4) errs x.1 x.2.1 x.2.2)

/-- SIGNATURE_ARRIVAL. -/
def execSignatureArrival (h : Half) (l : Lane) (fate : SigFate) (err : SigErr) (kErr : W72) (s : State) : Host.Outcome State Fault Refusal :=
  finish s (signatureArrivalEffect h l fate err kErr s)
/-- COMMIT_LATE. -/
def execCommitLate (h : Half) (ctx : Nat) (s : State) : Host.Outcome State Fault Refusal := finish s (commitLateEffect h ctx s)

end Sys2Proof.Machine
end

