-- ==== Sys2Proof/Machine/Carry.lean ====
section
/-! DEFINITION. Carriage of KSL frames (R254, R257 to R262, R339, R340) and their bytes (R232 to R234). -/
namespace Sys2Proof.Machine

/-- The own node's address record (R262). -/
def ownAddr (s : State) : Option AddrRec := s.cfg.bind (fun c => c.addrs.find? (fun a => a.node == c.own))

/-- PMODE of the own node: 0 without a record (R259, R262). -/
def pmodeOf (s : State) : Nat := ((ownAddr s).map (fun a => a.pmode)).getD 0

/-- The port exists: P1's lands have no function on the SX972-48S (R2). -/
def hasPort (s : State) (p : Nat) : Bool := p == 0 || (p == 1 && s.sys.variant != 3)

/-- Speed code of a port: 0 down, 1 10, 2 100, 3 1000 Mbit/s (R269). -/
def portSpeed (s : State) (p : Nat) : Nat := (if p == 0 then s.net.speed0 else s.net.speed1).toNat

/-- The ports that carry KSL and PTP now: by PMODE, linked above 10 Mbit/s (R257, R259). -/
def kslPorts (s : State) : Nat :=
  let up := fun p => b2n (decide (2 ≤ portSpeed s p)) * 2 ^ p
  if pmodeOf s == 0 then up 0 else up 0 + up 1

/-- Does the port carry KSL and PTP now? -/
def carriesKsl (s : State) (p : Nat) : Bool := hasPort s p && nbit (kslPorts s) p

/-- The path record to a peer (R254). -/
def pathTo (s : State) (peer : Nat) : Option PathRec := s.cfg.bind (fun c => pathOf c c.own peer)

/-- The address record of a node (R262). -/
def addrOf (s : State) (node : Nat) : Option AddrRec := s.cfg.bind (fun c => c.addrs.find? (fun a => a.node == node))

/-- A frame joins an egress queue of a port, behind those that wait in it (R258). -/
def enqueue (s : State) (p q : Nat) (x : NetOut) : State :=
  let put := fun (l : List (List NetOut)) => modAt l q (fun w => w ++ [x])
  { s with net := if p == 0 then { s.net with egress0 := put s.net.egress0 } else { s.net with egress1 := put s.net.egress1 } }

/-- The oldest frame of the highest queue that holds one, and what is left (R258). -/
def takeHighest : List (List NetOut) → Option (NetOut × List (List NetOut))
  | [] => none
  | w :: higher => match takeHighest higher with
    | some (x, h) => some (x, w :: h)
    | none => match w with
      | [] => none
      | x :: r => some (x, r :: higher)

/-- The priority tag of every KSL and PTP frame: PCP 7, VID 0 (R258). -/
def topTag : Nat × Nat := (7, 0)

/-- A TUNTX entry (R339). -/
def tuntxEntry (s : State) (peer : Nat) (frame : Bytes) : Bytes :=
  leBytes 2 peer ++ zeros 6 ++ bytesOf s.tb 8 ++ frame ++ zeros 16

/-- A frame for the tunnel goes into TUNTX, or is dropped and counted (R340). -/
def sendTunnel (s : State) (peer : Nat) (frame : Bytes) : State :=
  if s.host.tunEn && ringOn s 4 && dmaOk s && ringFill s 4 < (ringAt s 4).size then
    notify (writeStatus (putEntry s 4 (tuntxEntry s peer frame)) 4) 186
  else raiseFirst { s with host := { s.host with tunDrop := satAdd s.host.tunDrop 1 } } 190 0 s.host.err.toNat 0 0

/-- The redundancy trailer of a frame with `size` bytes behind its addresses, trailer included: sequence number, LAN and size, suffix (R260;
PRESUMED, log 28: the layout of IEC 62439-3). -/
def prpTrailer (seq p size : Nat) : Bytes := beBytes 2 seq ++ beBytes 2 ((10 + p) * 4096 + size) ++ beBytes 2 0x88FB

/-- The headers of a KSL datagram to a peer (R261). -/
def udpHead (own peer : AddrRec) : UdpHead := ⟨own.ipv4, peer.ipv4, 46, true, 64, peer.udp, peer.udp, 0⟩

/-- A KSL frame goes to the egress queues of the ports that carry KSL, as the path record's carrier says; a doubly-attached node adds its
trailer to each copy (R258 to R261). -/
def sendPorts (s : State) (own peer : AddrRec) (carrier : Nat) (frame : Bytes) : State :=
  let udp := if carrier == 1 then some (udpHead own peer) else none
  let et := if carrier == 1 then 0x0800 else 0x88B5
  let prp := pmodeOf s == 2
  let size := 96 + 6 + (if carrier == 1 then 28 else 0)
  let t := (idxs 2 (carriesKsl s)).foldl (fun t p =>
    enqueue t p 7 (.ksl peer.mac own.mac topTag et udp frame (if prp then prpTrailer s.net.prpSeq.toNat p size else []))) s
  if prp then { t with net := { t.net with prpSeq := t.net.prpSeq + 1 } } else t

/-- A KSL frame leaves for its peer by the carrier of their path record (R261). One that a stalled crossing loses is discarded (R18). -/
def sendKsl (s : State) (peer : Nat) (frame : Bytes) : State := match pathTo s peer with
  | none => s
  | some p =>
    if s.net.stalls.contains (beAt frame 4 4) then { s with net := { s.net with stalls := s.net.stalls.erase (beAt frame 4 4) } }
    else if p.carrier == 2 then sendTunnel s peer frame
    else match ownAddr s, addrOf s peer with
      | some own, some a => sendPorts s own a p.carrier frame
      | _, _ => s

/-- The word as nine bytes (R233). -/
def wordBytes (w : W72) : Bytes := beBytes 8 (wval w).toNat ++ [wqual w]

/-- Words as a payload of 48 bytes (R233). -/
def payloadOf (ws : List W72) : Bytes := (ws.map wordBytes).flatten ++ zeros (48 - 9 * ws.length)

/-- The word at an offset of a payload. -/
def wordAt (b : Bytes) (off : Nat) : W72 := mkWord (BitVec.ofNat 64 (beAt b off 8)) (BitVec.ofNat 8 (byteAt b (off + 8)))

/-- Bytes 0x00 to 0x4F of a frame (R232). -/
def kslHead (f : KFrame) : Bytes :=
  [0x01, BitVec.ofNat 8 (f.type + 8 * b2n f.sync + 16 * b2n f.syncReq + 32 * b2n f.fallow), BitVec.ofNat 8 f.nw, BitVec.ofNat 8 f.echoIdx]
    ++ beBytes 4 f.connId ++ beBytes 4 f.seq ++ beBytes 6 f.ts ++ beBytes 2 f.modeEpoch.toNat ++ beBytes 4 f.leaseEpoch.toNat
    ++ beBytes 4 f.echoSeq.toNat ++ beBytes 2 f.echoHold ++ beBytes 2 (f.seq / 2 ^ 32) ++ f.payload

/-- SEED_A (R234). -/
def kslSeedA (key : BitVec 32) (id : Nat) : BitVec 32 := key ^^^ BitVec.ofNat 32 id
/-- SEED_B (R234). -/
def kslSeedB (key : BitVec 32) (id : Nat) : BitVec 32 := key.rotateLeft 16 ^^^ BitVec.ofNat 32 id ^^^ 0xFFFFFFFF#32

/-- Even parity of each byte of a stored key (R234). -/
def keyParity (k : BitVec 32) : BitVec 4 :=
  BitVec.ofNat 4 ((leBytes 4 k.toNat).zipIdx.foldl (fun n p => n + (if parity8 p.1.toNat then 2 ^ p.2 else 0)) 0)

/-- A key as lane l stores it: lane B complemented (R234). -/
def keptKey (l : Lane) (k : BitVec 32) : LaneKey :=
  let v := match l with
    | .a => k
    | .b => ~~~k
  ⟨v, keyParity v⟩

/-- The Hedge hands a connection key to both lanes (R234). -/
def bothKeys (k : BitVec 32) : ConnKey := ⟨keptKey .a k, keptKey .b k⟩

/-- The connection key that a lane works with, in plain form. -/
def ConnKey.of (k : ConnKey) : Lane → BitVec 32
  | .a => k.a.k
  | .b => ~~~k.b.k

/-- The 96 bytes of a frame: lane A's bytes and Check A, lane B's Check B over its own copy, and the padding (R235). -/
def kslBytes (key : ConnKey) (fa fb : KFrame) : Bytes :=
  let h := kslHead fa
  h ++ beBytes 4 (checkA (kslSeedA (key.of .a) fa.connId) h).toNat ++ beBytes 4 (checkB (kslSeedB (key.of .b) fb.connId) (kslHead fb)).toNat
    ++ zeros 8

/-- The fields of a received frame. -/
def parseKsl (b : Bytes) : KFrame :=
  let fl := byteAt b 1
  { type := fl % 8, sync := nbit fl 3, syncReq := nbit fl 4, fallow := nbit fl 5, nw := byteAt b 2, echoIdx := byteAt b 3,
    connId := beAt b 4 4, seq := beAt b 0x1E 2 * 2 ^ 32 + beAt b 8 4, ts := beAt b 0x0C 6,
    modeEpoch := BitVec.ofNat 16 (beAt b 0x12 2), leaseEpoch := BitVec.ofNat 32 (beAt b 0x14 4),
    echoSeq := BitVec.ofNat 32 (beAt b 0x18 4), echoHold := beAt b 0x1C 2, payload := slice b 0x20 48 }

/-- Each lane's own check of a received frame (R238); the healthy lane makes both when the other is marked (R251). -/
def checkPass (key : ConnKey) (b : Bytes) : Bool × Bool :=
  let h := slice b 0 0x50
  let id := beAt b 4 4
  ((checkA (kslSeedA (key.of .a) id) h).toNat == beAt b 0x50 4, (checkB (kslSeedB (key.of .b) id) h).toNat == beAt b 0x54 4)

end Sys2Proof.Machine
end

