-- ==== Sys2Proof/Machine/Ksl.lean ====
section
/-! DEFINITION. The Keapor Safety Layer (R235 to R246, R249, R255): production with echo and SYNC, reception in both lanes, the latch
and the states of connections. -/
namespace Sys2Proof.Machine

/-- The consumed connections are latched with the time they need: `te` in ticks. -/
def ConsSt.te (x : ConsSt) : Nat := x.conn.te * 100

/-- The known lease epoch of a function (R296). -/
def knownEpoch (s : State) (fid : Nat) : BitVec 32 := ((s.nv.epochs.find? (fun x => x.1 == fid)).map (fun x => x.2)).getD 0

/-- The known epoch becomes a higher one (R296). -/
def learnEpoch (s : State) (fid : Nat) (e : BitVec 32) : State :=
  if (knownEpoch s fid).toNat < e.toNat then
    { s with nv := { s.nv with epochs := (fid, e) :: s.nv.epochs.filter (fun x => x.1 != fid) } }
  else s

/-- The function has a cutting (R291). -/
def hasCutting (s : State) (fid : Nat) : Bool := ((planFn s fid).bind (fun p => p.standby)).isSome

/-- Lease epoch of a produced connection: the function's, 0 without a cutting (R232, R301). -/
def leaseOf (s : State) (fid : Nat) : BitVec 32 := match cutOf s fid with
  | some x => if x.holder then x.epoch else knownEpoch s fid
  | none => 0

/-- Change consumed connection id. -/
def modCons (s : State) (id : Nat) (g : ConsSt → ConsSt) : State :=
  { s with ksl := { s.ksl with cons := s.ksl.cons.map (fun x => if x.conn.id == id then g x else x) } }

/-- Change produced connection id. -/
def modProd (s : State) (id : Nat) (g : ProdSt → ProdSt) : State :=
  { s with ksl := { s.ksl with prod := s.ksl.prod.map (fun x => if x.conn.id == id then g x else x) } }

/-- The next sequence number of a connection (R237). -/
def nextSeq (s : State) (id : Nat) : Nat := ((s.ksl.seqs.find? (fun x => x.1 == id)).map (fun x => x.2)).getD 0 + 1

/-- Consumed connections from a peer. -/
def consFrom (s : State) (peer : Nat) : List ConsSt := s.ksl.cons.filter (fun x => x.conn.prod == peer)

/-- The echo entry of the next frame to a peer: index, sequence or nonce, hold, SYNCREQ; and the state after it (R243, R245). -/
def takeEcho (s : State) (peer : Nat) : State × (Nat × BitVec 32 × Nat × Bool) :=
  match (consFrom s peer).find? (fun x => x.reqDue) with
  | some x =>
    (modCons s x.conn.id (fun y => { y with reqDue := false }), (x.conn.index, ((x.nonce.map (fun n => n.1)).getD 0), 0, true))
  | none =>
    let list := (consFrom s peer).filter (fun x => x.newest.isSome)
    let pos := ((s.ksl.rot.find? (fun r => r.1 == peer)).map (fun r => r.2)).getD 0
    match list[pos % (max 1 list.length)]? with
    | none => (s, (0xFF, 0, 0, false))
    | some x =>
      let hold := match x.newest with
        | some (_, a, _) => min 65535 ((s.tb - a).toNat / 100)
        | none => 0
      let sq := match x.newest with
        | some (f, _, _) => BitVec.ofNat 32 f.seq
        | none => 0
      ({ s with ksl := { s.ksl with rot := (peer, (pos + 1) % list.length) :: s.ksl.rot.filter (fun r => r.1 != peer) } },
        (x.conn.index, sq, hold, false))

/-- A connection whose frames carry a function's lease epoch: DATA of a KSEND or an output forward, or MIRROR (R232, R301). -/
def leaseConn (k : PlanConn) : Bool := k.type == 2 || (k.type == 1 && k.sub != 1)

/-- One frame is released on a produced connection under the mode epoch of its frame: each lane forms its part from its own payload (R232,
R235, R237, R243, R245). -/
def releaseFrame (s : State) (p : ProdSt) (nw : Nat) (epoch : BitVec 16) (payA payB : Bytes) (fallow : Bool) : State :=
  let id := p.conn.id
  let seq := nextSeq s id
  let e := match p.answer with
    | some nonce => (s, (0xFF, nonce, 0, false))
    | none => takeEcho s p.conn.cons
  let s := e.1
  let f : KFrame :=
    { type := p.conn.type, sync := p.answer.isSome, syncReq := e.2.2.2.2, fallow := fallow, nw := nw, echoIdx := e.2.1, connId := id, seq := seq,
      ts := s.tb.toNat % 2 ^ 48, modeEpoch := epoch, leaseEpoch := if leaseConn p.conn then leaseOf s p.conn.fid else 0, echoSeq := e.2.2.1,
      echoHold := e.2.2.2.1, payload := payA }
  let s := modProd s id (fun x => { x with answer := none, sent := ((BitVec.ofNat 32 seq, s.tb) :: x.sent).take 64 })
  let s := { s with ksl := { s.ksl with txCnt := satAdd s.ksl.txCnt 1, seqs := (id, seq) :: s.ksl.seqs.filter (fun x => x.1 != id) } }
  sendKsl s p.conn.cons (kslBytes p.key f { f with payload := payB })

/-- The two-way budget of a path in µs (R246, R253). -/
def pathBudget (s : State) (peer : Nat) : Nat := ((s.cfg.map (fun c => 2 * netOf c c.own peer)).getD 0)

/-- An echo of a held frame: PATH, and the warnings of a slow node (R245, R246); on a CONTROL connection a measurement of R284. -/
def takeEchoOf (s : State) (p : ProdSt) (stamp : BitVec 64) (hold : Nat) : State :=
  let path := (s.tb - stamp).toNat / 100 - hold
  let b := pathBudget s p.conn.cons
  let over75 := b * 75 < path * 100
  let under60 := decide (path * 100 < b * 60)
  let rested := (p.calm.map (fun t => decide (100000000 ≤ (s.tb - t).toNat))).getD false
  let raiseSlow := over75 && (!p.slow || rested)
  let calm := if !under60 then none else match p.calm with
    | some t => some t
    | none => some s.tb
  let s := modProd s p.conn.id (fun x =>
    { x with pathUs := min 0xFFFFF path, slow := (x.slow && !rested) || raiseSlow, calm := calm })
  let s := if raiseSlow then raise { s with ksl := { s.ksl with slowCnt := satAdd s.ksl.slowCnt 1 } } 131 p.conn.id 0 path else s
  let s := if b < path then raise s 132 p.conn.id 0 path else s
  if p.conn.type == 3 then
    { s with plt := { s.plt with nbrs := s.plt.nbrs.map (fun n =>
        if n.node == p.conn.cons then { n with paths := n.paths + 1, pathMax := max n.pathMax path } else n) } }
  else s

/-- The echo entry of an accepted frame (R243, R245). ECHO_IDX 0xFF names no connection, or the one of index 255 that R274 gives: an entry
that names none has no SYNCREQ and holds no SEQ that a connection has sent (log 123). -/
def handleEcho (s : State) (f : KFrame) (peer : Nat) : State :=
  if f.sync then s
  else match s.ksl.prod.find? (fun p => p.conn.index == f.echoIdx && p.conn.cons == peer) with
    | none => s
    | some p =>
      if f.syncReq then modProd s p.conn.id (fun x => { x with answer := some f.echoSeq })
      else match p.sent.find? (fun x => x.1 == f.echoSeq) with
        | none => s
        | some (_, stamp) => takeEchoOf s p stamp f.echoHold

/-- Check failures of the last second (R242). -/
def recentFails (s : State) (x : ConsSt) : List (BitVec 64) := x.fails.filter (fun t => decide ((s.tb - t).toNat < 100000000))

/-- PT as seconds and nanoseconds compared, in nanoseconds (R310). -/
def ptNow (s : State) : Nat := s.net.ptSec.toNat * 1000000000 + s.net.ptNs.toNat
/-- The activation instant of an announcement. -/
def ModeAnn.instant (m : ModeAnn) : Nat := m.sec * 1000000000 + m.ns

/-- PT lies within the window A ± 2·TE of a change for a connection (R310). -/
def inWindow (s : State) (te : Nat) (m : ModeAnn) : Bool :=
  let w := 2 * te * 1000
  decide (m.instant ≤ ptNow s + w) && decide (ptNow s ≤ m.instant + w)

/-- The transition window of a change is open for a connection now (R310). -/
def windowOpen (s : State) (te : Nat) : Bool := s.mode.pending.any (fun x => inWindow s te x.ann) || s.mode.window.any (inWindow s te)

/-- A frame of a change's old or new epoch, whichever this module does not hold, inside the window of that change (R310). -/
def transFrame (s : State) (te : Nat) (f : KFrame) : Bool :=
  f.modeEpoch != s.mode.epoch
    && (s.mode.pending.any (fun x => f.modeEpoch == x.ann.epoch && inWindow s te x.ann)
      || (f.modeEpoch == s.mode.prevEpoch && s.mode.window.any (fun m => m.epoch == s.mode.epoch && inWindow s te m)))

/-- The fault cause present on a connection at a latch (R242). -/
def causeOf (s : State) (x : ConsSt) (age : Nat) : Nat :=
  if x.te < age then 1
  else if 8 ≤ (recentFails s x).length then 2
  else match x.newest with
    | some (f, _, _) => if x.conn.type == 1 && f.modeEpoch != s.mode.epoch && !transFrame s x.conn.te f then 3 else 0
    | none => 0

/-- The causes that keep a connection from RUN (R241, R242). -/
def blockedBy (s : State) (x : ConsSt) (age : Nat) : Bool :=
  x.te < age || (if x.cause == 2 then !(recentFails s x).isEmpty else false) || causeOf s x age != 0

/-- Agreed age of the newest frame: the larger of the two lanes' (R239). -/
def agedNow (s : State) (x : ConsSt) : Nat := match x.newest with
  | some (_, a, b) => max (s.tb - a).toNat (s.clkB - b).toNat
  | none => 0

/-- A connection with a valid SYNC frame and no cause left enters RUN (R241, R243). -/
def tryRun (s : State) (id : Nat) : State := match s.ksl.cons.find? (fun x => x.conn.id == id) with
  | none => s
  | some x =>
    if x.synced && (x.st == .wait || x.st == .fault) && !blockedBy s x (agedNow s x) then
      raise (modCons s id (fun y => { y with st := .run, cause := 0, nonce := none, reqDue := false })) 129 id 0 0
    else s

/-- A SYNC request with a new nonce (R243). -/
def askSync (s : State) (x : ConsSt) : ConsSt := { x with nonce := some (s.tb.setWidth 32, s.tb), reqDue := true, synced := false }

/-- A connection enters FAULT (R242). -/
def faultConn (s : State) (id cause : Nat) : State :=
  raise (modCons s id (fun y => askSync s { y with st := .fault, cause := cause })) 128 id cause 0

/-- A connection after an accepted frame. -/
def acceptFrame (s : State) (x : ConsSt) (f : KFrame) (validSync : Bool) : State :=
  let s := { s with ksl := { s.ksl with rxCnt := satAdd s.ksl.rxCnt 1 } }
  let s := modCons s x.conn.id (fun y =>
    { y with newest := some (f, s.tb, s.clkB), lastSeq := f.seq, synced := y.synced || validSync,
             nonce := if validSync then none else y.nonce })
  let s := if leaseConn x.conn && hasCutting s x.conn.fid then learnEpoch s x.conn.fid f.leaseEpoch else s
  handleEcho (tryRun s x.conn.id) f x.conn.prod

/-- A received frame through the steps of R238. -/
def receiveKsl (s : State) (b : Bytes) : State :=
  let f := parseKsl b
  let foreign := raiseFirst { s with ksl := { s.ksl with foreignCnt := satAdd s.ksl.foreignCnt 1 } } 134 0 f.connId 0 0
  match s.ksl.cons.find? (fun x => x.conn.id == f.connId) with
  | none => foreign
  | some x =>
    if byteAt b 0 != 1 || x.conn.type != f.type then foreign
    else
      let p := checkPass x.key b
      if !(p.1 && p.2) then
        let s := modCons s x.conn.id (fun y => { y with fails := s.tb :: recentFails s y, chk := satAdd y.chk 1 })
        raiseFirst { s with ksl := { s.ksl with chkCnt := satAdd s.ksl.chkCnt 1 } } 130 x.conn.id x.conn.id 0 0
      else
        let validSync := f.sync && ((x.nonce.map (fun n => n.1 == f.echoSeq && decide ((s.tb - n.2).toNat ≤ x.te))).getD false)
        if !validSync && (f.sync || f.seq ≤ x.lastSeq) then { s with ksl := { s.ksl with oldCnt := satAdd s.ksl.oldCnt 1 } }
        else if leaseConn x.conn && hasCutting s x.conn.fid && f.leaseEpoch.toNat < (knownEpoch s x.conn.fid).toNat then
          let s := { s with ksl := { s.ksl with fenceCnt := satAdd s.ksl.fenceCnt 1 } }
          if x.fenced.contains f.leaseEpoch then s
          else raise (modCons s x.conn.id (fun y => { y with fenced := f.leaseEpoch :: y.fenced })) 133 x.conn.id 0 0
        else acceptFrame s x f validSync

/-- The redundancy trailer of a received frame: its last six bytes with the suffix 0x88FB, as sequence number and LAN (R260; PRESUMED, log 28:
the layout of IEC 62439-3). -/
def trailerOf (b : Bytes) : Option (Nat × Nat) :=
  let t := b.drop 96
  if t.length == 6 && beAt t 4 2 == 0x88FB then some (beAt t 0 2, byteAt t 2 / 16) else none

/-- In PMODE 2 a frame whose trailer names the other LAN is noted and still passed (R260). -/
def noteLan (s : State) (p : Nat) (b : Bytes) : State :=
  if pmodeOf s == 2 && (trailerOf b).any (fun t => t.2 != 10 + p) then raiseFirst s 150 0 p 0 0 else s

/-- A doubly-attached node passes the first copy of a frame, and discards a duplicate within 400 ms (R260): the state with the trailer
noted, and whether the frame passes. -/
def passTrailer (s : State) (src : BitVec 48) (b : Bytes) : State × Bool := match pmodeOf s == 2, trailerOf b with
  | true, some t =>
    let fresh := s.net.prpSeen.filter (fun x => decide ((s.tb - x.2.2).toNat < 40000000))
    if fresh.any (fun x => x.1 == src && x.2.1 == t.1) then ({ s with net := { s.net with prpSeen := fresh } }, false)
    else ({ s with net := { s.net with prpSeen := (src, t.1, s.tb) :: fresh } }, true)
  | _, _ => (s, true)

/-- A frame has been received on a port (R269). -/
def countRx (s : State) (p : Nat) : State :=
  if p == 0 then { s with net := { s.net with rx0 := satAdd s.net.rx0 1 } } else { s with net := { s.net with rx1 := satAdd s.net.rx1 1 } }

/-- A frame addressed to the module is discarded and counted (R261). -/
def dropNet (s : State) : State := { s with net := { s.net with dropCnt := satAdd s.net.dropCnt 1 } }

/-- ADDR_CONFLICT: a frame from the own MAC or the own IPv4 address is discarded (R262). -/
def addrConflict (s : State) (p : Nat) : State := raise s 158 p 0 0

/-- The frame comes from the own MAC or the own IPv4 address (R262). -/
def fromOwn (a : AddrRec) (src : BitVec 48) (srcIp : BitVec 32) : Bool := src == a.mac || (a.ipv4 != 0 && srcIp == a.ipv4)

/-- The carrier of the path record to the frame's producer is the one it came by (R261); a frame of a node without a path record is judged
by R238 alone. -/
def carriedBy (s : State) (b : Bytes) (carrier : Nat) : Bool := match pathTo s (nbits (beAt b 4 4) 17 8) with
  | some r => r.carrier == carrier
  | none => true

/-- A KSL frame at a port: `toMe` its addressee is this node, `fits` it is in the form that the carrier accepts (R257, R260 to R262). -/
def portFrame (s : State) (p : Nat) (src : BitVec 48) (srcIp : BitVec 32) (carrier : Nat) (b : Bytes) (toMe fits : AddrRec → Bool) : State :=
  if !hasPort s p then s
  else
    let s := countRx s p
    match ownAddr s with
    | none => dropNet s
    | some a =>
      if fromOwn a src srcIp then addrConflict s p
      else if !toMe a then s
      else if !(fits a && carriesKsl s p && carriedBy s b carrier) then dropNet s
      else
        let r := passTrailer (noteLan s p b) src b
        if r.2 then receiveKsl r.1 (b.take 96) else r.1

/-- KSL_FRAME_RX: a frame from a port or the tunnel (R257, R261). -/
def kslFrameRxEffect (c : Carrier) (b : Bytes) (s : State) : State := match c with
  | .tunnel => if carriedBy s b 2 then receiveKsl s b else s
  | .raw p dst src => portFrame s p src 0 0 b (fun a => dst == a.mac) (fun _ => true)
  | .udp p src dstIp srcIp dstPort =>
    portFrame s p src srcIp 1 b (fun a => a.ipv4 != 0 && dstIp == a.ipv4) (fun a => dstPort == a.udp)

/-- One connection at a latch: age, causes, the frame that KRECV reads (R239, R242, R255). -/
def latchConn (s : State) (x : ConsSt) : State :=
  let age := agedNow s x
  let c := causeOf s x age
  let units := BitVec.ofNat 16 (min 0xFFFF (age / 20000))
  let s := if x.st == .run && c != 0 then faultConn s x.conn.id c else tryRun s x.conn.id
  modCons s x.conn.id (fun y =>
    { y with age := age, latched := y.newest.map (fun n => n.1), fails := recentFails s y, ageLast := units,
             agePeak := if y.st == .run then bvMax y.agePeak units else y.agePeak })

/-- Every consumed connection is latched at F(n) (R239). -/
def latchConns (s : State) : State := s.ksl.cons.foldl latchConn s

/-- The words of a DATA frame. -/
def frameWords (f : KFrame) : List W72 := (List.range (min 5 f.nw)).map (fun i => wordAt f.payload (9 * i))

/-- A consumed connection as the lanes read it in the frame that begins (R249, R310). -/
def viewOf (s : State) (x : ConsSt) : ConnView := match x.latched with
  | none => ⟨x.st == .run, if x.st == .fault then x.cause else 4, x.age, [], false, false⟩
  | some f => ⟨x.st == .run, if x.st == .fault then x.cause else 4, x.age, frameWords f, transFrame s x.conn.te f, f.fallow⟩

/-- Slot i: the consumed connections in ascending CONN_ID (R255). -/
def consSlot (s : State) (i : Nat) : Option ConsSt := s.ksl.cons[i]?

/-- CONN_TIMEOUT: the agreed age is above TE at a latch (R242). -/
def connTimeoutEffect (i : Nat) (s : State) : State := match consSlot s i with
  | some x => if x.st == .run && x.te < agedNow s x then faultConn s x.conn.id 1 else s
  | none => s

/-- CONN_CHECK_FAULT: 8 check failures within 1 s (R242). -/
def connCheckFaultEffect (i : Nat) (s : State) : State := match consSlot s i with
  | some x => if x.st == .run && 8 ≤ (recentFails s x).length then faultConn s x.conn.id 2 else s
  | none => s

/-- No request of the connection is less than TE old (R243). -/
def askDue (s : State) (x : ConsSt) : Bool := x.nonce.all (fun n => decide (x.te ≤ (s.tb - n.2).toNat))

/-- SYNC_REQUEST: a connection in WAIT or FAULT asks again with a new nonce (R243). -/
def syncRequestEffect (i : Nat) (s : State) : State := match consSlot s i with
  | some x => if (x.st == .wait || x.st == .fault) && askDue s x then modCons s x.conn.id (fun y => askSync s y) else s
  | none => s

/-- CONN_TIMEOUT. -/
def execConnTimeout (i : Nat) (s : State) : Host.Outcome State Fault Refusal := finish s (connTimeoutEffect i s)
/-- CONN_CHECK_FAULT. -/
def execConnCheckFault (i : Nat) (s : State) : Host.Outcome State Fault Refusal := finish s (connCheckFaultEffect i s)
/-- SYNC_REQUEST. -/
def execSyncRequest (i : Nat) (s : State) : Host.Outcome State Fault Refusal := finish s (syncRequestEffect i s)

end Sys2Proof.Machine
end

