-- ==== Sys2Proof/Machine/Clock.lean ====
section
/-! DEFINITION. PTP time as a view of TB, and its health (R263, R264, R266); the best master clock algorithm and the port states (R265;
PRESUMED, log 153: the default algorithm of IEEE 1588-2019). -/
namespace Sys2Proof.Machine

/-- PTP portState of a port. -/
def portState (s : State) (p : Nat) : Nat := (if p == 0 then s.net.ptp0 else s.net.ptp1).toNat

/-- The sync interval in ticks: 2 to the logSyncInterval seconds (R264). -/
def syncTicks (s : State) : Nat := match s.cfg with
  | some c => 100000000 / 2 ^ ((256 - c.domain.logSync) % 256)
  | none => 12500000

/-- SYNCTOL in nanoseconds. -/
def syncTolNs (s : State) : Nat := ((s.cfg.map (fun c => c.domain.syncTol)).getD 10) * 1000

/-- A port that carries PTP is in the portState. -/
def anyPort (s : State) (st : Nat) : Bool := [0, 1].any (fun p => carriesKsl s p && portState s p == st)

/-- PTP time is healthy (R266). -/
def clockHealthy (s : State) : Bool :=
  let stable := decide (200000000 ≤ (s.tb - s.net.gmSince).toNat)
  let asGm := s.net.gm && anyPort s 6
  let asSlave := anyPort s 9 && s.net.syncSeen && decide ((s.tb - s.net.lastSync).toNat ≤ 4 * syncTicks s)
    && 8 ≤ s.net.offs.length && s.net.offs.all id
  (ownAddr s).isSome && stable && (asGm || (!s.net.gm && asSlave))

/-- SYNC_GAINED and SYNC_LOST when the health changes (R266). -/
def judgeSync (s : State) : State :=
  let h := clockHealthy s
  let p := if portState s 1 == 9 || portState s 1 == 6 then 1 else 0
  if h == s.net.healthy then s else raise { s with net := { s.net with healthy := h } } (if h then 153 else 154) p 0 0

/-- PT now, in nanoseconds: the view of TB with the rate and the offset that the servo has given it (R263). -/
def ptAt (s : State) : Int := s.net.ptRef + (10 * (s.tb - s.net.ptTb).toNat * (1000000000 + s.net.ptRate)) / 1000000000

/-- The servo takes an offset from the master, in nanoseconds: a rate correction of at most 500 ppm, and a step of PT only above 1 ms
(R263). -/
def servo (s : State) (offset rate : Int) : State :=
  let pt := ptAt s - (if 1000000 < offset.natAbs then offset else 0)
  { s with net := { s.net with ptRef := pt.toNat, ptTb := s.tb, ptRate := max (-500000) (min 500000 rate) } }

/-- The clockIdentity: the own MAC as EUI-64 (R265; PRESUMED, log 130: with the octets FF FE in the middle). -/
def clockIdentity (mac : BitVec 48) : BitVec 64 :=
  BitVec.ofNat 64 (mac.toNat / 2 ^ 24 * 2 ^ 40 + 0xFFFE * 2 ^ 24 + mac.toNat % 2 ^ 24)

/-- GM_CAPABLE of the own node (R262). -/
def gmCapable (s : State) : Bool := (ownAddr s).any (fun a => a.gmCapable)

/-- The dataset of the own clock (R265). -/
def ownClock (a : AddrRec) : PtpClock := ⟨128, 248, 0xFE, 0xFFFF, 128, clockIdentity a.mac, 0⟩

/-- Lexicographic order. -/
def lexBefore : List Nat → List Nat → Bool
  | x :: xs, y :: ys => decide (x < y) || (x == y && lexBefore xs ys)
  | _, _ => false

/-- What two grandmasters are compared by, ties resolved by clockIdentity (R265). -/
def clockRank (d : PtpClock) : List Nat := [d.priority1, d.clockClass, d.accuracy, d.variance, d.priority2, d.gm.toNat]

/-- One master is better than another: by its grandmaster, and under one grandmaster by its distance and identity. -/
def betterMaster (x y : Foreign) : Bool :=
  if x.ds.gm == y.ds.gm then lexBefore [x.ds.steps, x.src.toNat, x.srcPort, x.port] [y.ds.steps, y.src.toNat, y.srcPort, y.port]
  else lexBefore (clockRank x.ds) (clockRank y.ds)

/-- The best of some masters. -/
def bestMaster (l : List Foreign) : Option Foreign := l.foldl (fun m x => match m with
  | none => some x
  | some y => if betterMaster x y then some x else some y) none

/-- The announce interval in ticks (R264). -/
def announceTicks (s : State) : Nat := 4 * syncTicks s

/-- A clock qualifies as a master: two Announces within four announce intervals, the last no older than three. -/
def qualifies (s : State) (x : Foreign) : Bool := match x.seen with
  | a :: b :: _ => decide ((s.tb - a).toNat ≤ 3 * announceTicks s) && decide ((s.tb - b).toNat ≤ 4 * announceTicks s) && decide (x.ds.steps < 255)
  | _ => false

/-- A port carries PTP (R257, R259, R262). -/
def carriesPtp (s : State) (p : Nat) : Bool := (ownAddr s).isSome && carriesKsl s p

/-- The best master heard on a port. -/
def portBest (s : State) (p : Nat) : Option Foreign := bestMaster (s.net.foreign.filter (fun x => x.port == p && carriesPtp s p && qualifies s x))

/-- The best master heard on any port. -/
def netBest (s : State) : Option Foreign := bestMaster ([0, 1].filterMap (portBest s))

/-- The own clock would be grandmaster: it may be one, and no better clock is heard (R265). -/
def ownBest (s : State) : Bool := (ownAddr s).any (fun a => a.gmCapable && (netBest s).all (fun x => lexBefore (clockRank (ownClock a)) (clockRank x.ds)))

/-- A port still listens for a first master. -/
def listens (s : State) (p : Nat) : Bool :=
  portState s p == 4 && (portBest s p).isNone && decide ((s.tb - (if p == 0 then s.net.since0 else s.net.since1)).toNat < 3 * announceTicks s)

/-- The state that a port without a better master takes: MASTER, but LISTENING while it listens and on a slave-only clock. -/
def mastersOr (s : State) (p : Nat) : Nat := if !gmCapable s || listens s p then 4 else 6

/-- The portState that the algorithm gives a port: 1 INITIALIZING, 4 LISTENING, 6 MASTER, 7 PASSIVE, 8 UNCALIBRATED, 9 SLAVE (R265). -/
def nextPortState (s : State) (p : Nat) : Nat :=
  if !carriesPtp s p then 1
  else if portState s p == 1 then 4
  else if ownBest s then mastersOr s p
  else match netBest s, portBest s p with
    | some e, some r =>
      if r == e then (if portState s p == 9 && s.net.parent == some (p, r.src, r.srcPort) then 9 else 8)
      else if r.ds.gm == e.ds.gm then 7 else mastersOr s p
    | _, _ => mastersOr s p

/-- The grandmaster identity changes (R268). -/
def noteGm (s : State) (gm : BitVec 64) : State :=
  if gm == s.net.gmId then s
  else raise { s with net := { s.net with gmId := gm, gmSince := s.tb } } 155 ((s.net.parent.map (fun x => x.1)).getD 0) 0 0

/-- The best master clock decision: the states of the ports, the master followed, and the grandmaster (R265, R266). -/
def decideMaster (s : State) : State :=
  let st := fun p => BitVec.ofNat 8 (nextPortState s p)
  let begun := fun p (t : BitVec 64) => if portState s p == 1 then s.tb else t
  let gm := ownBest s && [0, 1].any (fun p => nextPortState s p == 6)
  let e := if ownBest s then none else netBest s
  let t := { s with net := { s.net with
    ptp0 := st 0, ptp1 := st 1, since0 := begun 0 s.net.since0, since1 := begun 1 s.net.since1, gm := gm,
    parent := e.map (fun x => (x.port, x.src, x.srcPort)),
    offset := if gm then 0 else s.net.offset, mpd := if gm then 0 else s.net.mpd } }
  match gm, ownAddr s, e with
  | true, some a, _ => noteGm t (clockIdentity a.mac)
  | _, _, some x => noteGm t x.ds.gm
  | _, _, none => t

/-- The clock forgets what it has heard: another configuration, or none. -/
def resetPtp (s : State) : State :=
  { s with net := { s.net with foreign := [], parent := none, ptp0 := 1, ptp1 := 1, gm := false, offs := [], syncSeen := false } }

/-- The time, the clock's health and the status fields that the NET page shows (R263, R266, R269). -/
def latchTime (s : State) : State :=
  let s := judgeSync (decideMaster s)
  let n := s.net
  let pt := (ptAt s).toNat
  { s with net := { n with
      ptSec := BitVec.ofNat 48 (pt / 1000000000), ptNs := BitVec.ofNat 32 (pt % 1000000000), syncOk := n.healthy,
      view := ⟨n.speed0, n.speed1, n.gm, n.ptp0, n.ptp1, n.gmId, n.offset, n.mpd⟩ } }

end Sys2Proof.Machine
end

