-- ==== Sys2Proof/Machine/Field.lean ====
section
/-! DEFINITION. The field side at a latch (R34, R149, R160, R170, R187 to R196): what the sequencers latch, the agreement of the inputs, the
states of the banks, CHOK, and the words of the frame's image. -/
namespace Sys2Proof.Machine

/-- An own channel that is a safety input (R150). -/
def isSafeIn (c : Image) (ch : Nat) : Bool := chanUse c ch == 1 || chanUse c ch == 2
/-- An own channel that is a safety output (R174). -/
def isSafeOut (c : Image) (ch : Nat) : Bool := chanUse c ch == 4 || chanUse c ch == 5
/-- An own channel that is an output. -/
def isOut (c : Image) (ch : Nat) : Bool := isSafeOut c ch || chanUse c ch == 6

/-- The bound source of an own channel, if it has one. -/
def chanSrc (c : Image) (ch : Nat) : Option Nat := match ownChan c ch with
  | some r => if r.tpsrc == 0xFF then none else some r.tpsrc
  | none => none

/-- The record of an own source. -/
def ownSrc (c : Image) (i : Nat) : Option SrcRec := c.srcs.find? (fun x => x.node == c.own && x.src == i)

/-- TRIP and RIDE of an own bank in a configuration, with the defaults of R189, in 0.1 V and 0.1 ms. -/
def bankParOf (c : Option Image) (b : Nat) : Nat × Nat := match c.bind (fun c => c.banks.find? (fun x => x.node == c.own && x.bank == b)) with
  | some r => (r.trip, r.ride)
  | none => (160, 50)

/-- WARN of a bank in 0.1 V (R189). -/
def bankWarnOf (c : Option Image) (b : Nat) : Nat := let t := (bankParOf c b).1; if t < 192 then 192 else t + 10

/-- TRIP and RIDE, and WARN, of the active configuration. -/
def bankPar (s : State) (b : Nat) : Nat × Nat := bankParOf s.cfg b
def bankWarn (s : State) (b : Nat) : Nat := bankWarnOf s.cfg b

/-- Output channel ch. -/
def outChan (s : State) (ch : Nat) : OutCh := s.fld.outs.getD ch OutCh.reset
/-- Input channel ch. -/
def inAt (s : State) (ch : Nat) : InCh := s.fld.ins.getD ch InCh.reset
/-- Source i. -/
def srcAt (s : State) (i : Nat) : SrcSt := s.fld.srcs.getD i SrcSt.reset
/-- A sequencer's view of channel ch. -/
def seqAt (s : State) (l : Lane) (ch : Nat) : SeqIn := (match l with
  | .a => s.fld.seqA
  | .b => s.fld.seqB).getD ch SeqIn.reset
/-- The link of a lane. -/
def linkAt (s : State) (l : Lane) : LinkSt := match l with
  | .a => s.fld.linkA
  | .b => s.fld.linkB

/-- The configuration whose parameters a sequencer follows: the one that training has handed to it, from the first frame marker on; none stands
for the default parameters (R203, R362, R365). -/
def seqCfg (s : State) (l : Lane) : Option Image := if s.lan.timerOn then (linkAt s l).par else none

/-- A source with a clean slate. -/
def freshSource (st : SrcState) (stopped : Bool) (k : SrcSt) : SrcSt :=
  { k with st := st, stopped := stopped, errA := [], errB := [], good := 0, placed := none }

/-- Change parts of the field side. -/
def modOut (s : State) (ch : Nat) (g : OutCh → OutCh) : State := { s with fld := { s.fld with outs := modAt s.fld.outs ch g } }
def modBank (s : State) (b : Nat) (g : BankSt → BankSt) : State := { s with fld := { s.fld with banks := modAt s.fld.banks b g } }
def modSrc (s : State) (i : Nat) (g : SrcSt → SrcSt) : State := { s with fld := { s.fld with srcs := modAt s.fld.srcs i g } }
def modSeq (s : State) (l : Lane) (ch : Nat) (g : SeqIn → SeqIn) : State := match l with
  | .a => { s with fld := { s.fld with seqA := modAt s.fld.seqA ch g } }
  | .b => { s with fld := { s.fld with seqB := modAt s.fld.seqB ch g } }
def modLink (s : State) (l : Lane) (g : LinkSt → LinkSt) : State := match l with
  | .a => { s with fld := { s.fld with linkA := g s.fld.linkA } }
  | .b => { s with fld := { s.fld with linkB := g s.fld.linkB } }

/-- A sequencer has power: its isolated converter is on. -/
def seqOn (s : State) (l : Lane) : Bool := match l with
  | .a => s.sys.convA
  | .b => s.sys.convB

/-- A bank feeds its outputs and sources: OK or SAG (R188, R196). -/
def bankGood (b : BankSt) : Bool := b.st == .ok || b.st == .sag

/-- The code of a bank's state in FLD_BANK (R204). -/
def bankCode : BankState → Nat
  | .untested => 0
  | .ok => 1
  | .sag => 2
  | .low => 3
  | .lost => 4

/-- V_LP: the lower of the two measurements, in 0.1 V (R190). -/
def vlp (b : BankSt) : Nat := min b.feedA b.feedB

/-- The other channel of a ganged pair, for one that has USE 0x05 (R175, R181). -/
def gangMate (c : Image) (ch : Nat) : Option Nat :=
  if chanUse c ch == 5 then some (if ch % 2 == 0 then ch + 1 else ch - 1) else none

/-- A fault cause set on an output channel by the named sequencers, with OUTPUT_FAULT on entry into fault (R187). -/
def setOutCause (s : State) (ch cause : Nat) (byA byB : Bool) : State :=
  let o := outChan s ch
  if o.causes.any (fun x => x.cause == cause) then
    modOut s ch (fun o => { o with causes := o.causes.map (fun x =>
      if x.cause == cause then ⟨cause, x.byA || byA, x.byB || byB⟩ else x) })
  else
    let s' := modOut s ch (fun o => { o with causes := o.causes ++ [⟨cause, byA, byB⟩] })
    if o.causes.isEmpty then raise s' (50 + 8 * (ch / 16)) ch cause 0 else s'

/-- Causes removed from an output channel. -/
def dropOutCauses (s : State) (ch : Nat) (p : Nat → Bool) : State :=
  modOut s ch (fun o => { o with causes := o.causes.filter (fun x => !p x.cause) })

/-- The class of a feed in an uplink BANK byte (R198): below LOSS counts once the ride-through has expired, as R191 uses it. -/
def feedClass (feed warn trip : Nat) (expired : Bool) : Nat :=
  if expired then (if feed < 90 then 4 else 3) else if feed < trip then 2 else if feed < warn then 1 else 0

/-- A BANK byte: class and overcurrent. -/
def bankByte (cls : Nat) (oc : Bool) : Nat := cls * 32 + b2n oc * 16

/-- STATE bits that a sequencer latches: accepted inputs, and readback of outputs (R159, R182, R198). -/
def seqStateBits (s : State) (l : Lane) (rb : BitVec 96) : BitVec 96 := match seqCfg s l with
  | none => 0
  | some c => mask96 (fun ch =>
    if isSafeIn c ch || (chanUse c ch == 3 && l == .a) then (seqAt s l ch).acc
    else if isOut c ch then rb.getLsbD ch
    else false)

/-- FAULT bits that a sequencer latches (R160, R187). -/
def seqFaultBits (s : State) (l : Lane) : BitVec 96 := match seqCfg s l with
  | none => 0
  | some c => mask96 (fun ch =>
    if isSafeIn c ch then !(seqAt s l ch).bandFaults.isEmpty || (seqAt s l ch).codeFault.isSome
    else if isOut c ch then (outChan s ch).causes.any (fun x => match l with
      | .a => x.byA
      | .b => x.byB)
    else false)

/-- The sequencer latches on the frame marker, and the lane holds the latch of a link that is up (R200); of one that is not, zero states
and the FAULT and BANK bytes of the frame before (R201). -/
def latchLink (s : State) (l : Lane) (rb : BitVec 96) (feeds : List Nat) : State :=
  let bytes := (List.range 6).map (fun b =>
    let k := bankAt s b
    let c := seqCfg s l
    if nBankOf s.sys.variant ≤ b then 0 else bankByte (feedClass (feeds.getD b 0) (bankWarnOf c b) (bankParOf c b).1 (match l with
      | .a => k.expA
      | .b => k.expB)) (match l with
      | .a => k.ocA
      | .b => k.ocB))
  let st := seqStateBits s l rb
  let ft := seqFaultBits s l
  modLink s l (fun k =>
    let k := { k with prevFault := k.latFault, prevBank := k.latBank, seqState := st, seqFault := ft, seqBank := bytes,
                      latOk := false, marker := true, missRun := if k.missed then k.missRun else 0, missed := false }
    if k.st == .up then { k with latState := st, latFault := ft, latBank := bytes } else { k with latState := 0 })

/-- A fault cause of an input as the band or code judgement of a sequencer whose fault bit is latched shows it. -/
def seqCauses (q : SeqIn) (latched : Bool) : List Nat :=
  if latched then q.bandFaults ++ q.codeFault.toList else []

/-- Is the bound source of a channel at fault (R170)? -/
def sourceBad (s : State) (c : Image) (ch : Nat) : Bool := match chanSrc c ch with
  | none => false
  | some i => (srcAt s i).st == .faulted || !bankGood (bankAt s (i / 4))

/-- The two code causes are one fault, whose cause is revised in place (R167). -/
def causeKey (x : Nat) : Nat := if x == 4 then 3 else x

/-- Causes of an input in the order in which they set the fault: those that remain, then the new ones (R170). -/
def mergeCauses (old new : List Nat) : List Nat :=
  let kept := old.filterMap (fun x => new.find? (fun y => causeKey y == causeKey x))
  kept ++ new.filter (fun y => !kept.any (fun x => causeKey x == causeKey y))

/-- The agreed data of one input from the two latches (R34, R160, R170); a channel that is no safety input has no fault. -/
def agreeIn (s : State) (c : Image) (ch : Nat) (p : InCh) : InCh :=
  let la := s.fld.linkA
  let lb := s.fld.linkB
  if !isSafeIn c ch then { InCh.reset with stdin := chanUse c ch == 3 && la.latState.getLsbD ch }
  else
    let a := la.latState.getLsbD ch
    let b := lb.latState.getLsbD ch
    let differ := if a == b then 0 else p.differ + 1
    let dis := p.dis || 3 ≤ differ
    let badNow := sourceBad s c ch
    let bad := p.srcBad || badNow
    let new := (seqCauses (seqAt s .a ch) (la.latFault.getLsbD ch)
      ++ seqCauses (seqAt s .b ch) (lb.latFault.getLsbD ch)
      ++ (if dis then [5] else []) ++ (if bad then [6] else [])).eraseDups
    let new := if new.contains 3 && new.contains 4 then new.filter (fun x => x != 3) else new
    let causes := mergeCauses p.causes new
    let fault := la.latFault.getLsbD ch || lb.latFault.getLsbD ch || dis || bad
    let fa := (seqAt s .a ch).foreign
    { p with state := !fault && a && b, fault := fault, causes := causes, differ := differ,
             dis := dis, disTb := if differ != 0 then s.tb else p.disTb, srcBad := bad, srcTb := if badNow then s.tb else p.srcTb,
             foreign := if !causes.contains 4 then 0x1F else if fa != 0x1F then fa else (seqAt s .b ch).foreign }

/-- FOREIGN as events carry it. -/
def foreignInfo (i : InCh) : Nat := if i.causes.head? == some 4 then i.foreign else 0

/-- The events of the agreement of one channel: EV49 in a frame whose latches differ, EV48 on entry into fault. What an earlier judgement
of the same frame has raised is not raised again. -/
def inEvents (s : State) (ch : Nat) (prev shown new : InCh) (first : Bool) : State :=
  let info := new.causes.headD 0
  let s := if new.differ != 0 && (first || shown.differ == 0) then raise s (49 + 8 * (ch / 16)) ch info (foreignInfo new) else s
  if new.fault && !prev.fault && (first || !shown.fault) then raise s (48 + 8 * (ch / 16)) ch info (foreignInfo new) else s

/-- INPUT_AGREEMENT (R34): every input from the latches in hand. -/
def agree (s : State) (c : Image) (first : Bool) : State :=
  let prev := s.fld.insPrev
  let new := (prev.zipIdx).map (fun p => agreeIn s c p.2 p.1)
  let count := fun (l : List InCh) => (l.filter (fun x => x.differ != 0)).length
  let old := if first then 0 else count s.fld.ins
  let cnt := BitVec.ofNat 32 (min (s.fld.idisCnt.toNat + count new - old) 0xFFFFFFFF)
  let s' := (List.range 96).foldl (fun t ch =>
    inEvents t ch (prev.getD ch InCh.reset) (s.fld.ins.getD ch InCh.reset) (new.getD ch InCh.reset) first) s
  { s' with fld := { s'.fld with ins := new, idisCnt := cnt } }

/-- What a bank's data say at a latch: the next bank, and the events it raises (R190, R191). -/
def judgeBank (s : State) (b : Nat) (p : BankSt) : BankSt × List Nat :=
  let ca := s.fld.linkA.latBank.getD b 0
  let cb := s.fld.linkB.latBank.getD b 0
  let exp := 96 ≤ ca % 256 || 96 ≤ cb % 256
  let loss := 128 ≤ ca || 128 ≤ cb
  let oc := nbit ca 4 || nbit cb 4
  let v := vlp p
  let w := bankWarn s b
  let apart := p.feedA + 10 < p.feedB || p.feedB + 10 < p.feedA
  let since := if apart then some (p.monSince.getD s.tb) else none
  let mon := (since.map (fun t => decide (1000000 ≤ (s.tb - t).toNat))).getD false
  let p' := { p with monSince := since, recovered := false }
  match p.st with
  | .ok | .sag =>
    if exp && loss then ({ p' with st := .lost, cause := 2 }, [52, 53])
    else if exp then ({ p' with st := .low, cause := 1 }, [52])
    else if oc then ({ p' with st := .low, cause := 3 }, [52])
    else if mon then ({ p' with st := .low, cause := 4 }, [52])
    else if p.st == .ok && v < w then ({ p' with st := .sag }, [51])
    else if p.st == .sag && p.recovered && w ≤ v then ({ p' with st := .ok }, [])
    else (p', [])
  | .low =>
    if exp && loss then ({ p' with st := .lost, cause := 2 }, [53])
    else if p.recovered && w < v then ({ p' with st := .ok, cause := 0 }, [54])
    else (p', [])
  | .lost => if 90 < v then ({ p' with st := .untested, cause := 0, testing := false, testsRun := false }, []) else (p', [])
  | .untested =>
    if p.testsRun && w < v then ({ p' with st := .ok, testing := false, testsRun := false }, [54])
    else if v ≤ w then ({ p' with testing := false, testsRun := false }, [])
    else (p', [])

/-- The state code that a bank event reports. -/
def eventCode (src : Nat) : Nat := match src with
  | 51 => 2
  | 52 => 3
  | 53 => 4
  | _ => 1

/-- An output of a bank that enters SAG: a pulse or test step in progress is discarded and repeated later (R192). -/
def sagBegins (o : OutCh) : OutCh :=
  let f := fun (w : SwitchSt) => if w.pulsing then { w with pulsing := false, deferred := true } else w
  { o with swA := f o.swA, swB := f o.swB, test := 0, testDue := o.testDue || o.test != 0, testHeld := o.testHeld || o.test != 0 }

/-- Both gates of a channel are applied open. -/
def bothOpen (o : OutCh) : Bool := !o.swA.gate && !o.swB.gate
/-- Both gates of a channel are applied closed: it is applied on. -/
def bothOn (o : OutCh) : Bool := o.swA.gate && o.swB.gate

/-- A switch on which an off-pulse begins (R184). -/
def pulseOn (w : SwitchSt) : SwitchSt := { w with pulsing := true, deferred := false, shifted := false }

/-- The outputs and sources of a bank after its state has changed at a latch (R166, R192). Tests that a sag has put off run again from the next
gate image after it (`runWaiting`). -/
def bankEdge (s : State) (b : Nat) (old new : BankState) : State :=
  if old == new then s
  else
    let mine := fun (g : OutCh → OutCh) => { s with fld := { s.fld with outs := s.fld.outs.zipIdx.map (fun p =>
      if p.2 / 16 == b then g p.1 else p.1) } }
    match new with
    | .sag => mine sagBegins
    | .lost => { s with fld := { s.fld with srcs := s.fld.srcs.zipIdx.map (fun p =>
        if p.2 / 4 == b then { freshSource .untested false p.1 with passed := false } else p.1) } }
    | _ => s

/-- One bank judged at the latch in hand. -/
def stepBank (first : Bool) (s : State) (b : Nat) : State :=
  let p := s.fld.banksPrev.getD b BankSt.reset
  let shown := bankAt s b
  let r := judgeBank s b p
  let old := if first then p.st else shown.st
  let s1 := bankEdge (modBank s b (fun _ => r.1)) b old r.1.st
  if old == r.1.st then s1 else r.2.foldl (fun t e => raise t (e + 8 * b) b (eventCode e) (vlp r.1)) s1

/-- The fault cause BANK of an output follows its bank, and the agreed fault bit is formed; a bit that BANK alone had set ends with it
(R187, R188). -/
def stepOut (c : Image) (s : State) (ch : Nat) : State :=
  if !isOut c ch then s
  else
    let bad := !bankGood (bankAt s (ch / 16))
    let bankOnly := !(outChan s ch).causes.isEmpty && (outChan s ch).causes.all (fun x => x.cause == 9)
    let bit := s.fld.linkA.latFault.getLsbD ch || s.fld.linkB.latFault.getLsbD ch
    let s1 := if bad then setOutCause s ch 9 true true else dropOutCauses s ch (fun x => x == 9)
    modOut s1 ch (fun o => { o with fault := bad || (bit && !bankOnly) })

/-- Banks, outputs and inputs judged on the latches in hand; `first` at F(n), false when a latch of the frame is replaced. -/
def judgeField (s : State) (c : Image) (first : Bool) : State :=
  let s := (List.range (nBankOf s.sys.variant)).foldl (stepBank first) s
  let s := (List.range 96).foldl (stepOut c) s
  agree s c first

/-- A forced target's word, as it replaces the latched one (R403). -/
def forcedWord (s : State) (t : Nat) (w : W72) : W72 := match s.lcy.forced.find? (fun x => x.1 == t) with
  | some x => mkWord x.2 (qValid ||| qForced)
  | none => w

/-- The agreed word of an input (R34, R170). -/
def inputWord (s : State) (ch : Nat) : W72 :=
  let i := inAt s ch
  forcedWord s ch (if i.fault then faultWord 0 else validWord (boolVal i.state))

/-- CHOK of an output: no agreed fault on it or its gang partner, and its bank OK or in SAG (R181, R188). -/
def chanOk (s : State) (c : Image) (ch : Nat) : Bool :=
  isSafeOut c ch && !(outChan s ch).fault && bankGood (bankAt s (ch / 16))
    && (match gangMate c ch with
      | some m => !(outChan s m).fault
      | none => true)

/-- The bank status word (R196). -/
def bankWord (s : State) (b : Nat) : W72 := if bankGood (bankAt s b) then validWord 1 else faultWord 0

/-- Banks whose outputs are committed off: those that are neither OK nor in SAG at the latch (R193, R194). -/
def banksOff (s : State) : List Nat := idxs 6 (fun b => !bankGood (bankAt s b))

/-- The field part of an input image, in lane A form. -/
def fieldImg (s : State) (c : Image) (x : LaneImg) : LaneImg :=
  { x with inputs := (List.range 96).map (inputWord s), chok := (List.range 96).map (chanOk s c), banks := (List.range 6).map (bankWord s) }

/-- The field bits of the process image at F(n) (R331). -/
def pageBits (s : State) (c : Image) : List (BitVec 96) :=
  let inp := fun ch => isSafeIn c ch
  [mask96 (fun ch => inp ch && (inAt s ch).state), mask96 (fun ch => inp ch && (inAt s ch).fault),
   mask96 (fun ch => chanUse c ch == 3 && (inAt s ch).stdin), mask96 (fun ch => isOut c ch && (outChan s ch).rbA),
   mask96 (fun ch => isOut c ch && (outChan s ch).fault)]

/-- The states of the banks as an image holds them (R193, R331). -/
def bankCodes (s : State) : List Nat := s.fld.banks.map (fun b => bankCode b.st)

/-- The field part of the newest image, formed anew in both lanes after a latch has been replaced, with what the process image takes of it
(R193, R201, R331). -/
def patchImage (s : State) (c : Image) : State := match s.lan.imgs with
  | [] => s
  | i :: rest =>
    let i := { i with inA := fieldImg s c i.inA, inB := laneImg .b (fieldImg s c (laneImg .b i.inB)), off := banksOff s,
                      page := pageBits s c, bankst := bankCodes s }
    { s with lan := { s.lan with imgs := i :: rest } }

/-- A channel faulted with SHORT: its switches stay open (R179). -/
def shorted (o : OutCh) : Bool := o.causes.any (fun x => x.cause == 4)

/-- A standard output is applied on: both its switches are closed (R197, R204). -/
def stdApplied (o : OutCh) : Bool := bothOn o && !o.swA.opened && !o.swB.opened

/-- The FLD page takes the values of F(n) (R172, R204). -/
def showField (s : State) (c : Image) : State :=
  { s with fld := { s.fld with
      srcsF := s.fld.srcs, outsF := s.fld.outs, insF := s.fld.ins, banksF := s.fld.banks, cmdF := s.fld.linkA.image,
      stdF := mask96 (fun ch => chanUse c ch == 6 && stdApplied (outChan s ch)), blF := (s.fld.linkA.st, s.fld.linkB.st) } }

/-- The agreed data of a latch that has been replaced, on the FLD page: inputs, banks, the agreed fault and BANK of the outputs, and sources
that a lost bank leaves untested; what else F(n) found stays (R172, R204). -/
def showAgreed (s : State) : State :=
  let outs := s.fld.outsF.zipIdx.map (fun p =>
    let o := outChan s p.2
    { p.1 with fault := o.fault, causes := o.causes.filter (fun x => x.cause == 9 || p.1.causes.any (fun y => y.cause == x.cause)) })
  let srcs := s.fld.srcsF.zipIdx.map (fun p => if (srcAt s p.2).st == .untested then { p.1 with st := .untested } else p.1)
  { s with fld := { s.fld with srcsF := srcs, outsF := outs, insF := s.fld.ins, banksF := s.fld.banks } }

/-- A latch of the frame in hand has been replaced: everything formed from it is formed anew. -/
def rejudge (s : State) : State := match s.cfg with
  | some c =>
    if s.lan.imgs.isEmpty then s else patchImage (showAgreed (judgeField s c false)) c
  | none => s

/-- What FRAME_START takes from the field side: measurements, both latches, and their judgement (R34, R160, R172, R190, R204). -/
def latchField (s : State) (c : Image) (o : FrameObs) : State :=
  let hold := fun (flag : Bool) (feed trip : Nat) => flag && feed < trip
  let banks := s.fld.banks.zipIdx.map (fun p =>
    let k := p.1
    let fa := o.feedA.getD p.2 0
    let fb := o.feedB.getD p.2 0
    let cur := o.bankCur.getD p.2 0
    { k with feedA := fa, feedB := fb, cur := cur, expA := hold k.expA fa (bankParOf (seqCfg s .a) p.2).1, expB := hold k.expB fb (bankParOf (seqCfg s .b) p.2).1,
             ocA := k.ocA && 4000 < cur, ocB := k.ocB && 4000 < cur })
  let outs := s.fld.outs.zipIdx.map (fun p => { p.1 with
    cur := if isOut c p.2 then o.chCur.getD p.2 0 else 0, limit := o.limit.getLsbD p.2, mid := o.mid.getLsbD p.2,
    rbA := o.rbA.getLsbD p.2, rbB := o.rbB.getLsbD p.2 })
  let ins := s.fld.ins.zipIdx.map (fun p =>
    let mon := chanUse c p.2 == 2
    { p.1 with band := if mon then (seqAt s .a p.2).band else 0, curA := if mon then (seqAt s .a p.2).cur else 0,
               curB := if mon then (seqAt s .b p.2).cur else 0 })
  let srcs := s.fld.srcs.zipIdx.map (fun p => { p.1 with cur := o.srcCur.getD p.2 0 })
  let old := s.fld.banks
  let s := { s with fld := { s.fld with banks := banks, outs := outs, ins := ins, insPrev := ins, srcs := srcs } }
  let s := latchLink (latchLink s .a o.rbA o.feedA) .b o.rbB o.feedB
  let missed := fun (l : Lane) => (linkAt s l).st != .up
  let banks := s.fld.banks.zipIdx.map (fun p => { p.1 with
    feedA := if missed .a then (old.getD p.2 BankSt.reset).feedA else p.1.feedA,
    feedB := if missed .b then (old.getD p.2 BankSt.reset).feedB else p.1.feedB })
  showField (judgeField { s with fld := { s.fld with banks := banks, banksPrev := banks } } c true) c

end Sys2Proof.Machine
end

