-- ==== Sys2Proof/Machine/Modes.lean ====
section
/-! DEFINITION. System-wide mode changes (R304 to R311). -/
namespace Sys2Proof.Machine

/-- Epoch a is newer than epoch b (R305). -/
def newerEpoch (a b : BitVec 16) : Bool := let d := (a - b).toNat; 1 ≤ d && d ≤ 32767

/-- The highest epoch seen announced, cancelled ones included (R306). -/
def seeEpoch (s : State) (e : BitVec 16) : State :=
  if newerEpoch e s.mode.highest then { s with mode := { s.mode with highest := e } } else s

/-- MODE_ANN's fields (R307). -/
def parseAnn (m : Bytes) : ModeAnn :=
  { epoch := BitVec.ofNat 16 (beAt m 1 2), new := byteAt m 3, old := byteAt m 4, sec := beAt m 5 6, ns := beAt m 11 4, orig := beAt m 15 2 }

/-- MODE_ANN's payload. -/
def annBytes (a : ModeAnn) : Bytes :=
  [0x10] ++ beBytes 2 a.epoch.toNat ++ beBytes 1 a.new ++ beBytes 1 a.old ++ beBytes 6 a.sec ++ beBytes 4 a.ns ++ beBytes 2 a.orig ++ zeros 31

/-- A mode event (R311, R442). -/
def raiseMode (s : State) (src : Nat) (a : ModeAnn) : State := raise s src a.epoch.toNat a.new a.orig

/-- A tree neighbour's message. -/
def fromNbr (s : State) (node : Nat) : Bool := (s.cfg.map (fun c => (treeNbrs c c.own).contains node)).getD false

/-- The change of an epoch has been cancelled here. -/
def isCut (s : State) (e : BitVec 16) : Bool := s.mode.cancels.any (fun x => x.epoch == e)

/-- The announcement of an epoch that the node holds. -/
def heldAnn (s : State) (e : BitVec 16) : Option ModeAnn :=
  (s.mode.pending.map (fun x => x.ann) ++ s.mode.arrived).find? (fun a => a.epoch == e)

/-- MODE_ANN: an announcement with a newer epoch waits for the next latch (R308). A cancelled epoch is never used again. -/
def modeAnnEffect (node : Nat) (m : Bytes) (s : State) : State :=
  let a := parseAnn m
  if byteAt m 0 != 0x10 || !fromNbr s node || !newerEpoch a.epoch s.mode.epoch || isCut s a.epoch || s.mode.arrived.contains a then s
  else seeEpoch { s with mode := { s.mode with arrived := s.mode.arrived ++ [a] } } a.epoch

/-- A change is dropped and its cancel forwarded (R308); `ann` its announcement, if the node has held it. -/
def dropChange (s : State) (e : BitVec 16) (ann : Option ModeAnn) : State :=
  { s with mode := { s.mode with
      cancels := s.mode.cancels ++ [⟨e, ann⟩],
      pending := s.mode.pending.filter (fun x => x.ann.epoch != e), arrived := s.mode.arrived.filter (fun a => a.epoch != e) } }

/-- MODE_CANCEL (R308). -/
def modeCancelEffect (node : Nat) (m : Bytes) (s : State) : State :=
  let e := BitVec.ofNat 16 (beAt m 1 2)
  if byteAt m 0 != 0x12 || !fromNbr s node || isCut s e then s
  else
    let a := heldAnn s e
    raiseMode (dropChange (seeEpoch s e) e a) 176 (a.getD ⟨e, s.mode.applied, 0, 0, 0, node⟩)

/-- MODE_STATE: what a tree neighbour reports (R307). -/
def modeStateEffect (node : Nat) (m : Bytes) (s : State) : State :=
  if byteAt m 0 != 0x11 || !fromNbr s node then s
  else
    let e := (node, nbit (byteAt m 4) 0, byteAt m 3, BitVec.ofNat 16 (beAt m 1 2))
    seeEpoch { s with mode := { s.mode with nbrs := e :: s.mode.nbrs.filter (fun x => x.1 != node) } } (BitVec.ofNat 16 (beAt m 5 2))

/-- The decision at the latch that takes an announcement (R308); a repetition of a pending one (R307) is none to take.
DEDUCED (log 71): R309 lets SYNC_OK fall between the taking and A without a cancel. -/
def judgeAnn (s : State) (a : ModeAnn) : State :=
  if s.mode.pending.any (fun x => x.ann == a) || isCut s a.epoch then s
  else if !s.net.syncOk then raiseMode (dropChange s a.epoch (some a)) 177 a
  else if s.mode.pending.any (fun x => x.ann.epoch == a.epoch) then raiseMode (dropChange s a.epoch (some a)) 176 a
  else raiseMode { s with mode := { s.mode with pending := s.mode.pending ++ [⟨a, false⟩] } } 174 a

/-- A pending change at a latch at or after its activation instant: applied with SYNC_OK, late without (R309). Others that are no newer than
it are no longer pending (log 124). -/
def applyOne (s : State) (x : ModePend) : State :=
  let a := x.ann
  if !s.mode.pending.contains x then s
  else if s.net.syncOk then
    raiseMode { s with mode := { s.mode with
      applied := a.new, prevEpoch := s.mode.epoch, epoch := a.epoch, window := some a,
      pending := s.mode.pending.filter (fun y => newerEpoch y.ann.epoch a.epoch) } } 175 a
  else if x.late then s
  else raiseMode { s with mode := { s.mode with pending := s.mode.pending.map (fun y => if y == x then { y with late := true } else y) } } 178 a

/-- The pending changes whose activation instant PT has reached at this latch (R309). -/
def applyDue (s : State) : State := (s.mode.pending.filter (fun x => decide (x.ann.instant ≤ ptNow s))).foldl applyOne s

/-- The modes at a latch, judged with the PT and SYNC_OK of that latch (R308, R309). -/
def modeLatch (s : State) : State :=
  applyDue (s.mode.arrived.foldl judgeAnn { s with mode := { s.mode with arrived := [] } })

/-- A transition window is open for a consumed DATA connection, for MODESEL (R97, R310). -/
def windowNow (s : State) : Bool := s.ksl.cons.any (fun x => x.conn.type == 1 && windowOpen s x.conn.te)

/-- MODE_WINDOW_END: PT has passed A + 2·TE of every consumed DATA connection (R310). -/
def modeWindowEndEffect (s : State) : State := if windowNow s then s else { s with mode := { s.mode with window := none } }

/-- Entry into RUN: a running tree neighbour's mode and epoch are adopted (R305). -/
def adoptMode (s : State) : State := match s.mode.nbrs.find? (fun x => x.2.1) with
  | some x => { s with mode := { s.mode with applied := x.2.2.1, prevEpoch := s.mode.epoch, epoch := x.2.2.2 } }
  | none => s

/-- MODE_ANN. -/
def execModeAnn (node : Nat) (m : Bytes) (s : State) : Host.Outcome State Fault Refusal := finish s (modeAnnEffect node m s)
/-- MODE_CANCEL. -/
def execModeCancel (node : Nat) (m : Bytes) (s : State) : Host.Outcome State Fault Refusal := finish s (modeCancelEffect node m s)
/-- MODE_STATE. -/
def execModeState (node : Nat) (m : Bytes) (s : State) : Host.Outcome State Fault Refusal := finish s (modeStateEffect node m s)
/-- MODE_APPLY: a latch at which PT is at or above A. -/
def execModeApply (s : State) : Host.Outcome State Fault Refusal := finish s (applyDue s)
/-- MODE_WINDOW_END. -/
def execModeWindowEnd (s : State) : Host.Outcome State Fault Refusal := finish s (modeWindowEndEffect s)

end Sys2Proof.Machine
end

