-- ==== Sys2Proof/Machine/Cuttings.lean ====
section
/-! DEFINITION. Cuttings and the spade (R291 to R302): mirror sets, claim and takeover at a latch, fencing, holder frames, and the owners
of output channels. -/
namespace Sys2Proof.Machine

/-- T_F of a node in ticks. -/
def nodeTf (s : State) (node : Nat) : Nat := ((s.cfg.bind (fun c => nodeOf c node)).map (fun r => r.tf * 1000)).getD 0

/-- L of R271. -/
def leaseL (s : State) : Nat := (s.cfg.map (fun c => c.domain.leaseL)).getD 4

/-- Places of the cutting set among a function's committed words, in order (R291). -/
def cutPlaces (r : FnRec) : List Nat :=
  [0, 1] ++ r.blocks.zipIdx.flatMap (fun p => (cutWords p.1.type).map (fun i => (blockOffsets r).getD p.2 2 + i))

/-- The spade holder's node and the other one (R291). -/
def cutNodes (s : State) (fid : Nat) : Nat × Nat := match planFn s fid with
  | some p => (p.host, p.standby.getD p.host)
  | none => (0, 0)

/-- Change the cutting of a function. -/
def modCut (s : State) (fid : Nat) (g : CutSt → CutSt) : State :=
  { s with cuts := { s.cuts with cuts := s.cuts.cuts.map (fun x => if x.fid == fid then g x else x) } }

/-- The smallest epoch of a parity above the known one (R296). -/
def nextEpoch (known : BitVec 32) (odd : Bool) : BitVec 32 := if (known.getLsbD 0) == odd then known + 2 else known + 1

/-- A lease event (R303, R442). -/
def raiseLease (s : State) (src fid : Nat) : State := raise s src fid (knownEpoch s fid).toNat 0

/-- A function starts from start-up values (R67). -/
def restartFn (s : State) (c : Image) (f : FnSt) (status : Val) : FnSt :=
  let st := startWords (fnRecOf c f) status (ctxMode s.mode.applied s.mode.epoch.toNat)
  { f with status := status, memA := st, memB := laneWords .b st, hist := [], evals := [], replay := [], drop := none,
           snapA := st, snapB := laneWords .b st,
           gates := (soutLocs (fnRecOf c f)).map (fun l => (l, false, false)) }

/-- The module is in bench mode, in which it never holds a spade and its commits reach no gate (R403). -/
def inBench (s : State) : Bool := s.lcy.dbg == .bench

/-- MIRROR connections of a function consumed here, with their latches. -/
def mirrorCons (s : State) (fid : Nat) : List ConsSt := s.ksl.cons.filter (fun x => x.conn.type == 2 && x.conn.fid == fid)

/-- HOLD of a MIRROR frame (R293). -/
def mirrorHold (f : KFrame) : Bool := nbit (byteAt f.payload 6) 0

/-- The lease of the holder of a function in ticks: L frames of the sender and two of the receiver (R297, R298). -/
def leaseTicks (s : State) (sender receiver : Nat) : Nat := leaseL s * nodeTf s sender + 2 * nodeTf s receiver

/-- The host claims the spade: the function starts from start-up values (R297). -/
def claimSpade (s : State) (c : Image) (n : Nat) (x : CutSt) : State :=
  let known := knownEpoch s x.fid
  let e := nextEpoch known true
  let s := learnEpoch s x.fid e
  let s := if known.getLsbD 0 then s else raiseLease s 169 x.fid
  let s := modCut s x.fid (fun y => { y with holder := true, epoch := e, since := n, takeover := false, silent := false })
  { s with fns := s.fns.map (fun f => if f.fid == x.fid && !f.standby then restartFn s c f 0 else f) }

/-- The host's conditions for a claim at a latch (R297). A lease return that has never come is silent since the cutting was set up. -/
def mayClaim (s : State) (x : CutSt) : Bool :=
  let p := cutNodes s x.fid
  let lim := leaseTicks s p.2 p.1
  s.lan.inRun && x.host && !x.holder && !inBench s
    && (mirrorCons s x.fid).any (fun k => match k.latched with
      | some f => !mirrorHold f || lim < k.age
      | none => decide (lim < (s.tb - x.setUp).toNat))

/-- The words of a mirror set as a lane holds them, in lane A form. -/
def MirrorSet.words (l : Lane) (m : MirrorSet) : List W72 := laneWords l (match l with
  | .a => m.wordsA
  | .b => m.wordsB)

/-- The status with which the standby takes a function over (R299). -/
def takeoverStatus (m : MirrorSet) : Val := mkStatus 0 0 (stMm (wval ((m.words .a).getD 0 0))) (if m.locked then 3 else 0)

/-- A lane's words on the standby after a takeover, in lane A form: start-up values with the stored set in their places, and the status of
R299. -/
def takeoverWords (s : State) (c : Image) (f : FnSt) (m : MirrorSet) (l : Lane) : List W72 :=
  let r := fnRecOf c f
  let md := ctxMode s.mode.applied s.mode.epoch.toNat
  let base := startWords r (takeoverStatus m) md
  let ws := ((cutPlaces r).zip (m.words l)).foldl (fun l p => l.set p.1 p.2) base
  (ws.set 0 (validWord (takeoverStatus m))).set 1 (validWord md)

/-- The standby takes the spade at latch F(n) (R298, R299). -/
def takeSpade (s : State) (c : Image) (n : Nat) (x : CutSt) : State := match x.set with
  | none => s
  | some m =>
    let e := nextEpoch (knownEpoch s x.fid) false
    let stale := (x.newestEval.map (fun v => v != m.eval)).getD false
    let s := learnEpoch s x.fid e
    let s := raiseLease s 168 x.fid
    let s := if stale then raiseLease s 171 x.fid else s
    let s := modCut s x.fid (fun y => { y with holder := true, epoch := e, since := n, takeover := true, silent := m.locked })
    { s with fns := s.fns.map (fun f =>
        if f.fid == x.fid && f.standby then
          let a := takeoverWords s c f m .a
          let b := laneWords .b (takeoverWords s c f m .b)
          { restartFn s c f 0 with status := takeoverStatus m, memA := a, memB := b, snapA := a, snapB := b }
        else f) }

/-- The standby's conditions at a latch (R298). -/
def mayTake (s : State) (x : CutSt) : Bool :=
  let p := cutNodes s x.fid
  let e := knownEpoch s x.fid
  let lim := leaseTicks s p.1 p.2
  s.lan.inRun && !x.host && !x.holder && !s.lan.markA && !s.lan.markB && !inBench s && e.getLsbD 0
    && (x.set.map (fun m => m.epoch == e)).getD false
    && (mirrorCons s x.fid).any (fun k => match k.latched with
      | some f => f.leaseEpoch == e && (!mirrorHold f || (mirrorCons s x.fid).all (fun j => decide (lim < j.age)))
      | none => false)

/-- EVAL a is newer than b (R295). -/
def newerEval (a b : BitVec 32) : Bool := let d := (a - b).toNat; 1 ≤ d && d < 2 ^ 31

/-- The set that complete fragments form (R295). -/
def formedSet (fs : List KFrame) (nfrag words : Nat) : Option MirrorSet := match fs with
  | [] => none
  | f :: _ =>
    let ev := BitVec.ofNat 32 (beAt f.payload 0 4)
    let same := fs.all (fun g => BitVec.ofNat 32 (beAt g.payload 0 4) == ev && g.leaseEpoch == f.leaseEpoch)
    let frag := fun i => fs.find? (fun g => byteAt g.payload 4 == i)
    if !same || !(List.range nfrag).all (fun i => (frag i).isSome) then none
    else
      let ws := (List.range words).map (fun j => match frag (j / 4) with
        | some g => wordAt g.payload (8 + 9 * (j % 4))
        | none => 0)
      some ⟨ev, f.leaseEpoch, fs.any (fun g => nbit (byteAt g.payload 6) 1), ws, laneWords .b ws⟩

/-- MIRROR_STORE: the standby stores a complete newer set, and records the newest EVAL seen (R295). -/
def storeMirror (s : State) (c : Image) (x : CutSt) : State :=
  if x.host then s
  else
    let fs := (mirrorCons s x.fid).filterMap (fun k => k.latched)
    let r := (c.fns.find? (fun r => r.fid == x.fid)).getD emptyFn
    let n := cutCount r
    let evs := fs.map (fun f => BitVec.ofNat 32 (beAt f.payload 0 4))
    let newest := evs.foldl (fun m e => match m with
      | none => some e
      | some y => if newerEval e y then some e else some y) x.newestEval
    let set := match formedSet fs ((n + 3) / 4) n with
      | none => x.set
      | some m => match x.set with
        | none => some m
        | some old => if newerEval m.eval old.eval then some m else some old
    modCut s x.fid (fun y => { y with newestEval := newest, set := set })

/-- A holder that has seen a higher epoch is fenced (R301). -/
def fenceOut (s : State) (x : CutSt) : State :=
  if x.holder && x.epoch.toNat < (knownEpoch s x.fid).toNat then
    raiseLease (modCut s x.fid (fun y => { y with holder := false, takeover := false })) 170 x.fid
  else s

/-- The standby sees the holder's agreed age above L·T_Fh/2 (R303). -/
def leaseOld (s : State) (x : CutSt) : Bool :=
  !x.host && !x.holder && !(mirrorCons s x.fid).isEmpty
    && (mirrorCons s x.fid).all (fun k => k.latched.isSome && decide (leaseL s * nodeTf s (cutNodes s x.fid).1 / 2 < k.age))

/-- LEASE_LATE at a latch, once until the age falls (R303). -/
def leaseWarn (s : State) (x : CutSt) : State :=
  let late := leaseOld s x
  let s' := modCut s x.fid (fun y => { y with lateWarned := late })
  if late && !x.lateWarned then raiseLease s' 173 x.fid else s'

/-- The cuttings at latch F(n): mirror store, fencing, claim, takeover and warning (R295 to R299, R301, R303). -/
def cutLatch (s : State) (n : Nat) : State := match s.cfg with
  | none => s
  | some c => s.cuts.cuts.foldl (fun t x =>
      let t := storeMirror t c x
      let t := match cutOf t x.fid with
        | some y => fenceOut t y
        | none => t
      match cutOf t x.fid with
      | none => t
      | some y =>
        let t := leaseWarn t y
        if mayClaim t y then claimSpade t c n y else if mayTake t y then takeSpade t c n y else t) s

/-- A holder frame (R301): of the node whose parity the epoch has, with a word whose qualifier is not 0x00. -/
def holderFrame (s : State) (fid prod : Nat) (epoch : BitVec 32) (ws : List W72) : Bool :=
  let p := cutNodes s fid
  (if epoch.getLsbD 0 then prod == p.1 else prod == p.2) && ws.any (fun w => wqual w != 0)

/-- The connection that a KRECV bound to (fid, blk) reads from this latch on (R250, R301). -/
def pickConn (s : State) (p : PickSt) : PickSt :=
  let cs := s.ksl.cons.filter (fun x => x.conn.type == 1 && x.conn.sub == 0 && x.conn.fid == p.fid && x.conn.blk == p.blk)
  let best := cs.foldl (fun (b : Option (Nat × Nat)) x => match x.latched with
    | some f =>
      if holderFrame s p.fid x.conn.prod f.leaseEpoch (frameWords f) && (match b with
        | some y => decide (y.2 < f.leaseEpoch.toNat)
        | none => true) then some (x.conn.id, f.leaseEpoch.toNat) else b
    | none => b) none
  match best with
  | some b => { p with conn := some b.1 }
  | none => p

/-- Every KRECV's choice at a latch. -/
def pickLatch (s : State) : State := { s with cuts := { s.cuts with picks := s.cuts.picks.map (pickConn s) } }

/-- The channels here that the SOUT of a function at local index loc drives, with their words. -/
def ownerChans (c : Image) (fid loc : Nat) : List Nat := match c.fns.find? (fun r => r.fid == fid) with
  | some r => locChans c r loc
  | none => []

/-- All channels here of a function. -/
def fnChans (c : Image) (fid : Nat) : List Nat := match c.fns.find? (fun r => r.fid == fid) with
  | some r => (soutLocs r).flatMap (locChans c r)
  | none => []

/-- Change the owner record of a function. -/
def modOwn (s : State) (fid : Nat) (g : OwnSt → OwnSt) : State :=
  { s with cuts := { s.cuts with owns := s.cuts.owns.map (fun o => if o.fid == fid then g o else o) } }

/-- SOUT.Q words (channels and words) applied in one lane (R302): a barred channel, and one whose word carries TRANS or FALLOW, never rises. -/
def applyLane (ws : List (List Nat × W72)) (x : OwnLane) : OwnLane :=
  ws.foldl (fun x p => p.1.foldl (fun (x : OwnLane) ch =>
    if wval p.2 != 1 then ⟨x.on.filter (fun y => y != ch), x.barred.filter (fun y => y != ch)⟩
    else if x.on.contains ch || x.barred.contains ch || carries p.2 (qTrans ||| qFallow) then x
    else { x with on := ch :: x.on }) x) x

/-- The channel is applied on: in both lanes. -/
def OwnSt.isOn (o : OwnSt) (ch : Nat) : Bool := o.a.on.contains ch && o.b.on.contains ch

/-- An owner applies the words of a holder frame, each lane its own (R302). The first one of an epoch bars every channel that is off. -/
def ownerApply (o : OwnSt) (chans : List Nat) (epoch : BitVec 32) (stamp : BitVec 64) (ws : Lane → List (List Nat × W72)) : OwnSt :=
  let off := chans.filter (fun ch => !o.isOn ch)
  let bar := fun (x : OwnLane) => if !o.seen || o.epoch != epoch then { x with barred := off } else x
  { o with epoch := epoch, stamp := bvMax o.stamp stamp, seen := true, expired := false,
           a := applyLane (ws .a) (bar o.a), b := applyLane (ws .b) (bar o.b) }

/-- H of R302 in ticks: TE of the host's output forward to this owner, and G (R300). -/
def holdTime (s : State) (c : Image) (fid : Nat) : Nat :=
  let p := cutNodes s fid
  let te := match s.plt.plan.bind (fun q => q.conns.find? (fun k => k.type == 1 && k.sub == 2 && k.fid == fid && k.prod == p.1 && k.cons == c.own)) with
    | some k => k.te * 100
    | none => 2 ^ ((planFn s fid).map (fun f => f.klog)).getD 0 * nodeTf s p.1
  te + leaseL s * nodeTf s p.1 + 4 * nodeTf s p.2 + 100 * tnOf c p.1 p.2

/-- H has passed: every channel is committed off and barred (R302). -/
def ownerExpire (s : State) (c : Image) (fid : Nat) : State :=
  let off : OwnLane := ⟨[], fnChans c fid⟩
  raiseLease (modOwn s fid (fun o => { o with expired := true, a := off, b := off })) 172 fid

/-- The output forwards of a function consumed here, with what the frame's latch took of each (R279). -/
def forwardFrames (s : State) (img : FrameImg) (fid : Nat) : List (PlanConn × FwdLatch) :=
  img.fwds.filterMap (fun w => ((s.ksl.cons.find? (fun x => x.conn.id == w.conn)).map (fun x => x.conn)).bind (fun k =>
    if k.fid == fid then some (k, w) else none))

/-- Words of an output forward as a lane latched them, with the channels here that they drive. -/
def forwardOuts (c : Image) (img : FrameImg) (k : PlanConn) (l : Lane) : List (List Nat × W72) :=
  let v := connView (img.of l) k.id
  (k.sig.zip v.words).map (fun p => (ownerChans c k.fid p.1,
    mkWord (wval p.2) (wqual p.2 ||| (if v.window then qTrans else 0) ||| (if v.fallow then qFallow else 0))))

/-- An owner of channels of a function with a cutting, at C(n) (R302): the holder frames of its known epoch, as the latch of frame n took
them, held for H. -/
def ownerHold (s : State) (c : Image) (img : FrameImg) (o : OwnSt) : State :=
  let e := knownEpoch s o.fid
  let h := holdTime s c o.fid
  let use := (forwardFrames s img o.fid).filter (fun p =>
    p.2.epoch == e && decide ((s.tb - p.2.stamp).toNat ≤ h) && holderFrame s o.fid p.1.prod p.2.epoch (connView (img.of .a) p.1.id).words)
  let s1 := use.foldl (fun t p => modOwn t o.fid (fun x => ownerApply x (fnChans c o.fid) e p.2.stamp (forwardOuts c img p.1))) s
  match s1.cuts.owns.find? (fun x => x.fid == o.fid) with
  | some x => if x.seen && !x.expired && h < (s1.tb - x.stamp).toNat then ownerExpire s1 c o.fid else s1
  | none => s1

/-- An owner of channels of a function without a cutting, at C(n) (R279): the words of connections in RUN and in time, as the latch of frame
n took them; other channels off. -/
def ownerFollow (s : State) (c : Image) (img : FrameImg) (o : OwnSt) : State :=
  let good := fun (k : PlanConn) => let v := connView (img.of .a) k.id; v.run && decide (v.age ≤ k.te * 100)
  let on := fun (l : Lane) =>
    let outs := (forwardFrames s img o.fid).flatMap (fun p => if good p.1 then forwardOuts c img p.1 l else [])
    (fnChans c o.fid).filter (fun ch => outs.any (fun p => p.1.contains ch && wval p.2 == 1
      && (o.isOn ch || !carries p.2 (qTrans ||| qFallow))))
  modOwn s o.fid (fun x => { x with a := { x.a with on := on .a }, b := { x.b with on := on .b } })

/-- An owner at C(n) (R279, R302). -/
def ownerCommit (s : State) (c : Image) (img : FrameImg) (o : OwnSt) : State :=
  if hasCutting s o.fid then ownerHold s c img o else ownerFollow s c img o

/-- TAKEOVER: the standby takes the spade if the latest latch gives it to it (R298). -/
def takeoverEffect (fid : Nat) (s : State) : State := match s.cfg, cutOf s fid with
  | some c, some x => if mayTake s x then takeSpade s c s.lan.frame.toNat x else s
  | _, _ => s

/-- RECLAIM: the host claims the spade if the latest latch gives it to it (R297). -/
def reclaimEffect (fid : Nat) (s : State) : State := match s.cfg, cutOf s fid with
  | some c, some x => if mayClaim s x then claimSpade s c s.lan.frame.toNat x else s
  | _, _ => s

/-- HOLD_EXPIRED: the newest holder frame is more than H old (R302); the channels go off with the next commit. -/
def holdExpiredEffect (fid : Nat) (s : State) : State := match s.cfg, s.cuts.owns.find? (fun o => o.fid == fid) with
  | some c, some o => if hasCutting s fid && o.seen && !o.expired && holdTime s c fid < (s.tb - o.stamp).toNat then ownerExpire s c fid else s
  | _, _ => s

/-- LEASE_LATE: the holder's agreed age is above half its lease (R303). -/
def leaseLateEffect (fid : Nat) (s : State) : State := match cutOf s fid with
  | some x => if !leaseOld s x then s else raiseLease (modCut s fid (fun y => { y with lateWarned := true })) 173 fid
  | none => s

/-- TAKEOVER. -/
def execTakeover (fid : Nat) (s : State) : Host.Outcome State Fault Refusal := finish s (takeoverEffect fid s)
/-- RECLAIM. -/
def execReclaim (fid : Nat) (s : State) : Host.Outcome State Fault Refusal := finish s (reclaimEffect fid s)
/-- HOLD_EXPIRED. -/
def execHoldExpired (fid : Nat) (s : State) : Host.Outcome State Fault Refusal := finish s (holdExpiredEffect fid s)
/-- LEASE_LATE. -/
def execLeaseLate (fid : Nat) (s : State) : Host.Outcome State Fault Refusal := finish s (leaseLateEffect fid s)

end Sys2Proof.Machine
end

