-- ==== Sys2Proof/Machine/Produce.lean ====
section
/-! DEFINITION. What the module sends at a C instant: DATA, forward, MIRROR, CONTROL and ECHO frames (R235, R236, R275, R279, R293,
R294, R299, R301, R307, R403). -/
namespace Sys2Proof.Machine

/-- SYS_IDREV (R4). -/
def sysIdrev (s : State) : Nat := 0x59 * 2 ^ 24 + 0x972 * 2 ^ 12 + s.sys.variant * 256 + s.sys.revMaj * 16 + s.sys.revMin

/-- Digest bytes from `off`, n of them. -/
def digestPart (d : BitVec 384) (off n : Nat) : Bytes := slice (beBytes 48 d.toNat) off n

/-- A CONTROL payload padded to 48 bytes. -/
def padControl (b : Bytes) : Bytes := b ++ zeros (48 - b.length)

/-- JOIN (R275). -/
def joinBytes (s : State) : Bytes := padControl ([0x01] ++ beBytes 8 s.fus.serial.toNat ++ beBytes 4 (sysIdrev s)
  ++ [BitVec.ofNat 8 s.plt.state.toNat] ++ beBytes 2 s.plt.level ++ digestPart s.plt.cfgDig 0 24)

/-- DIGEST_LO or DIGEST_HI (R275). -/
def digestMsg (s : State) (hi : Bool) : Bytes := padControl ([if hi then 0x03 else 0x02] ++ digestPart s.plt.planDig (if hi then 24 else 0) 24
  ++ beBytes 2 s.plt.level ++ [BitVec.ofNat 8 (b2n s.plt.accepted + 2 * b2n s.lan.inRun)])

/-- An ACCEPT fragment (R275). -/
def acceptFrag (r : Bytes) (i : Nat) : Bytes := padControl ([0x04, BitVec.ofNat 8 i] ++ slice r (40 * i) 40)

/-- MODE_STATE (R307). -/
def modeStateBytes (s : State) : Bytes := padControl ([0x11] ++ beBytes 2 s.mode.epoch.toNat ++ beBytes 1 s.mode.applied
  ++ [BitVec.ofNat 8 (b2n s.lan.inRun)] ++ beBytes 2 s.mode.highest.toNat)

/-- The rotation of messages toward a tree neighbour (R275, R307). There is no plan digest to send before a plan is computed (log 125). -/
def rotation (s : State) (n : NbrSt) : List Bytes :=
  joinBytes s :: (if s.plt.plan.isSome then [digestMsg s false, digestMsg s true] else [])
    ++ (match s.plt.accepted && !n.accepted, s.nv.accRec with
        | true, some r => (List.range 7).map (acceptFrag r)
        | _, _ => [])
    ++ [modeStateBytes s]

/-- A cancel is still forwarded: until A has passed, and by a node that has not held the announcement and so does not know A until a newer
epoch is announced (R307, log 70). -/
def cutPending (s : State) (x : ModeCut) : Bool := match x.ann with
  | some a => decide (ptNow s ≤ a.instant)
  | none => x.epoch == s.mode.highest

/-- The announcements and cancels that are inserted after every message of the rotation (R307). -/
def inserted (s : State) : List Bytes :=
  (s.mode.pending.filter (fun x => decide (ptNow s ≤ x.ann.instant))).map (fun x => annBytes x.ann)
    ++ (s.mode.cancels.filter (cutPending s)).map (fun x => padControl ([0x12] ++ beBytes 2 x.epoch.toNat))

/-- The payload of the next CONTROL frame to a neighbour. -/
def controlPayload (s : State) (n : NbrSt) : Bytes :=
  let base := rotation s n
  let all := base.flatMap (fun x => x :: inserted s)
  all.getD (n.rot % all.length) (zeros 48)

/-- The mode epoch applied in frame n (R232). -/
def epochAt (s : State) (n : Nat) : BitVec 16 := ((imgOf s n).map (fun i => BitVec.ofNat 16 i.epoch)).getD s.mode.epoch

/-- A CONTROL frame to the neighbour of a connection. -/
def releaseControl (s : State) (n : Nat) (p : ProdSt) : State := match s.plt.nbrs.find? (fun n => n.node == p.conn.cons) with
  | none => s
  | some b =>
    let pay := controlPayload s b
    let nbrs := s.plt.nbrs.map (fun x => if x.node == b.node then { x with rot := x.rot + 1 } else x)
    releaseFrame { s with plt := { s.plt with nbrs := nbrs } } p 0 (epochAt s n) pay pay false

/-- The function of a connection is in FALLOW here (R251). -/
def inFallow (s : State) (fid : Nat) : Bool := (fnHere s fid).any (fun f => stState f.status == 2)

/-- MIRROR frames: a fragment of the host, or the standby's lease return (R293, R294). -/
def releaseMirror (s : State) (n : Nat) (c : Image) (p : ProdSt) : State := match cutOf s p.conn.fid with
  | none => s
  | some x =>
    let r := (c.fns.find? (fun r => r.fid == x.fid)).getD emptyFn
    let nfrag := (cutCount r + 3) / 4
    if x.host then
      let mine := s.ksl.prod.filter (fun q => q.conn.type == 2 && q.conn.fid == x.fid)
      let i := mine.findIdx (fun q => q.conn.id == p.conn.id)
      let set := x.set.getD ⟨0, 0, false, [], []⟩
      let pay := fun (l : Lane) =>
        let ws := (List.range p.conn.nw).map (fun j => (set.words l).getD (4 * i + j) 0)
        padControl (beBytes 4 set.eval.toNat
          ++ [BitVec.ofNat 8 i, BitVec.ofNat 8 nfrag, BitVec.ofNat 8 (b2n x.holder + 2 * b2n set.locked), 0] ++ (ws.map wordBytes).flatten)
      releaseFrame s p p.conn.nw (epochAt s n) (pay .a) (pay .b) (inFallow s x.fid)
    else
      let pay := padControl (zeros 4 ++ [0xFF, BitVec.ofNat 8 nfrag, BitVec.ofNat 8 (b2n x.holder), 0])
      releaseFrame s p 0 (epochAt s n) pay pay (inFallow s x.fid)

/-- An input forward: the agreed words of the frame as a lane holds them (R279). -/
def forwardPayload (s : State) (c : Image) (img : LaneImg) (sig : List Nat) : Bytes :=
  payloadOf (sig.map (fun i => match c.signals[i]? with
    | some g => if g.kind == 2 then validWord (boolVal (img.chok.getD g.unit false)) else signalWord s c img i
    | none => faultWord 0))

/-- The words that a function's DATA or output-forward connection carries from a release: the W words of its KSEND, or SOUT.Q (R248, R279). -/
def connWords (c : Image) (f : FnSt) (p : PlanConn) (mem : List W72) : List W72 :=
  let r := fnRecOf c f
  let off := fun loc => (blockOffsets r).getD loc 2
  if p.sub == 0 then (List.range p.nw).map (fun i => mem.getD (off p.blk + i) 0) else p.sig.map (fun loc => mem.getD (off loc) 0)

/-- A function's words as released stand in its frames at C(n): released in this frame, or the fault content until the next
evaluation, in its due frames (R235, R236). A LOCKED set taken over has no evaluation, so no holder frame follows the takeover frames (R299). -/
def sendsNow (s : State) (f : FnSt) (n : Nat) : Bool :=
  let st := stState f.status
  match f.hist with
  | h :: _ => h.frame == n || (dueIn s f n true && !(cutOf s f.fid).any (fun x => x.silent) && (st == 3 || (st == 0 && f.drop == some n)))
  | [] => false

/-- A lane's content of a function's frame at C(n), if it releases one: takeover frames on output forwards alone, zero words in HOLD and from
a non-holder, the words released in this frame, or the fault content that stands until the next evaluation (R235, R236, R299, R301). `run`:
frame n is one of RUN. -/
def fnFrame (s : State) (c : Image) (f : FnSt) (p : PlanConn) (n : Nat) (run : Bool) (l : Lane) : Option Bytes :=
  let words := f.hist.head?.map (fun h => payloadOf (connWords c f p (h.words l)))
  if (cutOf s f.fid).any (fun x => x.holder && x.takeover) then (if p.sub == 2 then words else none)
  else if !run then (if dueIn s f n false then some (zeros 48) else none)
  else if f.hist.head?.any (fun h => h.frame == n) then words
  else if !holds s f then some (zeros 48)
  else if sendsNow s f n then words else none

/-- One produced connection at C(n) (R235). In bench mode only CONTROL and ECHO frames leave (R403). -/
def releaseConn (n : Nat) (run : Bool) (img : Option FrameImg) (c : Image) (s : State) (p : ProdSt) : State :=
  match p.conn.type with
  | 3 => releaseControl s n p
  | 4 => releaseFrame s p 0 (epochAt s n) (zeros 48) (zeros 48) false
  | 2 => if inBench s then s else releaseMirror s n c p
  | _ =>
    if inBench s then s
    else if p.conn.sub == 1 then
      let pay := fun (l : Lane) => match run, img with
        | true, some i => forwardPayload s c (i.of l) p.conn.sig
        | _, _ => zeros 48
      releaseFrame s p p.conn.nw (epochAt s n) (pay .a) (pay .b) false
    else match s.fns.find? (fun f => f.fid == p.conn.fid) with
      | none => s
      | some f => match fnFrame s c f p.conn n run .a, fnFrame s c f p.conn n run .b with
        | some a, some b => releaseFrame s p p.conn.nw (epochAt s n) a b (run && stState f.status == 2)
        | _, _ => s

/-- Every frame that is due at C(n), in ascending connection index; the takeover frames are then sent (R235, R299). `run`: frame n is one of
RUN. -/
def releaseKsl (s : State) (n : Nat) (run : Bool) : State := match s.cfg with
  | none => s
  | some c =>
    let s := s.ksl.prod.foldl (releaseConn n run (imgOf s n) c) s
    if s.lan.inRun then { s with cuts := { s.cuts with cuts := s.cuts.cuts.map (fun x => { x with takeover := false }) } } else s

end Sys2Proof.Machine
end

