-- ==== Sys2Proof/Machine/Host.lean ====
section
/-! DEFINITION. The host island (R313 to R343): doorbells, command fetch and completion, rings and their set-up, requests, tunnel entries, the
process image, host power and resets. -/
namespace Sys2Proof.Machine

/-- Change ring r. -/
def modRing (s : State) (r : Nat) (g : RingSt → RingSt) : State := { s with host := { s.host with rings := modAt s.host.rings r g } }

/-- Rings that the host fills: CMDH, CMDN, TUNRX, REQ (R315). -/
def hostRing (r : Nat) : Bool := r == 0 || r == 1 || r == 5 || r == 6

/-- DOORBELL: a new P or C is taken if the counts allow it (R318). -/
def doorbellEffect (r : Nat) (v : BitVec 32) (s : State) : State :=
  if 7 ≤ r then s
  else
    let g := ringAt s r
    let ok := if hostRing r then decide ((v - g.c).toNat ≤ g.size) && decide ((v - g.p).toNat ≤ g.size)
      else decide ((v - g.c).toNat ≤ (g.p - g.c).toNat)
    if ringOn s r && ok then modRing s r (fun g => if hostRing r then { g with p := v } else { g with c := v }) else hstErr s 2

/-- Outstanding commands hold a CPL slot each (R322). -/
def cplRoom (s : State) : Bool := ringFill s 2 + s.host.outst.length < (ringAt s 2).size

/-- May the arbiter fetch from ring r (R322)? CMDH goes first. -/
def mayFetch (s : State) (r : Nat) : Bool :=
  s.sys.answers && dmaOk s && ringOn s 2 && cplRoom s && s.host.outst.length < 16
    && ringOn s r && ringFill s r != 0 && (r == 0 || (r == 1 && !(ringOn s 0 && ringFill s 0 != 0)))

/-- A field of a command entry. -/
def Outst.op (o : Outst) : Nat := byteAt o.entry 0
/-- FLAGS of a command entry. -/
def Outst.flags (o : Outst) : Nat := byteAt o.entry 1
/-- ADDR of a command entry. -/
def Outst.addr (o : Outst) : Nat := leAt o.entry 8 8
/-- LEN of a command entry. -/
def Outst.len (o : Outst) : Nat := leAt o.entry 0x10 4

/-- A completion entry (R320). -/
def completionBytes (o : Outst) (status : Nat) (rej : Nat × Nat) (outlen : Nat) (result : Bytes) : Bytes :=
  [BitVec.ofNat 8 o.op, BitVec.ofNat 8 o.ring] ++ bytesOf o.tag 2 ++ leBytes 2 status ++ [BitVec.ofNat 8 rej.1, 0] ++ leBytes 4 rej.2
    ++ leBytes 4 outlen ++ (result ++ zeros 16).take 16

/-- The first of a list of commands that is the named one, marked ended. -/
def markEnded (p : Outst → Bool) : List Outst → List Outst
  | [] => []
  | o :: r => if p o then { o with ended := true, waiting := false } :: r else o :: markEnded p r

/-- Is x the command o, still running? -/
def sameCmd (o x : Outst) : Bool := x.ring == o.ring && x.tag == o.tag && !x.ended && x.entry == o.entry

/-- FUS_LAST holds the status and ITEM of the last fuse or lifecycle command (R394). -/
def noteFusLast (s : State) (op status item : Nat) : State :=
  if 0x0D ≤ op && op ≤ 0x0F then { s with fus := { s.fus with lastStatus := BitVec.ofNat 16 status, lastWord := BitVec.ofNat 9 item } } else s

/-- A command ends: its completion waits to be written, in the order in which commands end (R322). -/
def endAt (past : Bool) (s : State) (o : Outst) (status : Nat) (rej : Nat × Nat) (outlen : Nat) (result : Bytes) : State :=
  let s := noteFusLast s o.op status rej.2
  { s with host := { s.host with
    outst := markEnded (sameCmd o) s.host.outst,
    done := s.host.done ++ [⟨o.ring, o.tag, completionBytes o status rej outlen result, past⟩] } }

/-- A command ends at its commit point, with OK or as an ABORT with its outcome, or at the refusal or failure that stops it before (R322,
R323). -/
def endCmd (s : State) (o : Outst) (status : Nat) (rej : Nat × Nat) (outlen : Nat) (result : Bytes) : State :=
  endAt (status == 0 || status == 2 || status == 3) s o status rej outlen result

/-- A command ends past its commit point, whatever its status (R383). -/
def endPast (s : State) (o : Outst) (status : Nat) (rej : Nat × Nat) (outlen : Nat) (result : Bytes) : State :=
  endAt true s o status rej outlen result

/-- A command ends with a status alone. -/
def endWith (s : State) (o : Outst) (status : Nat) : State := endCmd s o status (0, 0) 0 []

/-- Opcodes of the Hedge commands (R322). -/
def hedgeOp (op : Nat) : Bool := op == 1 || op == 2 || op == 3 || op == 5 || (0x0C ≤ op && op ≤ 0x10)

/-- The read of a ring entry has failed: HST_ERR.DMA, and the ring is disabled (R343). -/
def dmaFailed (s : State) (r : Nat) : State := hstErr { s with host := { s.host with ringEn := clearBit s.host.ringEn r } } 6

/-- COMMAND_FETCH: the entry becomes an outstanding command; the ring's C advances. A tag in use on the same ring ends the command at
its fetch, but for a Hedge command, which is judged at its turn (R317, R321, R322). An entry of fewer bytes is a read that failed. -/
def commandFetchEffect (r : Nat) (entry : Bytes) (s : State) : State :=
  if !mayFetch s r then s
  else if entry.length < 64 then dmaFailed s r
  else
    let e := entry.take 64
    let o : Outst := ⟨r, BitVec.ofNat 16 (leAt e 2 2), e, false, false⟩
    let busy := s.host.outst.any (fun x => x.ring == r && x.tag == o.tag)
    let s := writeStatus (modRing s r (fun g => { g with c := g.c + 1 })) r
    let s := { s with host := { s.host with outst := s.host.outst ++ [o] } }
    if busy && !hedgeOp o.op then
      { s with host := { s.host with
        outst := s.host.outst.dropLast ++ [{ o with ended := true }],
        done := s.host.done ++ [⟨r, o.tag, completionBytes o 0x000A (0, 0) 0 [], false⟩] } }
    else s

/-- Take the first ended command with the ring and tag out of a list. -/
def dropEnded (r : Nat) (t : BitVec 16) : List Outst → List Outst
  | [] => []
  | o :: l => if o.ended && o.ring == r && o.tag == t then l else o :: dropEnded r t l

/-- One waiting completion is written into CPL (R317, R322). -/
def writeCompletion (s : State) : State := match s.host.done with
  | [] => s
  | c :: rest =>
    let s := { s with host := { s.host with
      done := rest, outst := dropEnded c.ring c.tag s.host.outst, seen := (c.ring, c.tag) :: s.host.seen.filter (fun x => x != (c.ring, c.tag)) } }
    notify (writeStatus (putEntry s 2 c.entry) 2) 184

/-- COMPLETION_WRITE: with DMA running (R322, R341). -/
def completionWriteEffect (s : State) : State := if dmaOk s && ringOn s 2 then writeCompletion s else s

/-- EVT_SUMMARY_WRITE (R329). -/
def evtSummaryWriteEffect (s : State) : State := writeSummaries s

/-- The module's own count of ring r: P of a module-produced ring, C of a host-produced one (R317). -/
def ownCount (s : State) (r : Nat) : BitVec 32 := if hostRing r then (ringAt s r).c else (ringAt s r).p

/-- The whole status block is written: the counts of the seven rings, and 0 in bytes 0x1C to 0x3F (R317). -/
def writeStatusBlock (s : State) : State :=
  if dmaOk s then post s (.statusBlock s.host.sb.toNat ((List.range 7).flatMap (fun r => bytesOf (ownCount s r) 4) ++ zeros 36)) else s

/-- RING_ENABLE: both counts become 0, as the status block then shows; with the EVT ring, held events are summarised (R316, R317, R329). -/
def ringEnableEffect (r : Nat) (s : State) : State :=
  if 7 ≤ r || ringOn s r then s
  else
    let s := { s with host := { s.host with ringEn := setBit s.host.ringEn r } }
    let s := writeStatusBlock (modRing s r (fun g => { g with p := 0, c := 0 }))
    if r == 3 then writeSummaries s else s

/-- RING_DISABLE: refused for CMDH, CMDN and CPL while a command is outstanding (R316). -/
def ringDisableEffect (r : Nat) (s : State) : State :=
  if 7 ≤ r || !ringOn s r then s
  else if r ≤ 2 && !s.host.outst.isEmpty then hstErr s 4
  else { s with host := { s.host with ringEn := clearBit s.host.ringEn r } }

/-- PI_EN: the first update after it is set is update 1 (R332); HST_PI_GEN goes on showing the last GEN_B (R344). -/
def piEnEffect (v : Bool) (s : State) : State :=
  { s with host := { s.host with piEn := v, piCnt := if v && !s.host.piEn then 0 else s.host.piCnt } }

/-- A 64-bit register with its low or high half replaced. -/
def setHalf (x : BitVec 64) (hi : Bool) (v : BitVec 32) : BitVec 64 :=
  if hi then v ++ x.setWidth 32 else (x >>> 32).setWidth 32 ++ v

/-- Largest size of a ring (R315). -/
def ringMax (r : Nat) : Nat := if r == 3 then 65536 else 4096

/-- Is n a power of two within the limits of ring r? -/
def ringSizeOk (r n : Nat) : Bool := 16 ≤ n && n ≤ ringMax r && (n &&& (n - 1)) == 0

/-- A set-up write is taken, or ignored with an HST_ERR bit for each reason: `bad` names the bit of a value that does not fit, bit 3 says that the
unit is enabled (R316, R344). -/
def setupWrite (s : State) (bad : Option Nat) (enabled : Bool) (s' : State) : State :=
  if bad.isNone && !enabled then s'
  else
    let t := match bad with
      | some b => hstErr s b
      | none => s
    if enabled then hstErr t 3 else t

/-- RING_SETUP_WRITE: bases, sizes, HST_SB, HST_PI and HST_PI_CFG (R316, R343, R344); `off` is the offset in the HST page. -/
def ringSetupWriteEffect (off : Nat) (v : BitVec 32) (s : State) : State :=
  let align := fun (n : Nat) (low : Bool) => if low && v.toNat % n != 0 then some 1 else none
  let size := fun (ok : Bool) => if ok then none else some 0
  if off == 0x010 || off == 0x014 then
    setupWrite s (align 64 (off == 0x010)) (s.host.ringEn != 0) { s with host := { s.host with sb := setHalf s.host.sb (off == 0x014) v } }
  else if off == 0x018 || off == 0x01C then
    setupWrite s (align 4096 (off == 0x018)) s.host.piEn { s with host := { s.host with pi := setHalf s.host.pi (off == 0x01C) v } }
  else if off == 0x020 then
    let d := v.toNat % 128
    setupWrite s (size (1 ≤ d && d ≤ 64)) s.host.piEn { s with host := { s.host with div := BitVec.ofNat 7 d } }
  else if 0x040 ≤ off && off < 0x0B0 then
    let r := (off - 0x040) / 16
    let f := (off - 0x040) % 16
    let n := v.toNat % 2 ^ 17
    if 0xC ≤ f then s
    else if f == 8 then setupWrite s (size (ringSizeOk r n)) (ringOn s r) (modRing s r (fun g => { g with size := n }))
    else setupWrite s (align 64 (f == 0)) (ringOn s r) (modRing s r (fun g => { g with base := setHalf g.base (f == 4) v }))
  else s

/-- May an entry of a host-produced ring be consumed? -/
def mayConsume (s : State) (r : Nat) : Bool := dmaOk s && ringOn s r && ringFill s r != 0

/-- One entry of a host-produced ring is consumed: C, the status block, the notification (R317, R330). -/
def consume (s : State) (r : Nat) : State := notify (writeStatus (modRing s r (fun g => { g with c := g.c + 1 })) r) 187

/-- A REQ entry is discarded (R333). -/
def dropReq (s : State) : State := hstErr { s with host := { s.host with reqDrop := satAdd s.host.reqDrop 1 } } 5

/-- The own request slot's SIGNAL entry (R79, R333). -/
def reqSlot (s : State) (slot : Nat) : Option SignalRec :=
  s.cfg.bind (fun c => c.signals.find? (fun g => g.kind == 4 && g.node == c.own && g.unit == slot))

/-- The next entry of a host-produced ring is taken, if there is one and its read has not failed (R343). -/
def takeEntry (s : State) (r : Nat) (entry : Bytes) (body : State → State) : State :=
  if !mayConsume s r then s else if entry.length < entrySize r then dmaFailed s r else body s

/-- REQUEST: the newest value of its slot (R333, R334). -/
def requestEffect (entry : Bytes) (s : State) : State := takeEntry s 6 entry (fun s =>
  if byteAt entry 0 != 1 then s
  else
    let s := consume s 6
    let slot := byteAt entry 1
    let v := leAt entry 8 8
    match reqSlot s slot with
    | none => dropReq s
    | some g =>
      if g.type == 0 && 1 < v then dropReq s
      else { s with host := { s.host with slots := s.host.slots.set slot (some ⟨BitVec.ofNat 64 v, s.tb⟩) } })

/-- STDOUT: host states of standard outputs, in RUN (R333, R338). -/
def stdoutEffect (entry : Bytes) (s : State) : State := takeEntry s 6 entry (fun s =>
  if byteAt entry 0 != 2 then s
  else
    let s := consume s 6
    match s.cfg with
    | none => dropReq s
    | some c =>
      if !s.lan.inRun then dropReq s
      else
        let group := byteAt entry 1
        let mask := leAt entry 4 4
        let v := leAt entry 8 8
        let own := stdMask c
        let named := mask96 (fun ch => ch / 32 == group && nbit mask (ch % 32))
        let on := mask96 (fun ch => ch / 32 == group && nbit v (ch % 32))
        let set := named &&& own
        let stray := mask != 0 && (List.range 32).any (fun i => nbit mask i && !(own.getLsbD (32 * group + i) && group < 3))
        let s := { s with host := { s.host with std := (s.host.std &&& ~~~set) ||| (on &&& set) } }
        if stray then hstErr s 5 else s)

/-- REQ_UNASSIGNED_TYPE (R333). -/
def reqUnassignedTypeEffect (entry : Bytes) (s : State) : State := takeEntry s 6 entry (fun s =>
  if byteAt entry 0 == 1 || byteAt entry 0 == 2 then s else dropReq (consume s 6))

/-- TUNRX_ENTRY: the frame goes into acceptance, if its path is carried by tunnel (R238, R261, R340). -/
def tunrxEntryEffect (entry : Bytes) (s : State) : State :=
  takeEntry s 5 entry (fun s => if carriedBy s (slice entry 0x10 96) 2 then receiveKsl (consume s 5) (slice entry 0x10 96) else consume s 5)

/-- HOST_DMA_STOP (R341). -/
def hostDmaStopEffect (k : DmaStop) (s : State) : State := match k with
  | .d3hot => { s with host := { s.host with d3 := true } }
  | .linkDown => { s with host := { s.host with linkUp := false } }
  | .busMasterOff => { s with host := { s.host with busMaster := false } }

/-- Every waiting completion, in order. -/
def writeAllCompletions : Nat → State → State
  | 0, s => s
  | n + 1, s => if s.host.done.isEmpty || !ringOn s 2 then s else writeAllCompletions n (writeCompletion s)

/-- A pending vector that may be sent is sent (R314, R440). -/
def sendPending (s : State) (v : Nat) : State :=
  let m := s.host.msix.getD v MsixSt.reset
  if s.host.pba.getLsbD v && maySend s v then
    post { s with host := { s.host with pba := clearBit s.host.pba v } } (.msix v m.addr m.data)
  else s

/-- Every pending vector that may be sent. -/
def sendAllPending (s : State) : State := (List.range 32).foldl sendPending s

/-- The link is back, in D0, with Bus Master Enable set. -/
def linkBack (s : State) : State := { s with host := { s.host with d3 := false, linkUp := true, busMaster := true } }

/-- The outcome of what happens on the PCIe link, also while the module is in reset. -/
def finishPowered (s s' : State) : Host.Outcome State Fault Refusal := if s.sys.powered then .next (flush s') else .next s

/-- HOST_DMA_RESUME: waiting completions, then summaries (R341). The status block of rings enabled meanwhile comes first (R317). -/
def hostDmaResumeEffect (s : State) : State :=
  let t := linkBack s
  let t := if dmaOk s || s.host.ringEn == 0 then t else writeStatusBlock t
  sendAllPending (writeSummaries (writeAllCompletions 16 t))

/-- Ended commands that had passed their commit point (R341, R343). -/
def committedCount (l : List Completion) : Nat := (l.filter (fun c => c.committed)).length

/-- The host island's own reset: HST registers, rings, the MSI-X table; HST_LOST reports the outstanding commands (R341, R343). The
state of the link is the environment's. -/
def resetIsland (s : State) : State :=
  let k := committedCount s.host.done
  let n := s.host.outst.length
  { s with host := { s.host with
      ringEn := 0, piEn := false, err := 0, lostCommitted := BitVec.ofNat 16 k, lostCancelled := BitVec.ofNat 16 (n - k),
      sb := 0, pi := 0, div := 1, piGen := 0, piCnt := 0, tunDrop := 0, reqDrop := 0, rings := List.replicate 7 RingSt.reset, d3 := false,
      tunEn := false, outst := [], done := [], seen := [], pci := PciSt.reset, msix := List.replicate 32 MsixSt.reset, pba := 0 } }

/-- HOST_ISLAND_RESET (R330, R341). -/
def hostIslandResetEffect (_k : HostReset) (s : State) : State := raise (resetIsland s) 191 0 0 0

/-- The latched slots of a frame with their ages in ticks (R334). -/
def slotViews (s : State) : List (Option SlotView) :=
  s.host.slotLatch.zipIdx.map (fun p => match s.lcy.forced.find? (fun x => x.1 == 256 + p.2), p.1 with
    | some x, _ => some ⟨x.2, 0, true⟩
    | none, some x => some ⟨x.value, (s.tb - x.tb).toNat, false⟩
    | none, none => none)

/-- The body of the process image (R331). -/
def piBody (s : State) (img : FrameImg) : Bytes :=
  let report := fun (r : Option ReportSt) => match r with
    | some x => bytesOf x.word 9 ++ [1, 0, 0] ++ bytesOf x.frame 4
    | none => zeros 16
  let std := match s.cfg with
    | some c => standardImage s c
    | none => 0
  leBytes 4 (s.lan.fstate.toNat + 16 * s.plt.state.toNat) ++ leBytes 8 img.n ++ bytesOf img.tb 8
    ++ (img.page.take 3).flatMap (fun x => bytesOf x 12) ++ bytesOf s.fld.linkA.image 12
    ++ (img.page.drop 3).flatMap (fun x => bytesOf x 12) ++ bytesOf std 12
    ++ img.bankst.map (fun x => BitVec.ofNat 8 (x * 32)) ++ zeros 14 ++ s.host.reports.flatMap report

/-- PROCESS_IMAGE_UPDATE at C(n) (R332). -/
def piUpdate (s : State) (img : FrameImg) : State :=
  if !s.host.piEn || !dmaOk s || img.n % s.host.div.toNat != 0 then s
  else
    let u := s.host.piCnt + 1
    let b := s.host.pi.toNat + 0x2000 * (u % 2)
    let g := fun (x : Nat) => leBytes 4 x
    let s := post s (.image b (g (2 * u - 1)))
    let s := post s (.image (b + 4) (piBody s img))
    let s := post s (.image (b + 0x1080) (g (2 * u)))
    let s := post s (.image b (g (2 * u)))
    { s with host := { s.host with piCnt := u, piGen := BitVec.ofNat 32 (2 * u) } }

/-- The record of a context for READ_DIAG (R324). -/
def diagRecord (s : State) (f : FnSt) : Bytes :=
  let cut := cutOf s f.fid
  let ep := match cut with
    | some _ => (knownEpoch s f.fid).toNat
    | none => 0
  let ev := match cut with
    | some x => if x.host then 0 else ((x.set.map (fun m => m.eval.toNat)).getD 0)
    | none => 0
  leBytes 4 f.fid ++ leBytes 2 f.ctx ++ [BitVec.ofNat 8 (b2n f.standby), BitVec.ofNat 8 (b2n (holds s f))]
    ++ bytesOf f.status 8 ++ leBytes 4 ep ++ leBytes 4 ev
    ++ leBytes 4 ((wval ((memOf (if s.lan.markA then .b else .a) f).getD 1 0)).toNat % 2 ^ 19) ++ zeros 4

/-- The snapshot of READ_DIAG (R324). -/
def diagSnapshot (s : State) (n : Nat) : Bytes :=
  let fs := byCtx s.fns
  leBytes 4 fs.length ++ leBytes 4 n ++ bytesOf s.tb 8 ++ [BitVec.ofNat 8 (laneMark s)] ++ zeros 15 ++ fs.flatMap (diagRecord s)

/-- A waiting READ_DIAG takes its snapshot and ends (R324). -/
def endDiag (s : State) (n : Nat) (o : Outst) : State :=
  let d := diagSnapshot s n
  if o.len < d.length then endWith s o 0x0009
  else if !dmaOk s then endWith s o 0x000B
  else endCmd (post s (.buffer o.addr d)) o 0 (0, 0) d.length (leBytes 4 (byCtx s.fns).length)

/-- Every waiting READ_DIAG at a C instant. -/
def endAllDiags (s : State) (n : Nat) : State := (s.host.outst.filter (fun o => o.waiting)).foldl (fun t o => endDiag t n o) s

/-- DOORBELL. -/
def execDoorbell (r : Nat) (v : BitVec 32) (s : State) : Host.Outcome State Fault Refusal := finishHost s (doorbellEffect r v s)
/-- COMMAND_FETCH. -/
def execCommandFetch (r : Nat) (e : Bytes) (s : State) : Host.Outcome State Fault Refusal := finish s (commandFetchEffect r e s)
/-- COMPLETION_WRITE. -/
def execCompletionWrite (s : State) : Host.Outcome State Fault Refusal := finish s (completionWriteEffect s)
/-- EVT_SUMMARY_WRITE. -/
def execEvtSummaryWrite (s : State) : Host.Outcome State Fault Refusal := finish s (evtSummaryWriteEffect s)
/-- RING_ENABLE. -/
def execRingEnable (r : Nat) (s : State) : Host.Outcome State Fault Refusal := finishHost s (ringEnableEffect r s)
/-- RING_DISABLE. -/
def execRingDisable (r : Nat) (s : State) : Host.Outcome State Fault Refusal := finishHost s (ringDisableEffect r s)
/-- PI_EN. -/
def execPiEn (v : Bool) (s : State) : Host.Outcome State Fault Refusal := finishHost s (piEnEffect v s)
/-- RING_SETUP_WRITE. -/
def execRingSetupWrite (off : Nat) (v : BitVec 32) (s : State) : Host.Outcome State Fault Refusal :=
  finishHost s (ringSetupWriteEffect off v s)
/-- REQUEST. -/
def execRequest (e : Bytes) (s : State) : Host.Outcome State Fault Refusal := finish s (requestEffect e s)
/-- STDOUT. -/
def execStdout (e : Bytes) (s : State) : Host.Outcome State Fault Refusal := finish s (stdoutEffect e s)
/-- REQ_UNASSIGNED_TYPE. -/
def execReqUnassignedType (e : Bytes) (s : State) : Host.Outcome State Fault Refusal := finish s (reqUnassignedTypeEffect e s)
/-- HOST_DMA_STOP. -/
def execHostDmaStop (k : DmaStop) (s : State) : Host.Outcome State Fault Refusal := finishPowered s (hostDmaStopEffect k s)
/-- HOST_DMA_RESUME. -/
def execHostDmaResume (s : State) : Host.Outcome State Fault Refusal := if awake s then .next (flush (hostDmaResumeEffect s)) else finishPowered s (linkBack s)
/-- HOST_ISLAND_RESET. -/
def execHostIslandReset (k : HostReset) (s : State) : Host.Outcome State Fault Refusal := finish s (hostIslandResetEffect k s)

end Sys2Proof.Machine
end

