-- ==== Sys2Proof/Machine/Inputs.lean ====
section
/-! DEFINITION. Field inputs and test-pulse sources between the latches (R153 to R157, R160 to R167, R170). -/
namespace Sys2Proof.Machine

/-- Residues of R162 at which a code's bit is 1: 0 and QR. -/
def codeOnes : List Nat := [0, 1, 2, 3, 4, 6, 8, 9, 12, 13, 16, 18]

/-- Bit t of code c (R162). -/
def codeBit (c t : Nat) : Bool := if c == 0 then true else if t == 0 then false else codeOnes.contains ((t + 23 - c) % 23)

/-- The code of source i on the own node (R163). -/
def codeOf (c : Image) (i : Nat) : Nat := (i + c.own) % 24

/-- Does a sequencer filter channel ch (R149, R159)? -/
def sampled (c : Image) (l : Lane) (ch : Nat) : Bool := isSafeIn c ch || (chanUse c ch == 3 && l == .a)

/-- The Type of an own input channel (R150). -/
def chanType (c : Image) (ch : Nat) : Nat := ((ownChan c ch).map (fun r => r.itype)).getD 0

/-- The rising threshold of a sequencer's comparator, in mV: unspecified within the limits of the Type (R153). -/
def riseOf (c : Image) (l : Lane) (ch : Nat) : Int :=
  if chanType c ch == 1 then max 9500 (min 13000 (Config.riseMv l ch)) else max 7000 (min 10000 (Config.riseMv l ch))

/-- Its falling threshold: 0.8 V to 1.5 V below (R153). -/
def fallOf (c : Image) (l : Lane) (ch : Nat) : Int := riseOf c l ch - max 800 (min 1500 (Config.hystMv l ch))

/-- A comparator's reading: between its thresholds it keeps the previous one (R153). -/
def comparator (c : Image) (l : Lane) (ch : Nat) (was : Bool) (mv : Int) : Bool :=
  if riseOf c l ch < mv then true else if mv < fallOf c l ch then false else was

/-- The comparator's reading at instant t. -/
def cmpAt (q : SeqIn) (t : BitVec 64) : Bool := ((q.cmps.find? (fun x => x.1.toNat ≤ t.toNat)).map (fun x => x.2)).getD false

/-- A reading joins the others in the order of time. -/
def insertCmp (t : BitVec 64) (v : Bool) : List (BitVec 64 × Bool) → List (BitVec 64 × Bool)
  | [] => [(t, v)]
  | x :: r => if x.1.toNat ≤ t.toNat then (t, v) :: x :: r else x :: insertCmp t v r

/-- A sample at t: the comparator reads it after what it read before t, and a reading that changes is kept (R153). -/
def readCmp (c : Image) (l : Lane) (ch : Nat) (q : SeqIn) (t : BitVec 64) (mv : Int) : SeqIn :=
  let v := comparator c l ch (cmpAt q t) mv
  if v == cmpAt q t then q else { q with cmps := insertCmp t v q.cmps }

/-- Readings before t are needed no more, but for the one in force at t. -/
def forgetCmps (q : SeqIn) (t : BitVec 64) : SeqIn :=
  let old := q.cmps.filter (fun x => x.1.toNat ≤ t.toNat)
  { q with cmps := q.cmps.filter (fun x => t.toNat < x.1.toNat) ++ old.take 1 }

/-- The band of a measured input current in µA (R155), as FLD_ICH shows it: 1 WIRE_BREAK, 2 INDETERMINATE, 3 OFF, intact, 4 ON. -/
def bandOf (ua : Nat) : Nat :=
  if ua < 400 then 1 else if ua < 550 then 2 else if ua ≤ 1500 then 3 else if ua < 2000 then 2 else 4

/-- FILT of a channel in ticks of 10 ns; 0 stands for 3 ms (R150). -/
def filtTicks (c : Image) (ch : Nat) : Nat :=
  let f := ((ownChan c ch).map (fun r => r.filt)).getD 0
  (if f == 0 then 30 else f) * 10000

/-- A source is switched on and carries pulses: active, or restarted after a fault, with FA powered (R161, R165). -/
def sourceOn (s : State) (i : Nat) : Bool :=
  let k := srcAt s i
  s.sys.convA && (k.st == .active || (k.st == .faulted && !k.stopped))

/-- The pulse window at a sample, and whether it masks the sample: from the start of a pulse, as observed, to 60 µs after the terminal is
high again (R154). -/
def maskStep (pulsed : Bool) (q : SeqIn) (x : InSample) : SeqIn × Bool :=
  if !pulsed then ({ q with window := none, highTb := none }, false)
  else if x.low then ({ q with window := some (q.window.getD x.tb), highTb := none }, true)
  else if q.window.isNone then (q, false)
  else
    let up := q.highTb.getD x.tb
    ({ q with highTb := some up }, decide ((x.tb - up).toNat < 6000))

/-- The filter of R154 at an unmasked sample; a change toward OFF at the first sample after a window is timed from the window's start. -/
def filterStep (filt : Nat) (q : SeqIn) (raw : Bool) (tb : BitVec 64) : SeqIn :=
  let t0 := q.pend.getD (if raw then tb else q.window.getD tb)
  let q := { q with window := none, highTb := none }
  if raw == q.acc then { q with pend := none }
  else if filt ≤ (tb - t0).toNat then { q with acc := raw, pend := none }
  else { q with pend := some t0 }

/-- A band run at a further sample in WIRE_BREAK (1) or INDETERMINATE (2); once it has lasted FILT its kind is settled (R156). -/
def stepRun (filt : Nat) (r : BandRun) (band : Nat) (tb : BitVec 64) : BandRun :=
  if r.judged then r else { r with allBreak := r.allBreak && band == 1, judged := decide (filt ≤ (tb - r.start).toNat) }

/-- The instant at which a run of the kind of r was last there (R170). -/
def noteRun (q : SeqIn) (r : BandRun) (tb : BitVec 64) : SeqIn := if r.allBreak then { q with breakTb := tb } else { q with indetTb := tb }

/-- A run that has lasted FILT sets its cause (R156). -/
def faultRun (q : SeqIn) (r : BandRun) : SeqIn :=
  let cause := if r.allBreak then 1 else 2
  if r.judged && !q.bandFaults.contains cause then { q with bandFaults := q.bandFaults ++ [cause] } else q

/-- Band and band run at an unmasked sample of a monitored input (R155 to R157); a run is discarded while judgement is suspended. -/
def bandStep (filt : Nat) (suspended : Bool) (q : SeqIn) (x : InSample) : SeqIn :=
  let band := bandOf x.ua
  let q := { q with band := band, cur := x.ua }
  if suspended then { q with run := none }
  else if band == 1 || band == 2 then
    let r := stepRun filt (q.run.getD ⟨x.tb, true, false⟩) band x.tb
    faultRun (noteRun { q with run := some r } r x.tb) r
  else match q.run with
    | some r => noteRun { q with run := none } r x.tb
    | none => q

/-- Band judgement is suspended: the source or its bank is at fault, or the feed is below TRIP (R157, R170). -/
def bandSuspended (s : State) (c : Image) (ch feed : Nat) : Bool :=
  sourceBad s c ch || (chanSrc c ch).any (fun i => decide (feed < (bankParOf (some c) (i / 4)).1))

/-- One sample of a channel by a sequencer: comparator, mask, band run, filter (R153 to R157). A masked sample keeps the run in progress,
unless the feed discards it (R154, R157). -/
def takeSample (s : State) (c : Image) (l : Lane) (ch : Nat) (q : SeqIn) (x : InSample) : SeqIn :=
  let m := maskStep ((chanSrc c ch).any (sourceOn s)) (readCmp c l ch q x.tb x.mv) x
  let suspended := bandSuspended s c ch x.feed
  if m.2 then (if suspended then { m.1 with run := none } else m.1)
  else if chanUse c ch == 2 then
    filterStep (filtTicks c ch) (bandStep (filtTicks c ch) suspended m.1 x) (bandOf x.ua == 4) x.tb
  else filterStep (filtTicks c ch) m.1 (cmpAt m.1 x.tb) x.tb

/-- A sequencer takes samples of a channel, oldest first; only a slot's judgement looks back at readings. -/
def takeSamples (l : Lane) (ch : Nat) (xs : List InSample) (s : State) : State := match seqCfg s l with
  | some c => if seqOn s l && sampled c l ch then modSeq s l ch (fun q =>
      let q := xs.foldl (takeSample s c l ch) q
      if (chanSrc c ch).isNone then forgetCmps q s.tb else q) else s
  | none => s

/-- INPUT_FILTER_ACCEPT: the samples of the pending change and up to its acceptance (R154). -/
def inputFilterAcceptEffect (l : Lane) (ch : Nat) (xs : List InSample) (s : State) : State := takeSamples l ch xs s

/-- BAND_RUN_FAULT: the samples of a monitored input's band run (R156). -/
def bandRunFaultEffect (l : Lane) (ch : Nat) (xs : List InSample) (s : State) : State :=
  if (seqCfg s l).any (fun c => chanUse c ch == 2) then takeSamples l ch xs s else s

/-- Change an input's agreed data, also as the latch in hand is judged from them. -/
def modIn (s : State) (ch : Nat) (g : InCh → InCh) : State :=
  { s with fld := { s.fld with insPrev := modAt s.fld.insPrev ch g, ins := modAt s.fld.ins ch g } }

/-- INPUT_DISAGREE: the two latches of a channel have differed in three consecutive frames; the fault stands from the third (R160). -/
def inputDisagreeEffect (ch : Nat) (s : State) : State := match s.cfg with
  | some c => if isSafeIn c ch && 3 ≤ (inAt s ch).differ then rejudge (modIn s ch (fun i => { i with dis := true, disTb := s.tb })) else s
  | none => s

/-- CLR of a channel: the longer of 100 ms and 24 slots of its bound source (R170). -/
def clrTicks (s : State) (c : Image) (ch : Nat) : Nat :=
  let slot := ((chanSrc c ch).bind (ownSrc c)).elim 0 (fun r => r.slotDiv * tfTicks s)
  max 10000000 (24 * slot)

/-- A cause last there at t has been absent for CLR. -/
def absentFor (s : State) (t : BitVec 64) (clr : Nat) : Bool := decide (t.toNat + clr ≤ s.tb.toNat)

/-- A band cause leaves a sequencer's view once no run of its kind is in progress and none has been for CLR (R156, R170). -/
def clearBand (s : State) (clr cause : Nat) (q : SeqIn) : SeqIn :=
  let running := q.run.any (fun r => r.allBreak == (cause == 1))
  if !running && absentFor s (if cause == 1 then q.breakTb else q.indetTb) clr
  then { q with bandFaults := q.bandFaults.filter (fun x => x != cause) } else q

/-- INPUT_FAULT_CLEAR: a cause that has been absent for CLR clears; code faults clear under R167 instead, and band judgement is suspended
while the source is at fault (R170). -/
def inputFaultClearEffect (x : InCause) (s : State) : State := match s.cfg with
  | some c =>
    let ch := x.ch
    let cause := x.cause
    let clr := clrTicks s c ch
    if !isSafeIn c ch then s
    else if cause == 1 || cause == 2 then
      if sourceBad s c ch then s else modSeq (modSeq s .a ch (clearBand s clr cause)) .b ch (clearBand s clr cause)
    else if cause == 5 then modIn s ch (fun i => if i.differ == 0 && absentFor s i.disTb clr then { i with dis := false } else i)
    else if cause == 6 then
      if sourceBad s c ch then s else modIn s ch (fun i => if absentFor s i.srcTb clr then { i with srcBad := false } else i)
    else s
  | none => s

/-- The source enters its fault and is switched off (R165). -/
def faultSource (s : State) (i : Nat) : State :=
  let was := (srcAt s i).st
  let s := modSrc s i (freshSource .faulted true)
  if was == .faulted then s else raise s (96 + i / 4) i 0 0

/-- Two slot errors in a sequencer's last 24 slots (R165). -/
def twoErrors (l : List Bool) : Bool := 2 ≤ (l.filter id).length

/-- A pulse of the wrong width, outside W ± 20 µs, or with a low level above 2.0 V at its end (R165). -/
def pulseBad (width : Nat) (p : Pulse) : Bool := width + 2000 < p.width || p.width + 2000 < width || 2000 < p.lowMv

/-- The high level lies below V_LP - 1.0 V (R165). -/
def highBad (s : State) (i : Nat) (o : TermObs) : Bool := decide (o.highMv + 1000 < vlp (bankAt s (i / 4)) * 100)

/-- A source slot error as one sequencer finds it: no pulse in its half, one in the other half, a bad pulse, or a low high level (R165). -/
def slotError (s : State) (i : Nat) (p : PlacedPulse) (o : TermObs) : Bool :=
  let own := if p.early then o.early else o.late
  let other := if p.early then o.late else o.early
  own.isNone || other.isSome || own.any (pulseBad p.width) || highBad s i o

/-- SOURCE_SLOT_CHECK of one source in the previous slot, by the sequencers that have power (R165). -/
def slotOfSource (s : State) (p : PlacedPulse) (o : SrcSlot) : State :=
  let k := srcAt s o.src
  let badA := seqOn s .a && slotError s o.src p o.a
  let badB := seqOn s .b && slotError s o.src p o.b
  let ea := (badA :: k.errA).take 24
  let eb := (badB :: k.errB).take 24
  let good := if badA || badB then 0 else k.good + 1
  match k.st with
  | .active =>
    if twoErrors ea || twoErrors eb then faultSource s o.src else modSrc s o.src (fun k => { k with errA := ea, errB := eb })
  | .faulted =>
    if k.stopped then s
    else if 24 ≤ good then raise (modSrc s o.src (freshSource .active false)) (102 + o.src / 4) o.src 0 0
    else modSrc s o.src (fun k => { k with good := good })
  | _ => s

/-- Every judged slot from u on was a mismatch (R167). -/
def allMismatch (l : List (Nat × Bool)) (u : Nat) : Bool := (l.filter (fun x => u ≤ x.1)).all (fun x => x.2)

/-- The judged slots with slot t added. -/
def addSlot (q : SeqIn) (t : Nat) (mis : Bool) : List (Nat × Bool) := ((t, mis) :: q.judged).take 48

/-- A code fault begins: its first and second mismatch are u and the newest slot (R167). -/
def startCodeFault (q : SeqIn) (u : Nat) : SeqIn :=
  { q with codeFault := some (if allMismatch q.judged u then 3 else 4), foreign := 0x1F, final := false, firstMis := u }

/-- A sequencer judges slot t of a channel: a second mismatch in 24 slots faults it at once, and 24 judged slots without a mismatch clear
a code fault (R167). -/
def judgeSlot (q : SeqIn) (t : Nat) (mis : Bool) : SeqIn :=
  let earlier := q.judged.find? (fun x => x.2 && t < x.1 + 24)
  let q := { q with judged := addSlot q t mis }
  match q.codeFault, earlier with
  | none, some u => if mis then startCodeFault q u.1 else q
  | none, none => q
  | some _, _ =>
    let last := q.judged.take 24
    if last.length == 24 && last.all (fun x => !x.2) then { q with codeFault := none, foreign := 0x1F, final := false } else q

/-- The slot of source i that begins at the frame in hand, if one does, counted from frame 0 (R164). -/
def slotBegins (s : State) (c : Image) (i : Nat) : Option Nat := match ownSrc c i with
  | some r => if s.lan.frame.toNat % max 1 r.slotDiv == 0 then some (s.lan.frame.toNat / max 1 r.slotDiv) else none
  | none => none

/-- The pulse of the slot that ends at the frame in hand (R164). -/
def endedPulse (s : State) (c : Image) (i : Nat) : Option PlacedPulse := match slotBegins s c i, (srcAt s i).placed with
  | some t, some p => if p.slot + 1 == t then some p else none
  | _, _ => none

/-- What a sample shows around the pulse windows: ON, or in monitored mode ON or OFF, intact (R167). -/
def showsOn (monitored cmp : Bool) (x : Reading) : Bool := if monitored then 3 ≤ bandOf x.ua else cmp

/-- CODE_MISMATCH of one input in the slot that ends, by the sequencer's own parameters: judged if the samples around the windows show ON, seen if the last sample before the
terminal is high again shows OFF, or below 0.40 mA in monitored mode; for inputs bound to an active source (R167, R170). -/
def slotOfInput (s : State) (o : InSlot) : State := match seqCfg s o.lane, (seqCfg s o.lane).bind (fun c => chanSrc c o.ch) with
  | none, _ | _, none => s
  | some c, some i => match endedPulse s c i with
    | none => s
    | some p =>
      if !isSafeIn c o.ch || !seqOn s o.lane || (srcAt s i).st != .active || sourceBad s c o.ch then s
      else
        let mon := chanUse c o.ch == 2
        modSeq s o.lane o.ch (fun q =>
          let q := [o.before, o.low, o.after].foldl (fun q x => readCmp c o.lane o.ch q x.tb x.mv) q
          let shows := fun (x : Reading) => showsOn mon (cmpAt q x.tb) x
          let seen := if mon then decide (o.low.ua < 400) else !cmpAt q o.low.tb
          let q := forgetCmps q o.after.tb
          if shows o.before && shows o.after then judgeSlot q p.slot (!seen) else q)

/-- FA places the pulse of the slot that begins on a source that is on: early, centred at T_slot/4, for a 1 of its code, else late, centred
at 3 T_slot/4 (R162 to R164). -/
def placePulse (c : Image) (s : State) (i : Nat) : State := match slotBegins s c i, ownSrc c i with
  | some t, some r =>
    if sourceOn s i then
      let early := codeBit (codeOf c i) (t % 24)
      let centre := r.slotDiv * tfTicks s * (if early then 1 else 3) / 4
      modSrc s i (fun k => { k with placed := some ⟨t, early, s.lan.fstart + BitVec.ofNat 64 centre, r.width * 100⟩ })
    else s
  | _, _ => s

/-- TEST_PULSE_SLOT: at a slot boundary the slot that ends is judged, and the next pulses are placed (R164, R165, R167). While the lanes are
halted nothing is (R404). -/
def testPulseSlotEffect (srcs : List SrcSlot) (ins : List InSlot) (s : State) : State := match seqCfg s .a with
  | some c =>
    if s.lan.halted then s
    else
      let t := ins.foldl slotOfInput s
      let t := srcs.foldl (fun t o => match endedPulse s c o.src with
        | some p => slotOfSource t p o
        | none => t) t
      (List.range (nSrcOf s.sys.variant)).foldl (placePulse c) t
  | none => s

/-- The other code of the module whose differing slots are exactly the mismatched ones; 0x1F if there is none (R167). -/
def foreignCode (others : List Nat) (own : Nat) (mis : Nat → Bool) : Nat :=
  (others.find? (fun k => (List.range 24).all (fun t => mis t == (codeBit k t != codeBit own t)))).getD 0x1F

/-- The codes of the module's sources but i (R163). -/
def otherCodes (s : State) (c : Image) (i : Nat) : List Nat :=
  ((List.range (nSrcOf s.sys.variant)).filter (fun k => k != i)).map (codeOf c)

/-- The final judgement of a code fault over the 24 slots from its first mismatch (R167). -/
def finalCause (q : SeqIn) (others : List Nat) (own : Nat) : SeqIn :=
  let l := q.judged.filter (fun x => q.firstMis ≤ x.1 && x.1 < q.firstMis + 24)
  if l.all (fun x => x.2) then { q with codeFault := some 3, foreign := 0x1F, final := true }
  else { q with codeFault := some 4, foreign := foreignCode others own (fun t => l.any (fun x => x.2 && x.1 % 24 == t)), final := true }

/-- The slot in which a source is, counted from frame 0 (R164). -/
def slotNow (s : State) (c : Image) (i : Nat) : Nat := s.lan.frame.toNat / max 1 ((ownSrc c i).elim 1 (fun r => r.slotDiv))

/-- CODE_CAUSE_FINAL: the 24th slot since the first mismatch has ended (R167). -/
def codeCauseFinalEffect (l : Lane) (ch : Nat) (s : State) : State := match seqCfg s l with
  | some c => match chanSrc c ch with
    | some i =>
      let q := seqAt s l ch
      if q.codeFault.isSome && !q.final && q.firstMis + 24 ≤ slotNow s c i then modSeq s l ch (fun q => finalCause q (otherCodes s c i) (codeOf c i)) else s
    | none => s
  | none => s

/-- SOURCE_OVERLOAD: more than 1 ms in current limit (R165). -/
def sourceOverloadEffect (i : Nat) (s : State) : State := if sourceOn s i && i < nSrcOf s.sys.variant then faultSource s i else s

/-- SOURCE_RESTART: 1 s after its fault a source with a record is switched on again by FA (R151, R161, R165). -/
def sourceRestartEffect (i : Nat) (s : State) : State :=
  if (srcAt s i).st == .faulted && (srcAt s i).stopped && seqOn s .a && (s.cfg.bind (fun c => ownSrc c i)).isSome then modSrc s i (freshSource .faulted false) else s

/-- The check of a source: one early and one late pulse, as R165 judges them in both sequencers (R166). -/
def checkBad (s : State) (i width : Nat) (o : TermObs) : Bool :=
  o.early.isNone || o.late.isNone || o.early.any (pulseBad width) || o.late.any (pulseBad width) || highBad s i o

/-- A source after its check (R166). -/
def checkedSource (s : State) (width : Nat) (o : SrcSlot) : State :=
  if checkBad s o.src width o.a || checkBad s o.src width o.b then faultSource s o.src
  else modSrc s o.src (fun k => { freshSource .active false k with passed := true })

/-- SOURCE_CHECK: at step 9, or of a source with a record once its bank has been fed and tested (R166). -/
def sourceCheckEffect (i : Nat) (a b : TermObs) (s : State) : State :=
  let rec_ := s.cfg.bind (fun c => ownSrc c i)
  if i < nSrcOf s.sys.variant && bankGood (bankAt s (i / 4)) && seqOn s .a && (rec_.isSome || s.sys.running == 9)
    && ((srcAt s i).st == .untested || (srcAt s i).st == .off) then
    checkedSource s (rec_.elim Config.checkWidth (fun r => r.width * 100)) ⟨i, a, b⟩
  else s

/-- INPUT_FILTER_ACCEPT. -/
def execInputFilterAccept (l : Lane) (ch : Nat) (xs : List InSample) (s : State) : Host.Outcome State Fault Refusal :=
  finish s (inputFilterAcceptEffect l ch xs s)
/-- BAND_RUN_FAULT. -/
def execBandRunFault (l : Lane) (ch : Nat) (xs : List InSample) (s : State) : Host.Outcome State Fault Refusal :=
  finish s (bandRunFaultEffect l ch xs s)
/-- INPUT_DISAGREE. -/
def execInputDisagree (ch : Nat) (s : State) : Host.Outcome State Fault Refusal := finish s (inputDisagreeEffect ch s)
/-- INPUT_FAULT_CLEAR. -/
def execInputFaultClear (x : InCause) (s : State) : Host.Outcome State Fault Refusal := finish s (inputFaultClearEffect x s)
/-- TEST_PULSE_SLOT. -/
def execTestPulseSlot (srcs : List SrcSlot) (ins : List InSlot) (s : State) : Host.Outcome State Fault Refusal :=
  finish s (testPulseSlotEffect srcs ins s)
/-- CODE_CAUSE_FINAL. -/
def execCodeCauseFinal (l : Lane) (ch : Nat) (s : State) : Host.Outcome State Fault Refusal := finish s (codeCauseFinalEffect l ch s)
/-- SOURCE_OVERLOAD. -/
def execSourceOverload (i : Nat) (s : State) : Host.Outcome State Fault Refusal := finish s (sourceOverloadEffect i s)
/-- SOURCE_RESTART. -/
def execSourceRestart (i : Nat) (s : State) : Host.Outcome State Fault Refusal := finish s (sourceRestartEffect i s)
/-- SOURCE_CHECK. -/
def execSourceCheck (i : Nat) (a b : TermObs) (s : State) : Host.Outcome State Fault Refusal :=
  finish s (sourceCheckEffect i a b s)

end Sys2Proof.Machine
end

