-- ==== Sys2Proof/Machine/Outputs.lean ====
section
/-! DEFINITION. Output channels and bank feeds between the latches (R179 to R187, R190 to R192, R195, R205). -/
namespace Sys2Proof.Machine

/-- The switch of a sequencer. -/
def swAt (o : OutCh) (l : Lane) : SwitchSt := match l with
  | .a => o.swA
  | .b => o.swB

/-- Change the switch of a sequencer on channel ch. -/
def modSw (s : State) (l : Lane) (ch : Nat) (g : SwitchSt → SwitchSt) : State := modOut s ch (fun o => match l with
  | .a => { o with swA := g o.swA }
  | .b => { o with swB := g o.swB })

/-- A cause set by one sequencer. -/
def setCauseBy (s : State) (l : Lane) (ch cause : Nat) : State := setOutCause s ch cause (l == .a) (l == .b)

/-- A channel that is an output by the parameters of a powered sequencer (R203). -/
def outputBy (s : State) (l : Lane) (ch : Nat) : Bool := seqOn s l && ch < 96 && (seqCfg s l).any (fun c => isOut c ch)

/-- A channel that is an output in both sequencers. -/
def outputHere (s : State) (ch : Nat) : Bool := outputBy s .a ch && outputBy s .b ch

/-- The sequencer of a switch drives the pin's active sink: throughout an off-pulse, and for 2 ms after every switch-off (R173). -/
def activeSink (s : State) (w : SwitchSt) : Bool := w.pulsing || w.offTb.any (fun t => decide ((s.tb - t).toNat < 200000))

/-- FA feeds the midpoint from its test source: in step 2 of a single-switch test (R173, R186). -/
def midSource (s : State) (o : OutCh) : Bool := s.sys.convA && o.test == 2

/-- The channel and the gang partner with which it behaves as one (R181). -/
def pairOf (s : State) (ch : Nat) : List Nat := ch :: (s.cfg.bind (fun c => gangMate c ch)).toList

/-- READBACK_FAULT: a mismatch has lasted 1 ms of unmasked samples (R182); judgement is suspended in current limit (R179). -/
def readbackFaultEffect (l : Lane) (ch : Nat) (s : State) : State :=
  if outputBy s l ch then setCauseBy s l ch (if bothOn (outChan s ch) then 1 else 2) else s

/-- MIDPOINT_FAULT: the midpoint reads high for 1 ms while both gates are applied open (R183). -/
def midpointFaultEffect (l : Lane) (ch : Nat) (s : State) : State :=
  if outputBy s l ch && bothOpen (outChan s ch) then setCauseBy s l ch 6 else s

/-- GANG_FAULT: the two pin readbacks of a ganged pair differ (R181); it is a fault of both channels. -/
def gangFaultEffect (ch : Nat) (s : State) : State := match s.cfg.bind (fun c => gangMate c ch) with
  | some m => if outputHere s ch then setOutCause (setOutCause s ch 8 true true) m 8 true true else s
  | none => s

/-- SHORT_CIRCUIT: 5 ms in current limit; both sequencers open their switches (R179). -/
def shortCircuitEffect (_l : Lane) (ch : Nat) (s : State) : State :=
  if outputHere s ch then
    let op := fun (w : SwitchSt) => { w with opened := true, pulsing := false, offTb := some s.tb }
    setOutCause (modOut s ch (fun o => { o with swA := op o.swA, swB := op o.swB })) ch 4 true true
  else s

/-- An own standard output of a channel latches off (R180, R194, R338). -/
def latchStd (s : State) (ch : Nat) : State := { s with host := { s.host with stdLatch := setBit s.host.stdLatch ch } }

/-- THERM_LATCH of an own channel. -/
def thermLatch (c : Image) (ch : Nat) : Bool := (ownChan c ch).any (fun r => nbit r.oflags 0)

/-- The thermal shutdowns of the last 60 s, with the one now (R180). -/
def shutdownsNow (s : State) (ch : Nat) : List (BitVec 64) :=
  s.tb :: (outChan s ch).shutdowns.filter (fun t => (s.tb - t).toNat ≤ 6000000000)

/-- THERMAL_SHUTDOWN: the switch opens and THERMAL is set; a safety output is held off until its gate has been commanded open; a standard
output latches off with THERM_LATCH, or at the 16th shutdown within 60 s, and its switch stays open until CLEAR_STD (R180). -/
def thermalShutdownEffect (l : Lane) (ch : Nat) (s : State) : State := match seqCfg s l with
  | none => s
  | some c =>
    if !outputBy s l ch then s
    else
      let latch := chanUse c ch == 6 && (thermLatch c ch || 16 ≤ (shutdownsNow s ch).length)
      let s := modOut s ch (fun o => { o with shutdowns := shutdownsNow s ch })
      let s := modSw s l ch (fun w => { w with opened := true, therm := true, pulsing := false, offTb := some s.tb,
                                               held := w.held || latch || (isSafeOut c ch && w.gate) })
      let s := setCauseBy s l ch 5
      if latch then latchStd s ch else s

/-- THERMAL_COOLED: the junction has cooled by the hysteresis and the fault clears; a switch that is not held off follows its gate again
(R180). -/
def thermalCooledEffect (l : Lane) (ch : Nat) (s : State) : State :=
  if outputBy s l ch then
    let short := shorted (outChan s ch)
    let s := modSw s l ch (fun w => { w with therm := false, opened := short || w.held })
    let o := outChan s ch
    if o.swA.therm || o.swB.therm then s else dropOutCauses s ch (fun x => x == 5)
  else s

/-- The causes that clear after 100 ms applied off (R187). -/
def clearsOff (x : Nat) : Bool := x == 1 || x == 2 || x == 3 || x == 4 || x == 8

/-- The causes of one channel that 100 ms applied off clear: GANG clears only with both channels of the pair off (R187). -/
def clearCauses (s : State) (ch : Nat) : State :=
  let cl := fun (w : SwitchSt) => { w with opened := w.therm || w.held }
  modOut (dropOutCauses s ch (fun x => clearsOff x && x != 8)) ch (fun o => { o with swA := cl o.swA, swB := cl o.swB })

/-- OUTPUT_FAULT_CLEAR: the channel has been applied off for 100 ms with its pin and midpoint below 5 V, and so, where it holds GANG, has its
gang partner (R187). -/
def outputFaultClearEffect (ch : Nat) (s : State) : State :=
  if outputHere s ch && !bothOn (outChan s ch) then
    let s := clearCauses s ch
    let pair := pairOf s ch
    if pair.all (fun k => !bothOn (outChan s k)) then pair.foldl (fun t k => dropOutCauses t k (fun x => x == 8)) s else s
  else s

/-- Within 20 µs of a frame marker an input latch is masked, and no pulse starts (R184). -/
def nearMarker (s : State) : Bool :=
  s.lan.timerOn && !s.lan.halted && ((s.tb - s.lan.fstart).toNat < 2000 || decide (tfTicks s < (s.tb - s.lan.fstart).toNat + 2000))

/-- A pulse begins on a switch of a channel and of its gang partner that are applied on; while the other switch is pulsed it waits, so that
both are never pulsed at once, and near a frame marker it waits for the end of the masking (R181, R184). -/
def startPulse (s : State) (l : Lane) (ch : Nat) : State :=
  let chs := (pairOf s ch).filter (fun k => bothOn (outChan s k))
  let all := fun (g : SwitchSt → SwitchSt) => chs.foldl (fun t k => modSw t l k g) s
  if chs.any (fun k => (swAt (outChan s k) l.other).pulsing) then all (fun w => { w with deferred := true })
  else if nearMarker s then all (fun w => { w with shifted := true })
  else all pulseOn

/-- The output tests rest while the lanes are halted, and from then to the next slot boundary (R404). -/
def testsRest (s : State) : Bool := s.lan.halted || s.lan.testWait

/-- Code correlation and the output tests pause: no pulse that a source has not emitted is judged, and an off-pulse or a test step in progress
is run again later (R404). -/
def restTests (s : State) : State :=
  let stop := fun (w : SwitchSt) => { w with pulsing := false, deferred := w.deferred || w.pulsing }
  { s with
    lan := { s.lan with testWait := true },
    fld := { s.fld with
      srcs := s.fld.srcs.map (fun k => { k with placed := none }),
      outs := s.fld.outs.map (fun o => { o with swA := stop o.swA, swB := stop o.swB, testDue := o.testDue || o.test != 0, test := 0 }) } }

/-- May an off-pulse run on the channel: a safety output applied on, the lanes not halted (R184, R404)? -/
def mayPulse (s : State) (ch : Nat) : Bool :=
  outputHere s ch && ((seqCfg s .a).any (fun c => isSafeOut c ch)) && bothOn (outChan s ch) && !testsRest s

/-- An off-pulse that is due: deferred while the bank is in SAG (R192). -/
def duePulse (s : State) (l : Lane) (ch : Nat) : State :=
  if !mayPulse s ch then s
  else if (bankAt s (ch / 16)).st == .sag then (pairOf s ch).foldl (fun t k => modSw t l k (fun w => { w with deferred := true })) s
  else startPulse s l ch

/-- OFF_PULSE: the off-pulse timer of a switch expires (R184). -/
def offPulseEffect (l : Lane) (ch : Nat) (s : State) : State := duePulse s l ch

/-- A pulse of the other switch that has waited for this one begins, unless it waits for the end of a sag (R184, R192). -/
def nextPulse (s : State) (l : Lane) (ch : Nat) : State :=
  let w := swAt (outChan s ch) l.other
  if (w.shifted || (w.deferred && (bankAt s (ch / 16)).st != .sag)) && mayPulse s ch then startPulse s l.other ch else s

/-- Pulses that wait start once they may, those of FA first (R184, R192, R404). -/
def runWaiting (s : State) : State :=
  (idxs 96 (fun ch => (outChan s ch).swA.deferred || (outChan s ch).swA.shifted || (outChan s ch).swB.deferred || (outChan s ch).swB.shifted)).foldl
    (fun t ch => nextPulse (nextPulse t .b ch) .a ch) s

/-- OFF_PULSE_JUDGE: the pin must have read off; two consecutive failures of one switch set PULSE (R185). -/
def offPulseJudgeEffect (l : Lane) (ch : Nat) (pinOff : Bool) (s : State) : State :=
  let w := swAt (outChan s ch) l
  if !w.pulsing then s
  else
    let t := modSw s l ch (fun w => { w with pulsing := false, failed := !pinOff && !w.failed })
    nextPulse (if !pinOff && w.failed then setCauseBy t l ch 3 else t) l ch

/-- OFF_PULSE_REPEAT: 100 ms after a failed pulse it is repeated (R185). -/
def offPulseRepeatEffect (l : Lane) (ch : Nat) (s : State) : State :=
  if (swAt (outChan s ch) l).failed then duePulse s l ch else s

/-- DEFERRED_OFF_PULSE: a test deferred for 1 s runs during the sag (R192). -/
def deferredOffPulseEffect (l : Lane) (ch : Nat) (s : State) : State :=
  if (swAt (outChan s ch) l).deferred && mayPulse s ch then startPulse s l ch else s

/-- A single-switch test runs on the channel, or is due and may run (R186). -/
def testOpen (o : OutCh) : Bool := o.test != 0 || (o.testDue && bothOpen o)

/-- Every output of a bank that can be tested has been, so that the next latch may show the bank OK; without frames it becomes OK at once (R191, R364). -/
def bankTested (s : State) (b : Nat) : State :=
  let k := bankAt s b
  if !k.testing || (idxs 16 (fun i => testOpen (outChan s (16 * b + i)))).length != 0 then s
  else
    let s := modBank s b (fun k => { k with testsRun := true })
    if s.lan.timerOn then s
    else raise (modBank s b (fun k => { k with st := .ok, testing := false, testsRun := false })) (54 + 8 * b) b 1 (vlp k)

/-- Begin a single-switch test on a channel and its gang partner at one instant, or keep it due while one of them is applied on or the tests
rest (R181, R186, R404). -/
def beginTest (s : State) (ch : Nat) : State :=
  let chs := pairOf s ch
  let now := chs.all (fun k => bothOpen (outChan s k)) && !testsRest s
  chs.foldl (fun t k => modOut t k (fun o =>
    if now then { o with test := 1, testDue := false, testBad := false, testHeld := false } else { o with testDue := true })) s

/-- The channels of a bank that are tested once it is fed: its outputs, or, while the sequencers run with default parameters, all of them
(R186, R191, R364, R371). -/
def testedHere (s : State) (ch : Nat) : Bool := outputHere s ch || ((seqCfg s .a).isNone && (seqCfg s .b).isNone)

/-- BANK_QUALIFIED: the feed has been above WARN for 100 ms; every output of the bank is tested (R191, R364, R371). -/
def bankQualifiedEffect (b : Nat) (s : State) : State :=
  if b < nBankOf s.sys.variant && (bankAt s b).st == .untested && s.sys.convA && s.sys.convB then
    let s := modBank s b (fun k => { k with testing := true, testsRun := false })
    let chs := (List.range 16).map (fun i => 16 * b + i)
    let s := chs.foldl (fun t ch => if testedHere t ch then beginTest t ch else t) s
    bankTested s b
  else s

/-- The fault that step 1 or 2 of a single-switch test finds, from what FA and FB read (R186). -/
def testFaults (step : Nat) (mid : Nat) (pin : Nat) : List Nat :=
  if step == 1 then (if 5000 ≤ mid then [6] else []) ++ (if 5000 ≤ pin then [2] else [])
  else if mid < 8000 || 5000 ≤ pin then [7] else []

/-- SINGLE_SWITCH_TEST_DONE: a step ends with the readings in mV of both sequencers; a failure seen by either sets the fault, step 2 follows
step 1 in any case, and a test of which both steps have passed clears SSW_A and SSW_B (R186, R187). -/
def singleSwitchTestDoneEffect (ch step midA pinA midB pinB : Nat) (s : State) : State :=
  let o := outChan s ch
  if testsRest s || o.test == 0 || o.test != step || !bothOpen o then s
  else
    let fa := testFaults step midA pinA
    let fb := testFaults step midB pinB
    let bad := (step == 2 && o.testBad) || !fa.isEmpty || !fb.isEmpty
    let s := (fa ++ fb).eraseDups.foldl (fun t x => setOutCause t ch x (fa.contains x) (fb.contains x)) s
    if step == 1 then modOut s ch (fun o => { o with test := 2, testBad := bad })
    else
      let s := modOut s ch (fun o => { o with test := 0, testDue := false, tested := o.tested || !bad, overdue := o.overdue && bad })
      bankTested (if bad then s else dropOutCauses s ch (fun x => x == 6 || x == 7)) (ch / 16)

/-- SSW_TEST_DUE: 24 h after a pass, or every 10 s for a channel faulted with SSW_A or SSW_B (R186). -/
def sswTestDueEffect (ch : Nat) (s : State) : State := if outputHere s ch then beginTest s ch else s

/-- SSW_OVERDUE: a test overdue by more than 24 h (R186, R205). -/
def sswOverdueEffect (ch : Nat) (s : State) : State :=
  if outputHere s ch && !(outChan s ch).overdue then
    raise (modOut s ch (fun o => { o with overdue := true })) (55 + 8 * (ch / 16)) ch (((outChan s ch).causes.map (fun x => x.cause)).headD 0) 0
  else s

/-- RIDE_THROUGH_EXPIRY: a sequencer's timer has exceeded RIDE; the next latch reports it (R190). -/
def rideThroughExpiryEffect (l : Lane) (b : Nat) (s : State) : State :=
  if !seqOn s l then s
  else modBank s b (fun k => match l with
    | .a => { k with expA := true }
    | .b => { k with expB := true })

/-- BANK_OVERCURRENT: 4.0 A exceeded for 100 ms; the sequencer sets the bit in every latch (R195). -/
def bankOvercurrentEffect (l : Lane) (b : Nat) (s : State) : State :=
  if !seqOn s l then s
  else modBank s b (fun k => match l with
    | .a => { k with ocA := true }
    | .b => { k with ocB := true })

/-- BANK_MONITOR_FAULT: at the latch in hand the run of differing measurements is complete (R190). -/
def bankMonitorFaultEffect (b : Nat) (s : State) : State :=
  let k := bankAt s b
  if !bankGood k || !k.monSince.any (fun t => decide (1000000 ≤ (s.lan.fstart - t).toNat)) then s
  else
    let low := fun (k : BankSt) => { k with st := .low, cause := 4 }
    let s := raise (modBank s b low) (52 + 8 * b) b 3 (vlp k)
    rejudge { s with fld := { s.fld with banksPrev := modAt s.fld.banksPrev b low } }

/-- BANK_FEED_RECOVERY: the feed has been back for the time that R191 asks; the next latch shows OK. -/
def bankFeedRecoveryEffect (b : Nat) (s : State) : State :=
  let k := bankAt s b
  if k.st == .sag || k.st == .low then modBank s b (fun k => { k with recovered := true }) else s

/-- READBACK_FAULT. -/
def execReadbackFault (l : Lane) (ch : Nat) (s : State) : Host.Outcome State Fault Refusal := finish s (readbackFaultEffect l ch s)
/-- MIDPOINT_FAULT. -/
def execMidpointFault (l : Lane) (ch : Nat) (s : State) : Host.Outcome State Fault Refusal := finish s (midpointFaultEffect l ch s)
/-- GANG_FAULT. -/
def execGangFault (ch : Nat) (s : State) : Host.Outcome State Fault Refusal := finish s (gangFaultEffect ch s)
/-- SHORT_CIRCUIT. -/
def execShortCircuit (l : Lane) (ch : Nat) (s : State) : Host.Outcome State Fault Refusal := finish s (shortCircuitEffect l ch s)
/-- THERMAL_SHUTDOWN. -/
def execThermalShutdown (l : Lane) (ch : Nat) (s : State) : Host.Outcome State Fault Refusal := finish s (thermalShutdownEffect l ch s)
/-- THERMAL_COOLED. -/
def execThermalCooled (l : Lane) (ch : Nat) (s : State) : Host.Outcome State Fault Refusal := finish s (thermalCooledEffect l ch s)
/-- OUTPUT_FAULT_CLEAR. -/
def execOutputFaultClear (ch : Nat) (s : State) : Host.Outcome State Fault Refusal := finish s (outputFaultClearEffect ch s)
/-- OFF_PULSE. -/
def execOffPulse (l : Lane) (ch : Nat) (s : State) : Host.Outcome State Fault Refusal := finish s (offPulseEffect l ch s)
/-- OFF_PULSE_JUDGE. -/
def execOffPulseJudge (l : Lane) (ch : Nat) (pinOff : Bool) (s : State) : Host.Outcome State Fault Refusal :=
  finish s (offPulseJudgeEffect l ch pinOff s)
/-- OFF_PULSE_REPEAT. -/
def execOffPulseRepeat (l : Lane) (ch : Nat) (s : State) : Host.Outcome State Fault Refusal := finish s (offPulseRepeatEffect l ch s)
/-- DEFERRED_OFF_PULSE. -/
def execDeferredOffPulse (l : Lane) (ch : Nat) (s : State) : Host.Outcome State Fault Refusal := finish s (deferredOffPulseEffect l ch s)
/-- BANK_QUALIFIED. -/
def execBankQualified (b : Nat) (s : State) : Host.Outcome State Fault Refusal := finish s (bankQualifiedEffect b s)
/-- SINGLE_SWITCH_TEST_DONE. -/
def execSingleSwitchTestDone (ch step midA pinA midB pinB : Nat) (s : State) : Host.Outcome State Fault Refusal :=
  finish s (singleSwitchTestDoneEffect ch step midA pinA midB pinB s)
/-- SSW_TEST_DUE. -/
def execSswTestDue (ch : Nat) (s : State) : Host.Outcome State Fault Refusal := finish s (sswTestDueEffect ch s)
/-- SSW_OVERDUE. -/
def execSswOverdue (ch : Nat) (s : State) : Host.Outcome State Fault Refusal := finish s (sswOverdueEffect ch s)
/-- RIDE_THROUGH_EXPIRY. -/
def execRideThroughExpiry (l : Lane) (b : Nat) (s : State) : Host.Outcome State Fault Refusal := finish s (rideThroughExpiryEffect l b s)
/-- BANK_OVERCURRENT. -/
def execBankOvercurrent (l : Lane) (b : Nat) (s : State) : Host.Outcome State Fault Refusal := finish s (bankOvercurrentEffect l b s)
/-- BANK_MONITOR_FAULT. -/
def execBankMonitorFault (b : Nat) (s : State) : Host.Outcome State Fault Refusal := finish s (bankMonitorFaultEffect b s)
/-- BANK_FEED_RECOVERY. -/
def execBankFeedRecovery (b : Nat) (s : State) : Host.Outcome State Fault Refusal := finish s (bankFeedRecoveryEffect b s)

end Sys2Proof.Machine
end

