-- ==== Sys2Proof/Machine/Links.lean ====
section
/-! DEFINITION. The barrier links (R21, R22, R198 to R203): packets, their reception on both sides, the gates, silence, faults and training. -/
namespace Sys2Proof.Machine

/-- The image bytes of a packet: bit 95 first (R198). -/
def imageBytes (x : BitVec 96) : Bytes := beBytes 12 x.toNat

/-- A packet's bytes with its CRC (R199). -/
def sealPacket (b : Bytes) : Bytes := b ++ beBytes 2 (crc16 b).toNat

/-- A packet with a correct CRC and the type nibble of its direction (R199). -/
def soundPacket (p : Bytes) (type : Nat) : Bool :=
  p.length == 40 && beAt p 38 2 == (crc16 (p.take 38)).toNat && byteAt p 0 / 16 == type

/-- Is a packet valid, after a last SEQ (R199)? -/
def validPacket (p : Bytes) (type last : Nat) : Bool := soundPacket p type && byteAt p 0 % 16 == (last + 1) % 16

/-- The SEQ from which the next packet is judged. DEDUCED (log 45): a sound packet out of sequence is discarded and the receiver goes on from
its SEQ, since a commit reaches the gates within 12 µs even with one lost packet (R200). -/
def seqAfter (p : Bytes) (type last : Nat) : Nat := if soundPacket p type then byteAt p 0 % 16 else last

/-- The record bytes of the own node's parameters, in the order of the image. -/
def paramRecords (c : Image) : Bytes :=
  (c.chans.filter (fun x => x.node == c.own)).flatMap (fun x => [0x10, BitVec.ofNat 8 x.use] ++ leBytes 2 x.node
    ++ [BitVec.ofNat 8 x.chan, BitVec.ofNat 8 x.itype, BitVec.ofNat 8 x.tpsrc, 0] ++ leBytes 2 x.filt
    ++ [BitVec.ofNat 8 x.ilim, BitVec.ofNat 8 x.oflags, BitVec.ofNat 8 x.opw, 0] ++ leBytes 2 x.opi)
  ++ (c.srcs.filter (fun x => x.node == c.own)).flatMap (fun x => [0x20, 0] ++ leBytes 2 x.node
    ++ [BitVec.ofNat 8 x.src, 0] ++ leBytes 2 x.width ++ leBytes 2 x.slotDiv ++ zeros 6)
  ++ (c.banks.filter (fun x => x.node == c.own)).flatMap (fun x => [0x30, 0] ++ leBytes 2 x.node
    ++ [BitVec.ofNat 8 x.bank, 0] ++ leBytes 2 x.trip ++ leBytes 2 x.ride ++ zeros 6)

/-- T_BL of the own node in units of 10 µs (R202). -/
def tblOf (c : Option Image) : Nat := ((c.bind ownRec).map (fun r => r.tbl)).getD 10

/-- The parameter set of a configuration for the links, or the default parameters (R203, R362). -/
def paramSet (c : Option Image) : Bytes := Config.blParams ((c.map paramRecords).getD []) (tblOf c)

/-- The configuration of which training hands over the parameters: none in steps 1 to 9 of a start-up or wake (R362, R363, R409). -/
def trainCfg (s : State) : Option Image := if s.sys.running != 0 && s.sys.running < 10 then none else s.cfg

/-- First 4 bytes of the CRC-32C of a parameter set (R203). -/
def paramCrc (c : Option Image) : Bytes := beBytes 4 (crc32c (paramSet c)).toNat

/-- The module is in FALLOW under the other lane, so that this lane's interface relays its commits (R21, R140). -/
def relaying (s : State) (l : Lane) : Bool := marked s l && s.lan.inRun

/-- The lane sends ALLOFF: after a fault, in STANDBY, in a halt and in bench mode (R124, R368, R403, R409). -/
def sendsAllOff (s : State) (l : Lane) : Bool := (linkAt s l).allOff || inBench s || s.sys.halt || s.sys.entering

/-- The next downlink packet of a lane (R198); one with a frame marker carries a time stamp (DESIGN CHOICE, log 126). -/
def downPacket (s : State) (l : Lane) : Bytes :=
  let k := linkAt s l
  let train := k.st == .training
  let flags := b2n k.marker + 2 * b2n (sendsAllOff s l) + 4 * b2n train + 8 * b2n (relaying s l)
  let blk := k.aux % 63
  let aux := if train then BitVec.ofNat 8 (blk + 1) :: ((slice (paramSet (trainCfg s)) (23 * blk) 23) ++ zeros 23).take 23
    else if k.marker then 0x40 :: (beBytes 8 s.tb.toNat ++ zeros 15) else zeros 24
  sealPacket ([BitVec.ofNat 8 (16 + k.dnSend % 16), BitVec.ofNat 8 flags] ++ imageBytes k.image ++ aux)

/-- The uplink pages: channels, sources, banks and the parameter digest; the temperature of a channel is a free value (R198). -/
def upPage (s : State) (l : Lane) : Bytes :=
  let a := (linkAt s l).aux % 127
  if a < 96 then
    let o := outChan s a
    let i := inAt s a
    let isIn := (seqCfg s l).any (fun c => isSafeIn c a)
    let q := seqAt s l a
    let cause := if isIn then ((q.bandFaults ++ q.codeFault.toList).headD 0) else (o.causes.map (fun x => x.cause)).headD 0
    let w := swAt o l
    let flags := if isIn then q.foreign else b2n o.mid + 2 * b2n o.limit + 4 * b2n w.therm + 8 * b2n o.overdue
    let cur := if isIn then (match l with
      | .a => i.curA
      | .b => i.curB) / 1000 else o.cur
    [BitVec.ofNat 8 a] ++ beBytes 2 cur ++ [(Config.freeVal s.freeCnt).setWidth 8, BitVec.ofNat 8 cause] ++ [BitVec.ofNat 8 flags]
  else if a < 120 then [BitVec.ofNat 8 a] ++ beBytes 2 (srcAt s (a - 96)).cur ++ zeros 3
  else if a < 126 then
    let k := bankAt s (a - 120)
    [BitVec.ofNat 8 a] ++ beBytes 2 (match l with
      | .a => k.feedA
      | .b => k.feedB) ++ beBytes 2 k.cur ++ zeros 1
  else [0x80] ++ paramCrc (if (linkAt s l).st == .training then trainCfg s else (linkAt s l).given) ++ zeros 1

/-- STATE of an uplink packet that carries no latch: the accepted inputs now, and the readback last latched (R198). -/
def upState (s : State) (l : Lane) : BitVec 96 := seqStateBits s l (linkAt s l).seqState

/-- The next uplink packet of a sequencer (R198). -/
def upPacket (s : State) (l : Lane) : Bytes :=
  let k := linkAt s l
  let latch := 0 < k.latSend
  let flags := b2n latch + 2 * b2n k.safe + 4 * b2n k.rxErr
  sealPacket ([BitVec.ofNat 8 (32 + k.upSend % 16), BitVec.ofNat 8 flags]
    ++ imageBytes (if latch then k.seqState else upState s l) ++ imageBytes k.seqFault
    ++ k.seqBank.map (BitVec.ofNat 8) ++ upPage s l)

/-- BL_PACKET_SEND: the next packet in each direction (R22, R200). -/
def blPacketSendEffect (l : Lane) (s : State) : State :=
  if !seqOn s l then s
  else
    let dn := downPacket s l
    let up := upPacket s l
    let s := modLink s l (fun k => { k with dnSend := (k.dnSend + 1) % 16, upSend := (k.upSend + 1) % 16, marker := false,
                                            latSend := k.latSend - 1, rxErr := false, aux := (k.aux + 1) % 8001 })
    nextFree { s with fld := { s.fld with sent := s.fld.sent ++ [(l, true, dn), (l, false, up)] } }

/-- A switch with its gate set at an instant: opening it ends a pulse with the switch open, and a switch held off after a thermal shutdown is
free again, unless its standard output is latched off (R180, R184). -/
def setGate (tb : BitVec 64) (latched : Bool) (w : SwitchSt) (v : Bool) : SwitchSt :=
  if w.gate == v then w
  else if v then { w with gate := true }
  else
    let w := { w with gate := false, pulsing := false, deferred := false, shifted := false, offTb := some tb }
    if latched then w else { w with held := false, opened := w.opened && (w.therm || !w.held) }

/-- The gate that a sequencer applies to channel ch for an image bit: safety gates open on ALLOFF, in SAFE, after two invalid packets and in
training; standard outputs take SAFE_STD in SAFE and on ALLOFF (R200, R202, R203). -/
def gateFor (c : Image) (k : LinkSt) (ch : Nat) (bit : Bool) : Bool :=
  if k.st == .training then false
  else if isSafeOut c ch then bit && !k.offRx && !k.safe && !k.openRx
  else if chanUse c ch == 6 then (if k.offRx || k.safe then (safeStdMask c).getLsbD ch else bit)
  else false

/-- A test in progress ends, and waits, when its channel is no longer applied off (R186). -/
def pauseTest (o : OutCh) : OutCh := if bothOpen o then o else { o with testDue := o.testDue || o.test != 0, test := 0 }

/-- Single-switch tests that are due start on channels now applied off, a ganged pair's together; one that a sag has discarded waits for its end
(R181, R186, R192). -/
def startDue (s : State) : State :=
  if testsRest s then s
  else (idxs 96 (fun ch => (outChan s ch).testDue && (outChan s ch).test == 0)).foldl (fun t ch =>
    if ((outChan t ch).testHeld && (bankAt t (ch / 16)).st == .sag) || !(pairOf t ch).all (fun k => bothOpen (outChan t k)) then t else beginTest t ch) s

/-- Every gate of a sequencer set from an image, all open with default parameters; outputs of an untested bank stay off (R27, R200, R362).
Output tests that have waited run where they may. -/
def setGates (s : State) (l : Lane) (img : Nat → Bool) : State :=
    let k := linkAt s l
    runWaiting (startDue { s with fld := { s.fld with outs := s.fld.outs.zipIdx.map (fun p =>
      let v := (seqCfg s l).any (fun c => gateFor c k p.2 (img p.2)) && !(untestedMask s).getLsbD p.2
      let set := fun (w : SwitchSt) => setGate s.tb (s.host.stdLatch.getLsbD p.2) w v
      pauseTest (match l with
        | .a => { p.1 with swA := set p.1.swA }
        | .b => { p.1 with swB := set p.1.swB })) } })

/-- The gates formed anew from those in force. -/
def holdGates (s : State) (l : Lane) : State := setGates s l (fun ch => (swAt (outChan s ch) l).gate)

/-- An invalid packet is counted (R199, R204). -/
def countBad (k : LinkSt) : LinkSt := { k with err := satAdd k.err 1 }

/-- BL_DOWNLINK_RX: the sequencer checks a packet and follows it (R199, R200, R202). -/
def blDownlinkRxEffect (l : Lane) (p : Bytes) (s : State) : State :=
  let k := linkAt s l
  if !seqOn s l then s
  else if !validPacket p 1 k.dnLast then
    let s := modLink s l (fun k => { countBad k with dnLast := seqAfter p 1 k.dnLast, badRun := k.badRun + 1, rxErr := true, openRx := k.openRx || 1 ≤ k.badRun })
    if (linkAt s l).openRx then holdGates s l else s
  else
    let f := byteAt p 1
    let img := beAt p 2 12
    let s := modLink s l (fun k => { k with dnLast := byteAt p 0 % 16, badRun := 0, openRx := false, offRx := nbit f 1,
                                            latSend := if nbit f 0 then 2 else k.latSend })
    if nbit f 2 then setGates s l (fun _ => false) else setGates s l (nbit img)

/-- BL_SILENCE_SEQUENCER: no valid packet for T_BL; safety gates open, standard outputs take SAFE_STD, SAFE is set (R202). -/
def blSilenceSequencerEffect (l : Lane) (s : State) : State :=
  if !seqOn s l then s else holdGates (modLink s l (fun k => { k with safe := true })) l

/-- BL_FAULT of a lane: a module-wide fault at once; its link is down, or in silence (R131, R202). -/
def linkFault (s : State) (l : Lane) (st : LinkState) : State :=
  if (linkAt s l).st != .up then s else faultAtOnce (modLink s l (fun k => { k with st := st })) 30 0x25

/-- BL_LATCH_MISS: the latch of the frame is replaced; the third miss in succession is silence. Of a link that is not up the latch has been
replaced at F(n), and the miss is counted (R201). -/
def blLatchMissEffect (l : Lane) (s : State) : State :=
  let k := linkAt s l
  if k.latOk || k.missed || !s.lan.timerOn then s
  else if k.st != .up then modLink s l (fun k => { k with miss := satAdd k.miss 1, missed := true })
  else
    let s := modLink s l (fun k => { k with latState := 0, latFault := k.prevFault, latBank := k.prevBank, miss := satAdd k.miss 1,
                                            missRun := k.missRun + 1, missed := true })
    let s := rejudge s
    if 3 ≤ (linkAt s l).missRun then linkFault s l .down else s

/-- BL_UPLINK_RX: the lane checks a packet; SAFE is a BL_FAULT at once, and the first valid latch packet by F(n) + 8 µs is the frame's
latch (R199 to R202). -/
def blUplinkRxEffect (l : Lane) (p : Bytes) (s : State) : State :=
  let k := linkAt s l
  if !validPacket p 2 k.upLast then modLink s l (fun k => { countBad k with upLast := seqAfter p 2 k.upLast })
  else if k.st == .down then modLink s l (fun k => { k with upLast := byteAt p 0 % 16 })
  else
    let f := byteAt p 1
    let s := modLink s l (fun k => { k with upLast := byteAt p 0 % 16 })
    if nbit f 1 then linkFault s l .silence
    else if nbit f 0 && k.st == .up && !k.latOk && !k.missed && s.lan.timerOn && (s.tb - s.lan.fstart).toNat ≤ 800 then
      let bytes := (List.range 6).map (fun b => byteAt p (26 + b))
      rejudge (modLink s l (fun k => { k with
        latOk := true, latState := BitVec.ofNat 96 (beAt p 2 12), latFault := BitVec.ofNat 96 (beAt p 14 12), latBank := bytes }))
    else s

/-- BL_FAULT: a lane has received no valid uplink packet for T_BL (R202). -/
def blFaultEffect (l : Lane) (s : State) : State := linkFault s l .down

/-- The lanes stay in ALLOFF: after a fault at once that only a module reset ends (R124, R148, R405; DEDUCED, log 171: over STANDBY too). -/
def allOffStays (s : State) : Bool := s.lan.needReset && s.lan.modFault != some 0x26

/-- A link as training leaves it: up, with both receivers in step and no safe state, and with the parameters handed over, which are in force at
once where frames run already (R202, R203, R365). After a fault that only a module reset ends the lanes go on sending ALLOFF (R148, R405). -/
def trained (s : State) (c : Option Image) (k : LinkSt) : LinkSt :=
  { k with st := .up, given := c, par := if s.lan.timerOn && !s.lan.fresh then c else k.par, safe := false, offRx := false, openRx := false, badRun := 0,
           rxErr := false, allOff := k.allOff && allOffStays s, missRun := 0, missed := false,
           dnLast := (k.dnSend + 15) % 16, upLast := (k.upSend + 15) % 16 }

/-- Both links are trained: what a BL_FAULT has left is over (R148, R203). -/
def linksGood (s : State) : State :=
  { s with lan := { s.lan with blFault := false, allOff := s.lan.allOff && allOffStays s } }

/-- BL_TRAINING: the sequencer answers with the digest of the parameter set; training ends when both sides agree (R203). -/
def blTrainingEffect (l : Lane) (answer : Bytes) (s : State) : State :=
  if s.lan.inRun || !seqOn s l || (linkAt s l).st != .training then s
  else
    let s := if answer.take 4 == paramCrc (trainCfg s) then modLink s l (trained s (trainCfg s)) else modLink s l (fun k => { k with st := .down })
    if s.fld.linkA.st == .up && s.fld.linkB.st == .up then linksGood s else s

/-- Training of one link begins: every gate of its sequencer opens, and SAFE stays until the link is trained (R202, R203). -/
def beginTraining (s : State) (l : Lane) : State :=
  if !seqOn s l then s else setGates (modLink s l (fun k => { k with st := .training })) l (fun _ => false)

/-- BL_TRAIN_RETRY: in HOLD, after a BL_FAULT or a training that failed, both links train again (R203). -/
def blTrainRetryEffect (s : State) : State :=
  let down := s.fld.linkA.st != .up || s.fld.linkB.st != .up
  if s.lan.inRun || s.sys.halt || s.sys.running != 0 || s.sys.entering || s.sys.pwr == 3 || !(s.lan.blFault || down) then s else beginTraining (beginTraining s .a) .b

/-- BL_PACKET_SEND. -/
def execBlPacketSend (l : Lane) (s : State) : Host.Outcome State Fault Refusal := finish s (blPacketSendEffect l s)
/-- BL_DOWNLINK_RX. -/
def execBlDownlinkRx (l : Lane) (p : Bytes) (s : State) : Host.Outcome State Fault Refusal := finish s (blDownlinkRxEffect l p s)
/-- BL_UPLINK_RX. -/
def execBlUplinkRx (l : Lane) (p : Bytes) (s : State) : Host.Outcome State Fault Refusal := finish s (blUplinkRxEffect l p s)
/-- BL_SILENCE_SEQUENCER. -/
def execBlSilenceSequencer (l : Lane) (s : State) : Host.Outcome State Fault Refusal := finish s (blSilenceSequencerEffect l s)
/-- BL_LATCH_MISS. -/
def execBlLatchMiss (l : Lane) (s : State) : Host.Outcome State Fault Refusal := finish s (blLatchMissEffect l s)
/-- BL_FAULT. -/
def execBlFault (l : Lane) (s : State) : Host.Outcome State Fault Refusal := finish s (blFaultEffect l s)
/-- BL_TRAINING. -/
def execBlTraining (l : Lane) (answer : Bytes) (s : State) : Host.Outcome State Fault Refusal := finish s (blTrainingEffect l answer s)
/-- BL_TRAIN_RETRY. -/
def execBlTrainRetry (s : State) : Host.Outcome State Fault Refusal := finish s (blTrainRetryEffect s)

end Sys2Proof.Machine
end

