-- ==== Sys2Proof/Machine/Smu.lean ====
section
/-! DEFINITION. The Safe Motion Unit (R206 to R216, R228, R229): edges, port faults, the latch with its speeds, and the axis words. -/
namespace Sys2Proof.Machine

/-- The record of an own axis (R209). -/
def axisRec (s : State) (a : Nat) : Option AxisRec := s.cfg.bind (fun c => c.axes.find? (fun x => x.node == c.own && x.axis == a))

/-- Change axis a. -/
def modAxis (s : State) (a : Nat) (g : AxisSt → AxisSt) : State := { s with smu := modAt s.smu a g }

/-- Axis a. -/
def axisAt (s : State) (a : Nat) : AxisSt := s.smu.getD a AxisSt.reset

/-- A 48-bit count as a signed number. -/
def count48 (x : BitVec 48) : Int := x.toInt

/-- A half after a counted edge: the low and high counters, the change count at a carry or borrow, and the stamp (R211, R212). -/
def countEdge (h : PortHalf) (up : Bool) (stamp : BitVec 64) : PortHalf :=
  let pos := if up then h.pos + 1 else h.pos - 1
  let wrapped := (pos.extractLsb' 32 16) != (h.pos.extractLsb' 32 16)
  { h with pos := pos, chg := if wrapped then h.chg + 1 else h.chg, counted := true, t1 := stamp }

/-- The step of a quadrature port between two accepted states: none without a change or with both (R207, R208). -/
def quadStep (la lb la' lb' : Bool) : Option Bool :=
  if la != la' && lb == lb' then some ((la' != lb) == Config.leadUp)
  else if la == la' && lb != lb' then some ((lb' == la) == Config.leadUp)
  else none

/-- What an accepted edge counts on a port: its direction, if it counts (R207). -/
def edgeStep (pickup : Bool) (h : PortHalf) (la lb : Bool) : Option Bool :=
  if pickup then (if la && !h.la then some true else none) else quadStep h.la h.lb la lb

/-- A half takes an edge: levels, count, and the count at a rising Z edge. -/
def halfEdge (pickup : Bool) (h : PortHalf) (la lb z : Bool) (stamp : BitVec 64) : PortHalf :=
  let h' := match edgeStep pickup h la lb with
    | some up => countEdge h up stamp
    | none => h
  { h' with la := la, lb := lb, lz := z, zpos := if z && !h.lz then some h'.pos else h'.zpos }

/-- The ports of a cause in either half. -/
def causePorts (c : AxisCause) : BitVec 2 := c.byA ||| c.byB

/-- A fault cause set on an axis, with the ports on which each half declares it; the entry into fault raises AXIS_FAULT (R208, R228, R229). -/
def setAxisCause (s : State) (a cause : Nat) (byA byB : BitVec 2) : State :=
  let x := axisAt s a
  if byA ||| byB == 0 then s
  else if x.causes.any (fun c => c.cause == cause) then
    modAxis s a (fun x => { x with causes := x.causes.map (fun c => if c.cause == cause then ⟨cause, c.byA ||| byA, c.byB ||| byB⟩ else c) })
  else
    let s' := modAxis s a (fun x => { x with causes := x.causes ++ [⟨cause, byA, byB⟩],
                                             fltCnt := if x.causes.isEmpty then satAdd x.fltCnt 1 else x.fltCnt })
    if x.causes.isEmpty then raise s' (112 + 4 * a) a cause (byA ||| byB).toNat else s'

/-- A cause of an axis clears on the given ports; when the last one has gone AXIS_CLEAR is raised (R216, R229). -/
def dropAxisCause (s : State) (a cause : Nat) (ports : BitVec 2) : State :=
  match (axisAt s a).causes.find? (fun c => c.cause == cause) with
  | none => s
  | some k =>
    let s' := modAxis s a (fun x => { x with causes := x.causes.filterMap (fun c =>
      if c.cause != cause then some c
      else
        let c' : AxisCause := ⟨cause, c.byA &&& ~~~ports, c.byB &&& ~~~ports⟩
        if causePorts c' == 0 then none else some c') })
    if (axisAt s' a).causes.isEmpty then raise s' (113 + 4 * a) a cause (causePorts k).toNat else s'

/-- The port type of a port of an axis record (R207, R209). -/
def portType (r : AxisRec) (port : Nat) : Nat := if port == 0 then r.ptype else r.stype
/-- Lines per revolution of a port, 0 for no Z check. -/
def portPpr (r : AxisRec) (port : Nat) : Nat := if port == 0 then r.pprP else r.pprS

/-- Counts between two rising Z edges outside 4 × PPR ± 2 (R208). -/
def zBad (h : PortHalf) (now : BitVec 48) (ppr : Nat) : Bool := match h.zpos with
  | some p => let d := (now - p).toInt.natAbs; d + 2 < 4 * ppr || 4 * ppr + 2 < d
  | none => false

/-- The level of a signal after one more sample: a level is accepted only after three equal samples (R207). -/
def acceptLevel (old s2 s1 new : Bool) : Bool := if s2 == s1 && s1 == new then new else old

/-- The levels that a half holds accepted after one more sample of its port. -/
def acceptLevels (h : PortHalf) (y : Levels) : Levels :=
  ⟨acceptLevel h.la h.s2.a h.s1.a y.a, acceptLevel h.lb h.s2.b h.s1.b y.b, acceptLevel h.lz h.s2.z h.s1.z y.z⟩

/-- A half finds both A and B changed (R208). -/
def illegalStep (pickup : Bool) (h : PortHalf) (x : Levels) : Bool := !pickup && h.la != x.a && h.lb != x.b

/-- A half finds a wrong count at a rising Z edge of a port with lines per revolution (R208). -/
def zStep (pickup : Bool) (ppr : Nat) (h new : PortHalf) (x : Levels) : Bool :=
  !pickup && ppr != 0 && x.z && !h.lz && zBad h new.pos ppr

/-- What a half makes of samples of one port: the half after them, ILLEGAL and ZCHECK found (R208), a rising Z edge, and the direction of
the last edge counted. -/
structure Sampled where
  h : PortHalf
  illegal : Bool
  zbad : Bool
  zrise : Bool
  dir : Option Bool

/-- One sample of a port: the filter, and the accepted levels counted and judged (R207, R208). -/
def sampleHalf (pickup : Bool) (ppr : Nat) (t : Sampled) (y : Levels) (stamp : BitVec 64) : Sampled :=
  let x := acceptLevels t.h y
  let n := halfEdge pickup t.h x.a x.b x.z stamp
  ⟨{ n with s1 := y, s2 := t.h.s1 }, t.illegal || illegalStep pickup t.h x, t.zbad || zStep pickup ppr t.h n x,
    t.zrise || (x.z && !t.h.lz), (edgeStep pickup t.h x.a x.b).orElse (fun _ => t.dir)⟩

/-- The samples of a port in one half, oldest first, one every 10 ns and the last at `now` on the half's own clock. -/
def sampleRun (pickup : Bool) (ppr : Nat) (now : BitVec 64) : Sampled → List Levels → Sampled
  | t, [] => t
  | t, y :: rest => sampleRun pickup ppr now (sampleHalf pickup ppr t y (now - BitVec.ofNat 64 rest.length)) rest

/-- A half takes the samples of a port, if they are its own. -/
def halfTake (pickup : Bool) (ppr : Nat) (now : BitVec 64) (h : PortHalf) (own : Bool) (x : List Levels) : Sampled :=
  sampleRun pickup ppr now ⟨h, false, false, false, none⟩ (if own then x else [])

/-- A port's bit in a mask of ports. -/
def portBit (port : Nat) (v : Bool) : BitVec 2 := if v then BitVec.ofNat 2 (port + 1) else 0

/-- ENCODER_EDGE: the samples that carry an edge of a port, at the receivers of DA (`inA`) or DB or both: each half filters its own, counts what
it accepts and judges ILLEGAL and ZCHECK on a configured axis (R206 to R208, R211). A port of an axis without a record counts as a quadrature
port (log 62). -/
def encoderEdgeEffect (ax port : Nat) (y : List Levels) (inA inB : Bool) (s : State) : State :=
  if !hasSmuOf s.sys.variant || 4 ≤ ax || 2 ≤ port then s
  else
    let x := axisAt s ax
    let r := axisRec s ax
    let pickup := r.any (fun r => portType r port == 3)
    let ppr := r.elim 0 (fun r => portPpr r port)
    let oldA := if port == 0 then x.pA else x.sA
    let oldB := if port == 0 then x.pB else x.sB
    let da := halfTake pickup ppr s.tb oldA inA y
    let db := halfTake pickup ppr s.clkB oldB inB y
    let x' := if port == 0 then { x with pA := da.h, pB := db.h, dirp := (da.dir.map (fun up => !up)).getD x.dirp, zseen := x.zseen || da.zrise }
      else { x with sA := da.h, sB := db.h }
    let s1 := modAxis s ax (fun _ => x')
    match r with
    | none => s1
    | some _ =>
      let s2 := setAxisCause s1 ax 1 (portBit port da.illegal) (portBit port db.illegal)
      setAxisCause s2 ax 5 (portBit port da.zbad) (portBit port db.zbad)

/-- ENCODER_WIRE_FAULT: a half has found too small a differential on an RS-422 port for 2 µs (R208). -/
def encoderWireFaultEffect (l : Lane) (ax port : Nat) (s : State) : State := match axisRec s ax with
  | some r =>
    if hasSmuOf s.sys.variant && port < 2 && portType r port == 2
    then setAxisCause s ax 2 (portBit port (l == .a)) (portBit port (l == .b)) else s
  | none => s

/-- XCHECK_FAULT: primary and secondary speeds have disagreed for longer than XTIME (R215). -/
def xcheckFaultEffect (ax : Nat) (s : State) : State :=
  if hasSmuOf s.sys.variant && (axisRec s ax).any (fun r => r.xtime * 100000 < (axisAt s ax).xt) then setAxisCause s ax 4 3 3 else s

/-- AXIS_FAULT_CLEAR: a cause has been absent from a port for 1 s. XCHECK is of both ports and needs the last frame within its tolerance;
DECODE stays until RUN is entered (R213, R216). -/
def axisFaultClearEffect (ax : Nat) (c : PortCause) (s : State) : State :=
  if c.cause == 3 then s
  else if c.cause == 4 then (if (axisAt s ax).xt == 0 then dropAxisCause s ax 4 3 else s)
  else dropAxisCause s ax c.cause (portBit c.port true)

/-- Ticks of 10 ns in a second, in the 32.32 format. -/
def perSecond : Int := 100000000 * 2 ^ 32

/-- The speed of a port by one half at a latch (R214), in 32.32; latches before the first count as reset values. -/
def halfSpeed (h : PortHalf) (spwin : Nat) (tL : BitVec 64) (pickup : Bool) : Int :=
  if !h.counted then 0
  else
    let old := h.past.getD (spwin - 1) (0, 0)
    let dn := count48 (h.pos - old.1)
    let v := if dn != 0 then
        let dt := (h.t1 - old.2).toNat
        if dt == 0 then Config.speedByZero dn else (dn * perSecond).tdiv dt
      else
        let dt := (tL - h.t1).toNat
        let bound : Nat := if dt == 0 then (Config.speedByZero 0).natAbs else (perSecond.tdiv dt).natAbs
        h.v.sign * (min h.v.natAbs bound : Nat)
    if pickup then v.natAbs else v

/-- A half after its latch. -/
def halfLatch (h : PortHalf) (v : Int) : PortHalf := { h with v := v, past := ((h.pos, h.t1) :: h.past).take 16 }

/-- The larger in magnitude of two estimates; the first on a tie (R213). -/
def largerSpeed (x y : Int) : Int := if x.natAbs < y.natAbs then y else x

/-- What one frame's latch makes of an axis (R213 to R215): the deviation and tolerance in 32.32, and the axis speed. -/
structure AxisLatch where
  vP : Int
  vS : Int
  dev : Nat
  tol : Nat
  v : Int

/-- R215. DEDUCED (log 64): a primary speed of 0 has the sign +, so that V is never below either estimate in magnitude. -/
def axisJudge (r : AxisRec) (vP vS : Int) : AxisLatch :=
  let vs := (vS * r.ratio) / 2 ^ 32
  let dev := if r.stype == 3 then ((vP.natAbs : Int) - vs).natAbs else (vP - vs).natAbs
  let tol := max (r.tolAbs * 2 ^ 32) (max vP.natAbs vs.natAbs * r.tolRel / 1000)
  let v := if vP.natAbs < vs.natAbs then (if r.stype == 3 && vP < 0 then -vs else vs) else vP
  ⟨vP, vS, dev, tol, v⟩

/-- A port whose two latched counts differ by more than 2 (R213). -/
def decodeBad (x y : PortHalf) : Bool := 2 < (x.pos - y.pos).toInt.natAbs

/-- Edge rate above which RATE_WARN is raised (R229), in 32.32. -/
def rateLimit (pickup : Bool) : Nat := (if pickup then 4000 else 800000) * 2 ^ 32

/-- The ports of an axis whose two latched counts differ by more than 2 (R213). -/
def decodePorts (x : AxisSt) : BitVec 2 := portBit 0 (decodeBad x.pA x.pB) ||| portBit 1 (decodeBad x.sA x.sB)

/-- An axis at F(n) (R213 to R216, R229). Both halves latch the counters and last-edge data of an axis without a record too, and the agreed
counts are formed and DECODE judged; only its speeds are not, since SPWIN and the port types come from the record (R210; log 62). -/
def latchAxis (lagB : Nat) (s : State) (a : Nat) : State := match axisRec s a with
  | none =>
    let x := axisAt s a
    let ports := decodePorts x
    setAxisCause (modAxis s a (fun x => { x with
      pA := halfLatch x.pA 0, pB := halfLatch x.pB 0, sA := halfLatch x.sA 0, sB := halfLatch x.sB 0,
      lat := x.pA.pos, spd := 0, xdev := 0 })) a 3 ports ports
  | some r =>
    let x := axisAt s a
    let pk := r.stype == 3
    let tB := s.clkB + BitVec.ofNat 64 lagB
    let pa := halfSpeed x.pA r.spwin s.tb false
    let pb := halfSpeed x.pB r.spwin tB false
    let sa := halfSpeed x.sA r.spwin s.tb pk
    let sb := halfSpeed x.sB r.spwin tB pk
    let j := axisJudge r (largerSpeed pa pb) (largerSpeed sa sb)
    let tf := tfTicks s
    let xt := if j.tol < j.dev then x.xt + tf else 0
    let near := j.tol < 2 * j.dev
    let wt := if near then x.wt + tf else 0
    let xtime := r.xtime * 100000
    let devReg := BitVec.ofNat 32 (min (j.dev / 2 ^ 32) 0xFFFFFFFF)
    let fast := (if rateLimit false < j.vP.natAbs then 1 else 0) + (if rateLimit pk < j.vS.natAbs then 2 else 0)
    let s1 := modAxis s a (fun x => { x with
      pA := halfLatch x.pA pa, pB := halfLatch x.pB pb, sA := halfLatch x.sA sa, sB := halfLatch x.sB sb,
      lat := x.pA.pos, spd := j.v, xdev := devReg, xpeak := bvMax x.xpeak devReg, xt := xt, wt := wt,
      xwarned := near && x.xwarned, rwarned := fast != 0 })
    let ports := decodePorts x
    let s2 := setAxisCause s1 a 3 ports ports
    let s3 := if xtime < xt then setAxisCause s2 a 4 3 3 else s2
    let s4 := if near && xtime ≤ wt && !x.xwarned && (axisAt s3 a).causes.isEmpty then
        raise (modAxis s3 a (fun x => { x with xwarned := true })) (114 + 4 * a) a 0 0 else s3
    if fast != 0 && !x.rwarned then raise s4 (115 + 4 * a) a 0 fast else s4

/-- Every axis at F(n). -/
def latchSmu (s : State) (lagB : Nat) : State :=
  if hasSmuOf s.sys.variant then (List.range 4).foldl (latchAxis lagB) s else s

/-- The two words of an axis, INT and SPEED (R216). -/
def axisWords (s : State) (a : Nat) : List W72 :=
  let x := axisAt s a
  if (axisRec s a).isNone then []
  else if x.causes.isEmpty then [validWord (BitVec.ofInt 64 (count48 x.lat)), validWord (BitVec.ofInt 64 x.spd)]
  else [faultWord 0, faultWord 0]

/-- Axes on entry to RUN: DB's counters take DA's, DECODE ends, counters and peaks are cleared (R211, R213, R228). -/
def startSmu (s : State) : State :=
  let s := (List.range 4).foldl (fun t a => dropAxisCause t a 3 3) s
  { s with smu := s.smu.map (fun x => { x with pB := { x.pB with pos := x.pA.pos }, sB := { x.sB with pos := x.sA.pos },
                                               xpeak := 0, fltCnt := 0, zseen := false }) }

/-- ENCODER_EDGE. -/
def execEncoderEdge (ax port : Nat) (x : List Levels) (inA inB : Bool) (s : State) : Host.Outcome State Fault Refusal :=
  finish s (encoderEdgeEffect ax port x inA inB s)
/-- ENCODER_WIRE_FAULT. -/
def execEncoderWireFault (l : Lane) (ax port : Nat) (s : State) : Host.Outcome State Fault Refusal :=
  finish s (encoderWireFaultEffect l ax port s)
/-- XCHECK_FAULT. -/
def execXcheckFault (ax : Nat) (s : State) : Host.Outcome State Fault Refusal := finish s (xcheckFaultEffect ax s)
/-- AXIS_FAULT_CLEAR. -/
def execAxisFaultClear (ax : Nat) (c : PortCause) (s : State) : Host.Outcome State Fault Refusal :=
  finish s (axisFaultClearEffect ax c s)

end Sys2Proof.Machine
end

