-- ==== Sys2Proof/Machine/Frames.lean ====
section
/-! DEFINITION. The instants of a frame (R32 to R52): the frame start F(n) with its latches, the entry into RUN, and the commit instant C(n) with
everything that happens at it (R36, R40, R41, R116, R130, R135, R136, R142, R143, R193, R294, R332, R335, R338, R404). -/
namespace Sys2Proof.Machine

/-- Is a lane marked faulty? -/
def anyMark (s : State) : Bool := s.lan.markA || s.lan.markB

/-- The LAN, RDL and diagnosis fields that entry into RUN clears (R52, R126). -/
def clearRunPages (s : State) (n : Nat) : State :=
  { s with
    lan := { s.lan with
      inRun := true, fstate := 2, nrun := BitVec.ofNat 64 n, startAt := none, clkFault := false, overrun := false,
      skewFault := false, skewWarn := false, late := false, skewPeak := 0, cycPeak := 0,
      emargin := 0xFFFFFFFF, vmargin := 0xFFFFFFFF, lateCnt := 0, lates := [], modFault := none, allOff := false, diag := none,
      evalA := { s.lan.evalA with waiting := false }, evalB := { s.lan.evalB with waiting := false } },
    rdl := { s.rdl with
      entry := false, mismatch := false, active := !anyMark s, decoyCnt := 0, mmCnt := 0, eeCnt := 0, lastMm := 0, lastFrame := 0, lastDiff := 0,
      mmHeld := [], qPeak := 0, waitCnt := 0, q0 := [], q1 := [], way0 := [], way1 := [], verds := [], ee0 := none, ee1 := none, decoys := 0,
      decoyOpen := [] } }

/-- The counters of the other pages, the host states and the request slots that entry into RUN clears (R172, R204, R255, R269, R334, R335, R338). -/
def clearRunHost (s : State) : State :=
  let link := fun (k : LinkSt) => { k with err := 0, miss := 0, allOff := false }
  { s with
    host := { s.host with
      std := 0, clearReq := 0, slots := List.replicate 256 none, slotLatch := List.replicate 256 none, reports := List.replicate 256 none },
    fld := { s.fld with idisCnt := 0, linkA := link s.fld.linkA, linkB := link s.fld.linkB },
    ksl := { s.ksl with
      txCnt := 0, rxCnt := 0, chkCnt := 0, oldCnt := 0, fenceCnt := 0, foreignCnt := 0, slowCnt := 0,
      cons := s.ksl.cons.map (fun x => { x with chk := 0, agePeak := 0 }) },
    net := { s.net with rx0 := 0, rx1 := 0, errCnt := 0, dropCnt := 0 },
    cuts := { s.cuts with owns := s.cuts.owns.map (fun o => { o with seen := false, expired := false, a := ⟨[], []⟩, b := ⟨[], []⟩ }) } }

/-- Entry into RUN at F(n) (R32, R67, R305, R323, R373): every function starts in its safe state from start-up values. -/
def enterRun (s : State) (c : Image) (n : Nat) : State :=
  let s := adoptMode (clearRunHost (clearRunPages s n))
  let s := startSmu { s with sys := { s.sys with pwr := 2, step := 14 }, plt := { s.plt with rejoin := false } }
  raise { s with fns := s.fns.map (fun f => restartFn s c f 0) } 253 2 0 0

/-- Forced targets take effect at the next latch (R403). -/
def takeForced (s : State) : State := { s with lcy := { s.lcy with forced := s.lcy.forcedNext } }

/-- The agreed input image of the frame that begins, in lane A form (R34). -/
def agreedImage (s : State) (c : Image) : LaneImg := fieldImg s c
  { inputs := [], chok := [], banks := [], axes := (List.range 4).map (axisWords s),
    conns := s.ksl.cons.map (fun x => (x.conn.id, viewOf s x)), slots := slotViews s }

/-- What the latch takes of every output forward that has delivered a frame (R279, R302). -/
def forwardLatches (s : State) : List FwdLatch := s.ksl.cons.filterMap (fun x =>
  if x.conn.type == 1 && x.conn.sub == 2 then x.newest.map (fun n => ⟨x.conn.id, n.1.leaseEpoch, n.2.1⟩) else none)

/-- The latched image of frame n: both lanes form the same agreed values, each in its own form (R34, R105). -/
def formImage (s : State) (c : Image) (n : Nat) : FrameImg where
  n := n
  tb := s.tb
  run := s.lan.inRun
  inA := agreedImage s c
  inB := laneImg .b (agreedImage s c)
  fwds := forwardLatches s
  off := banksOff s
  mode := s.mode.applied
  epoch := s.mode.epoch.toNat
  window := windowNow s
  page := pageBits s c
  bankst := bankCodes s

/-- The frame's decoy (R122): in RUN, in decoy frames, while no lane is marked. -/
def beginDecoy (s : State) (n : Nat) : State :=
  if s.lan.inRun && s.rdl.active && decoyFrame s n then
    { s with rdl := { s.rdl with decoyOpen := s.rdl.decoyOpen ++ [(n, s.rdl.decoys)], decoys := s.rdl.decoys + 1 } }
  else s

/-- The image joins the open frames, and in RUN both lanes have frame n to evaluate. -/
def pushFrame (s : State) (c : Image) (n lagB : Nat) : State :=
  let img := formImage s c n
  let todo := fun (e : LaneEval) => if s.lan.inRun then { e with todo := e.todo ++ [n] } else e
  let s := { s with lan := { s.lan with
    imgs := img :: s.lan.imgs.take 3, open_ := s.lan.open_ ++ [n], evalA := todo s.lan.evalA, evalB := todo s.lan.evalB } }
  beginDecoy (noteSkew s n lagB true) n

/-- The connections as the KSL page shows them (R255). -/
def showConns (s : State) : State := { s with ksl := { s.ksl with prodF := s.ksl.prod, consF := s.ksl.cons } }

/-- The number of the next frame (R32). -/
def nextFrameNo (s : State) : Nat := if s.lan.fresh then 0 else s.lan.frame.toNat + 1

/-- Everything that both lanes latch and judge at F(n), in order: the mode that a frame begins with is the one its connections are judged by
(R242, R244, R309). -/
def latchAll (s : State) (c : Image) (n : Nat) (o : FrameObs) : State :=
  let s := latchSmu (latchField s c o) o.lagB
  let s := latchConns { modeLatch s with host := { s.host with slotLatch := s.host.slots } }
  showConns (takeForced (pickLatch (cutLatch s n)))

/-- The sequencers follow from the first frame marker what training has handed to them (R362, R365). -/
def applyGiven (s : State) : State :=
  if !s.lan.fresh then s
  else { s with fld := { s.fld with linkA := { s.fld.linkA with par := s.fld.linkA.given }, linkB := { s.fld.linkB with par := s.fld.linkB.given } } }

/-- After a configuration has been activated the frames start once both links have trained (R365). -/
def waitsTraining (s : State) : Bool := s.lan.fresh && (s.fld.linkA.st == .training || s.fld.linkB.st == .training)

/-- FRAME_START: F(n). No frame starts without the frame timer, in a halt of the lanes, or before the links have trained with a new
configuration's parameters (R32, R365, R404). It is a slot boundary, from which the output tests go on after a halt (R404; DEDUCED, log 155). -/
def frameStartEffect (o : FrameObs) (s : State) : State := match s.cfg with
  | none => s
  | some c =>
    if !s.lan.timerOn || s.lan.halted || waitsTraining s then s
    else
      let n := nextFrameNo s
      let s := applyGiven s
      let s := { s with lan := { s.lan with fresh := false, testWait := false, frame := BitVec.ofNat 64 n, fstart := s.tb } }
      let s := latchTime s
      let s := if s.lan.startAt == some n && !s.lan.inRun then enterRun s c n else s
      pushFrame (latchAll s c n o) c n o.lagB

/-- The value of a word in lane A form is the on pattern of R107. -/
def onWord (w : W72) : Bool := wval w == 1

/-- The place of SOUT loc's Q among the committed words. -/
def soutPlace (r : FnRec) (loc : Nat) : Nat := (blockOffsets r).getD loc 2

/-- Does an evaluation lower an SOUT.Q whose released value is 1 (R135, R136, R142)? -/
def lowers (c : Image) (f : FnSt) (ws : List W72) : Bool :=
  let r := fnRecOf c f
  match f.hist with
  | [] => false
  | h :: _ => (soutLocs r).any (fun loc =>
      onWord ((h.words .a).getD (soutPlace r loc) 0) && !onWord (ws.getD (soutPlace r loc) 0))

/-- The words that a lane wrote for the record, in lane A form. -/
def recWords (l : Lane) (e : EvalRec) : Option (List W72) := (match l with
  | .a => e.wordsA
  | .b => e.wordsB).map (laneWords l)

/-- Either lane lowered an output in the evaluation. -/
def lowered (c : Image) (f : FnSt) (e : EvalRec) : Bool :=
  [Lane.a, Lane.b].any (fun l => match recWords l e with
    | some ws => lowers c f ws
    | none => false)

/-- A function's words of frame n are released (R36, R39): each interface decodes its own lane's word (R107). -/
def releaseFn (c : Image) (n : Nat) (a b : List W72) (f : FnSt) : FnSt :=
  let r := fnRecOf c f
  { f with
    hist := ⟨n, a, b⟩ :: f.hist.take 5,
    gates := (soutLocs r).map (fun loc =>
      let p := soutPlace r loc
      (loc, onWord (a.getD p 0), onWord (laneForm .b (b.getD p 0)))) }

/-- A function in FALLOW releases the healthy lane's words; an output never rises (R140, R142). -/
def releaseFallow (c : Image) (n : Nat) (ws : List W72) (f : FnSt) : FnSt :=
  let old := fun (loc : Nat) => f.gates.any (fun g => g.1 == loc && g.2.1 && g.2.2)
  let g := releaseFn c n ws (laneWords .b ws) f
  { g with gates := g.gates.map (fun x => (x.1, x.2.1 && old x.1, x.2.2 && old x.1)) }

/-- The lane that evaluates functions in fallow. -/
def healthyLane (s : State) : Lane := if s.lan.markA then .b else .a

/-- In its frame n evaluation in fallow, a function's FAL_REM has reached 0 (R143). -/
def fallowOver (f : FnSt) (n : Nat) (l : Lane) : Bool := ((evalRec f n).bind (recWords l)).any (fun ws =>
  let v := wval (ws.getD 0 0)
  stState v == 2 && falRem v == 0)

/-- A report slot takes an HREPORT's word (R335). -/
def placeReports (s : State) (c : Image) (n : Nat) (f : FnSt) (ws : List W72) : State :=
  let r := fnRecOf c f
  let put := fun (l : List (Option ReportSt)) (p : BlockRec × Nat) =>
    if p.1.type != 0x59 then l
    else match c.signals[p.1.parN 0]? with
      | some g => l.set g.unit (some ⟨ws.getD ((blockOffsets r).getD p.2 2) 0, BitVec.ofNat 32 n⟩)
      | none => l
  { s with host := { s.host with reports := r.blocks.zipIdx.foldl put s.host.reports } }

/-- A FALLOW_OK function enters DIAG at C(n) and its replay is frozen (R135, R137). -/
def enterDiag (s : State) (n : Nat) (f : FnSt) : State :=
  let s := modFn s f.ctx (fun x => setStatus { x with drop := some (n + 1) } (mkStatus 0 0 (stMm f.status) 1))
  let d := match s.lan.diag with
    | some (t, l) => some (t, l ++ [(f.ctx, n)])
    | none => some (s.tb, [(f.ctx, n)])
  raise { s with lan := { s.lan with diag := d } } 26 f.ctx f.fid 0x11

/-- COMMIT_LATE of a function whose verdict is not in, if it has not been raised (R41). -/
def lateAtCommit (s : State) (n : Nat) (f : FnSt) : State :=
  if s.lan.lates.contains (n, f.ctx) then s
  else raise { s with lan := { s.lan with late := true, lateCnt := satAdd s.lan.lateCnt 1 } } 17 f.ctx f.fid 0x10

/-- FALLOW_DEMAND at C(n) (R135, R136, R142). -/
def demandNow (s : State) (c : Image) (n : Nat) (f : FnSt) : State := takeSafe (raise s 28 f.ctx f.fid 0x13) c n f 0x13

/-- The status that an evaluation's words carry in context word 0 has an invalid STATE (R129, R131). -/
def badStatus (ws : List W72) : Bool := decide (3 < stState (wval (ws.getD 0 0)))

/-- STATUS_FAULT at C(n) (R131). -/
def statusFault (s : State) (c : Image) (n : Nat) (f : FnSt) : State := takeSafe (raise s 25 f.ctx f.fid 0x16) c n f 0x16

/-- The words of frame n are released, and their context word 0 is the status from then on (R36, R129). -/
def commitWords (s : State) (c : Image) (n : Nat) (a b : List W72) (f : FnSt) : State :=
  placeReports (modFn s f.ctx (fun x => { releaseFn c n a b x with status := wval (a.getD 0 0) })) c n f a

/-- A function of normal status at C(n) (R36, R40, R41, R116, R135). -/
def commitNormal (s : State) (c : Image) (n : Nat) (verds : List VerdRec) (f : FnSt) : State :=
  let v := verds.find? (fun x => !x.decoy && x.ctx == f.ctx && x.fp == (n % 2 == 1))
  if dropped f n then s
  else match v, evalRec f n with
    | some v, some e =>
      if s.lan.lates.contains (n, f.ctx) || v.v0.isNone || v.v1.isNone then takeSafe (lateAtCommit s n f) c n f 0x10
      else if v.passed then
        match e.wordsA, e.wordsB with
        | some a, some b => if badStatus a then statusFault s c n f else commitWords s c n a b f
        | _, _ => takeSafe (lateAtCommit s n f) c n f 0x10
      else if !fallowOk c f then takeSafe s c n f 0x11
      else if lowered c f e then demandNow s c n f
      else enterDiag s n f
    | _, _ => takeSafe (lateAtCommit s n f) c n f 0x10

/-- A function in DIAG at C(n) (R41, R136): nothing is released. -/
def commitDiag (s : State) (c : Image) (n : Nat) (verds : List VerdRec) (f : FnSt) : State :=
  let v := verds.find? (fun x => !x.decoy && x.ctx == f.ctx && x.fp == (n % 2 == 1))
  let isLate := s.lan.lates.contains (n, f.ctx) || (v.map (fun v => v.v0.isNone || v.v1.isNone)).getD true
  if (evalRec f n).any (lowered c f) then demandNow s c n f
  else if isLate then takeSafe (lateAtCommit s n f) c n f 0x10
  else if v.any (fun v => v.passed) && ((evalRec f n).bind (fun e => e.wordsA)).any badStatus then statusFault s c n f
  else s

/-- A context's status, as words evaluated in fallow carry it; words evaluated before the entry carry an older one. -/
def fallowStatus (v : Val) (f : FnSt) : FnSt := if stState v == 2 then { f with status := v } else f

/-- A function in FALLOW at C(n) (R142, R143). Every word that it releases carries FALLOW, one evaluated before the entry too (R141). Commits
that R40 discards are judged and not released. HREPORT places nothing: the frame has no verdict EQ, EQ (R335). -/
def commitFallow (s : State) (c : Image) (n : Nat) (f : FnSt) : State :=
  match (evalRec f n).bind (recWords (healthyLane s)) with
  | none => s
  | some ws =>
    let v := wval (ws.getD 0 0)
    if lowers c f ws then demandNow s c n f
    else if badStatus ws then statusFault s c n f
    else if fallowOver f n (healthyLane s) then takeSafe (raise s 28 f.ctx f.fid 0x14) c n f 0x14
    else if dropped f n then modFn s f.ctx (fallowStatus v)
    else modFn s f.ctx (fun x => fallowStatus v (releaseFallow c n (fallowWords ws) x))

/-- The context ctx of a function at C(n), by the status in force (R129). -/
def commitFn (c : Image) (n : Nat) (verds : List VerdRec) (s : State) (ctx : Nat) : State :=
  match s.fns.find? (fun f => f.ctx == ctx) with
  | none => s
  | some f =>
    if !runsIn s f n then s
    else match stState f.status with
      | 0 => commitNormal s c n verds f
      | 1 => commitDiag s c n verds f
      | 2 => commitFallow s c n f
      | _ => s

/-- The frame whose C instant is at hand: the oldest open one when its successor has begun, else the one just released (R33). -/
def actingFrame (s : State) : Nat := match s.lan.open_ with
  | n :: _ :: _ => n
  | _ => lastCommitted s

/-- FALLOW_EXPIRED: at C(n), before the frame's release, FAL_REM of a function in FALLOW has reached 0 in its frame n evaluation (R143). -/
def fallowExpiredEffect (ctx : Nat) (s : State) : State :=
  match s.cfg, s.lan.open_, s.fns.find? (fun f => f.ctx == ctx && inFallowHere s f) with
  | some c, n :: _ :: _, some f =>
    if s.lan.inRun && fallowOver f n (healthyLane s) then releaseImages (takeSafe (raise s 28 f.ctx f.fid 0x14) c n f 0x14) else s
  | _, _, _ => s

/-- The functions in DIAG at C(n), before the decision: a demand or a missing verdict of that frame comes first (R41, R136). -/
def settleDiag (c : Image) (n : Nat) (s : State) : State :=
  ((byCtx s.fns).filter (fun f => runsIn s f n && stState f.status == 1)).foldl (fun t f => commitDiag t c n s.rdl.verds f) s

/-- The state in which a decision of the diagnosis is judged: before the frame's release that C instant's demands and missing verdicts come
first; past it nothing does. -/
def beforeDecision (c : Image) (s : State) : State := if s.lan.open_.length < 2 then s else settleDiag c (actingFrame s) s

/-- DIAG_DECISION: at a C instant at least 2 ms after the one at which the diagnosis began, before the frame's release, the BISTs and replays
are judged (R137, R138). What a decision forces then withholds the frame's commits (R127). One that comes after the frame's release acts on
what has been released. -/
def diagDecisionEffect (bistA bistB : Bool) (reps : List ReplayObs) (s : State) : State :=
  match s.lan.diag, s.cfg with
  | some (t, list), some c =>
    if !s.lan.inRun || s.tb.toNat < t.toNat + 200000 then s
    else decideDiag bistA bistB reps c (actingFrame s) list (beforeDecision c s)
  | _, _ => healthyBist bistA bistB s

/-- The takeover frames count as the function's commits (R299): the stored words stand as released at the first C instant. -/
def takeoverCommit (n : Nat) (s : State) (x : CutSt) : State :=
  if x.holder && x.takeover then
    { s with fns := s.fns.map (fun f => if f.fid == x.fid && f.standby && f.hist.isEmpty then { f with hist := [⟨n, f.snapA, f.snapB⟩] } else f) }
  else s

/-- The host forms a mirror set at C(n) (R294): the committed words, the re-initialised words of a safe state, or the fault values of a
function that has become LOCKED. `held`: the functions whose spade this node held when the instant came; a safe state through a module-wide
fault gives the spade up at the same instant (R130). -/
def formMirror (c : Image) (n : Nat) (held : List Nat) (s : State) (x : CutSt) : State :=
  if !x.host || !held.contains x.fid then s
  else match s.fns.find? (fun f => f.fid == x.fid && !f.standby) with
    | none => s
    | some f =>
      let places := cutPlaces (fnRecOf c f)
      let pick := fun (ws : List W72) => places.map (fun i => ws.getD i 0)
      let set := fun (locked : Bool) (a b : List W72) =>
        modCut s x.fid (fun y => { y with set := some ⟨BitVec.ofNat 32 (n - s.lan.nrun.toNat), x.epoch, locked, pick a, pick b⟩ })
      match f.hist with
      | [] => s
      | h :: _ =>
        if h.frame != n then s
        else match stState f.status with
          | 3 => set true h.a h.b
          | 0 => if f.drop == some (n + 1) then set false f.memA f.memB else set false h.a h.b
          | _ => s

/-- A holder's own commits reach the channels it owns, through each lane's interface its own words (R107, R302). -/
def ownCommit (c : Image) (n : Nat) (s : State) (x : CutSt) : State :=
  if !x.holder then s
  else match fnHere s x.fid with
    | none => s
    | some f => match f.hist with
      | [] => s
      | h :: _ =>
        if !(x.takeover || sendsNow s f n) then s
        else
          let r := fnRecOf c f
          let ws := fun (l : Lane) => (soutLocs r).map (fun loc => (locChans c r loc, (h.words l).getD (soutPlace r loc) 0))
          modOwn s x.fid (fun o => ownerApply o (fnChans c x.fid) x.epoch s.tb ws)

/-- The functions whose spade this node holds. -/
def heldSpades (s : State) : List Nat := (s.cuts.cuts.filter (fun x => x.holder)).map (fun x => x.fid)

/-- Mirror sets and own commits of every cutting at C(n). -/
def cutCommit (s : State) (c : Image) (n : Nat) (held : List Nat) : State :=
  let s := s.cuts.cuts.foldl (formMirror c n held) s
  s.cuts.cuts.foldl (ownCommit c n) s

/-- Outputs of banks that are neither OK nor in SAG are committed off; standard outputs of a LOW or LOST bank latch off (R193, R194). -/
def commitBanksOff (s : State) (c : Image) (img : FrameImg) : State :=
  if img.off.isEmpty then s
  else
    let dead := fun (ch : Nat) => img.off.contains (ch / 16)
    let live := fun (ch : Nat) => !dead ch
    let fns := s.fns.map (fun f =>
      let r := fnRecOf c f
      { f with gates := f.gates.map (fun g => if (locChans c r g.1).any dead then (g.1, false, false) else g) })
    let owns := s.cuts.owns.map (fun o => { o with a := { o.a with on := o.a.on.filter live }, b := { o.b with on := o.b.on.filter live } })
    let low := mask96 (fun ch => chanUse c ch == 6 && (img.bankst.getD (ch / 16) 0 == 3 || img.bankst.getD (ch / 16) 0 == 4))
    { s with fns := fns, cuts := { s.cuts with owns := owns },
             host := { s.host with stdLatch := if img.run then s.host.stdLatch ||| low else s.host.stdLatch } }

/-- The cause of a standard output's off-latch remains (R338): it is hot, or its bank is not back. -/
def stdCause (s : State) (ch : Nat) : Bool :=
  let o := outChan s ch
  o.swA.therm || o.swB.therm || !bankGood (bankAt s (ch / 16))

/-- CLEAR_STD acts at the C instant: the latch goes, and with it what a thermal shutdown has held open (R180, R338). -/
def clearStdLatches (s : State) : State :=
  let gone := mask96 (fun ch => s.host.clearReq.getLsbD ch && !stdCause s ch)
  let free := fun (o : OutCh) (w : SwitchSt) => { w with held := false, opened := w.opened && (!w.held || w.therm || shorted o) }
  { s with
    host := { s.host with stdLatch := s.host.stdLatch &&& ~~~gone, clearReq := 0 },
    fld := { s.fld with outs := s.fld.outs.zipIdx.map (fun p =>
      if gone.getLsbD p.2 then { p.1 with swA := free p.1 p.1.swA, swB := free p.1 p.1.swB } else p.1) } }

/-- A function whose verdict of frame n is not in (R41). -/
def lateIn (s : State) (n : Nat) (verds : List VerdRec) (f : FnSt) : Bool :=
  runsIn s f n && stState f.status ≤ 1
    && (s.lan.lates.contains (n, f.ctx)
      || ((verds.find? (fun x => !x.decoy && x.ctx == f.ctx && x.fp == (n % 2 == 1))).map (fun v => v.v0.isNone || v.v1.isNone)).getD true)

/-- A lane's memory error acts at C(n): no function that is late in the frame enters FALLOW (R139, R144). -/
def commitMark (s : State) (c : Image) (n : Nat) (verds : List VerdRec) (l : Lane) : State :=
  let late := if s.lan.inRun then s.fns.filter (lateIn s n verds) else []
  markLane (late.foldl (fun t f => lateAtCommit t n f) s) l n (fun f => fallowOk c f && !late.any (fun g => g.ctx == f.ctx))

/-- What the frame's faults do first: a fault that acts at C(n), or a lane with a memory error (R42, R50, R131, R139). -/
def commitFaults (s : State) (c : Image) (n : Nat) (verds : List VerdRec) : State :=
  let t := match s.lan.pendFault with
    | some k => moduleFault { s with lan := { s.lan with pendFault := none } } n k
    | none => s
  match s.lan.memErr with
  | some l => commitMark t c n verds l
  | none => t

/-- Everything that the functions of a frame of RUN do at C(n). -/
def commitRun (s : State) (c : Image) (n : Nat) : State :=
  let verds := s.rdl.verds
  let held := heldSpades s
  let s := commitFaults (closeVerdicts s n) c n verds
  if !s.lan.inRun then cutCommit s c n held
  else
    let s := ((byCtx s.fns).map (fun f => f.ctx)).foldl (commitFn c n verds) s
    let s := s.cuts.cuts.foldl (takeoverCommit n) s
    let s := cutCommit s c n held
    holdIfDone (s.cuts.owns.foldl (fun t o => match t.cuts.owns.find? (fun x => x.fid == o.fid), imgOf t n with
      | some x, some img => if hasCutting t x.fid || (fnHere t x.fid).isNone then ownerCommit t c img x else t
      | _, _ => t) s)

/-- C(n) of a frame of HOLD: its faults, and after entry into RUN the takeover frames of a spade taken at the first latch (R299). -/
def commitHold (s : State) (c : Image) (n : Nat) : State :=
  let s := commitFaults s c n []
  if !s.lan.inRun then s
  else
    let s := s.cuts.cuts.foldl (takeoverCommit n) s
    s.cuts.cuts.foldl (fun t x => if x.takeover then ownCommit c n t x else t) s

/-- The skew of frame n is recorded (R49, R50); a skew above S_max has been judged when it was measured. -/
def commitSkew (s : State) (n : Nat) : State :=
  if anyMark s then s
  else
    let k := (s.lan.skews.find? (fun x => x.1 == n)).getD (n, 0, false)
    let last := BitVec.ofNat 24 (min k.2.1 0xFFFFFF)
    let s := { s with lan := { s.lan with skewLast := last, skewPeak := bvMax s.lan.skewPeak last, slowB := k.2.2 } }
    if s.lan.swarn.toNat < k.2.1 then raise { s with lan := { s.lan with skewWarn := true } } 18 k.2.1 0 0 else s

/-- Cycles and margins of frame n (R52). -/
def commitMeasures (s : State) (n : Nat) : State :=
  let cyc := fun (e : LaneEval) => BitVec.ofNat 22 (min 0x3FFFFF (((e.cycles.find? (fun x => x.1 == n)).map (fun x => x.2)).getD 0))
  let a := cyc s.lan.evalA
  let b := cyc s.lan.evalB
  let f1 := ((imgOf s (n + 1)).map (fun i => i.tb.toNat)).getD s.tb.toNat
  let em := match s.lan.lastCp.find? (fun x => x.1 == n) with
    | some x => bvMin s.lan.emargin (BitVec.ofNat 32 (f1 + woTicks s / 2 - x.2.toNat))
    | none => s.lan.emargin
  let vm := match s.lan.lastVerd.find? (fun x => x.1 == n) with
    | some x => bvMin s.lan.vmargin (BitVec.ofNat 32 (f1 + woTicks s - 400 - x.2.toNat))
    | none => s.lan.vmargin
  { s with lan := { s.lan with cycA := a, cycB := b, cycPeak := bvMax s.lan.cycPeak (bvMax a b), emargin := em, vmargin := vm } }

/-- Frame n is no longer open; what only it needed is dropped. -/
def closeFrame (s : State) (n : Nat) : State :=
  let keep := fun (e : LaneEval) => { e with todo := e.todo.filter (fun m => n < m), cycles := e.cycles.filter (fun x => n < x.1) }
  { s with
    lan := { s.lan with
      open_ := s.lan.open_.filter (fun m => n < m), skews := s.lan.skews.filter (fun x => n < x.1), lastCp := s.lan.lastCp.filter (fun x => n < x.1),
      lastVerd := s.lan.lastVerd.filter (fun x => n < x.1), lates := s.lan.lates.filter (fun x => n < x.1),
      evalA := keep s.lan.evalA, evalB := keep s.lan.evalB },
    fns := s.fns.map (fun f => { f with
      evals := f.evals.filter (fun e => n < e.frame), drop := if f.drop.any (fun d => decide (d ≤ n)) then none else f.drop, snapA := f.memA, snapB := f.memB }) }

/-- The lanes halt after the frame's release, if a halt or a single step asks for it (R404, R412). -/
def haltAtCommit (s : State) : State :=
  if s.lan.haltReq || s.lan.stepReq then
    let s := restTests s
    raise { s with
      lan := { s.lan with halted := true, haltReq := false, stepReq := false },
      lcy := { s.lcy with haltCnt := satAdd s.lcy.haltCnt 1 } } 250 0 0 0
  else s

/-- The last mismatch of frame n stands in its registers (R126, R433). -/
def showMismatch (s : State) (n : Nat) : State := match s.rdl.mmHeld.find? (fun x => x.frame == n) with
  | none => s
  | some m => { s with rdl := { s.rdl with
      lastMm := m.mm, lastFrame := BitVec.ofNat 32 n, lastDiff := m.diff, mmHeld := s.rdl.mmHeld.filter (fun x => n < x.frame) } }

/-- What is measured of frame n is recorded at C(n) (R49, R52, R126). -/
def commitRecords (s : State) (n : Nat) : State := commitSkew (commitMeasures (noteDepth (showMismatch s n)) n) n

/-- COMMIT_INSTANT: C(n) of the oldest open frame, after F(n + 1). -/
def commitInstantEffect (s : State) : State := match s.cfg, s.lan.open_ with
  | some c, n :: _ :: _ =>
    if s.lan.halted then s
    else match imgOf s n with
      | none => s
      | some img =>
        let ran := img.run && s.lan.inRun && s.lan.nrun.toNat ≤ n
        let s := commitRecords s n
        let s := if ran then commitRun s c n else commitHold s c n
        let s := releaseImages (clearStdLatches (commitBanksOff s c img))
        let s := releaseKsl s n ran
        let s := endAllDiags (piUpdate s img) n
        haltAtCommit (closeFrame s n)
  | _, _ => s

/-- A function that has taken its safe state since `before` sends the fault content at once, and its host the new mirror set (R236, R294). -/
def resendFault (c : Image) (before : State) (s : State) (f : FnSt) : State := match f.hist with
  | [] => s
  | h :: _ =>
    if (before.fns.find? (fun g => g.ctx == f.ctx)).any (fun g => g.hist == f.hist) then s
    else (s.ksl.prod.filter (fun p => (p.conn.type == 2 || (p.conn.type == 1 && p.conn.sub != 1)) && p.conn.fid == f.fid)).foldl
      (releaseConn h.frame true (imgOf s h.frame) c) s

/-- A safe state or a change of status after the C instant's own release, at the same instant: mirror sets, own channels, images and the
frames of the fault content follow (R127, R236, R294). -/
def releaseAgain (before s : State) : State := match s.cfg with
  | some c =>
    if before.fns = s.fns then s else
    let s := if before.lan.inRun then releaseImages (cutCommit s c (actingFrame before) (heldSpades before)) else s
    s.fns.foldl (resendFault c before) s
  | none => s

/-- A decision's outcome: what it withholds and replaces goes out with the frame's release that follows, unless that release is past or the
module has left RUN. -/
def afterDecision (before s : State) : State :=
  if s.lan.inRun && 2 ≤ before.lan.open_.length then releaseImages s else releaseAgain before s

/-- FRAME_START. -/
def execFrameStart (o : FrameObs) (s : State) : Host.Outcome State Fault Refusal := finish s (frameStartEffect o s)
/-- COMMIT_INSTANT. -/
def execCommitInstant (s : State) : Host.Outcome State Fault Refusal := finish s (commitInstantEffect s)
/-- FALLOW_EXPIRED. -/
def execFallowExpired (ctx : Nat) (s : State) : Host.Outcome State Fault Refusal := finish s (fallowExpiredEffect ctx s)
/-- DIAG_DECISION. -/
def execDiagDecision (a b : Bool) (reps : List ReplayObs) (s : State) : Host.Outcome State Fault Refusal :=
  finish s (afterDecision s (diagDecisionEffect a b reps s))

end Sys2Proof.Machine
end

