-- ==== Sys2Proof/Machine/Ecdsa.lean ====
section
/-! DEFINITION. ECDSA over brainpoolP384r1 (RFC 5639, FIPS 186-4), which signs images, programming data and attestations (R75, R386, R392). -/
namespace Sys2Proof.Machine

/-- The field prime of brainpoolP384r1. -/
def bpP : Nat := 0x8CB91E82A3386D280F5D6F7E50E641DF152F7109ED5456B412B1DA197FB71123ACD3A729901D1A71874700133107EC53
/-- The curve coefficient A. -/
def bpA : Nat := 0x7BC382C63D8C150C3C72080ACE05AFA0C2BEA28E4FB22787139165EFBA91F90F8AA5814A503AD4EB04A8C7DD22CE2826
/-- The curve coefficient B. -/
def bpB : Nat := 0x04A8C7DD22CE28268B39B55416F0447C2FB77DE107DCD2A62E880EA53EEB62D57CB4390295DBC9943AB78696FA504C11
/-- The base point's x. -/
def bpGx : Nat := 0x1D1C64F068CF45FFA2A63A81B7C13F6B8847A3E77EF14FE3DB7FCAFE0CBD10E8E826E03436D646AAEF87B2E247D4AF1E
/-- The base point's y. -/
def bpGy : Nat := 0x8ABE1D7520F9C2A45CB1EB8E95CFD55262B70B29FEEC5864E19C054FF99129280E4646217791811142820341263C5315
/-- The order of the base point. -/
def bpN : Nat := 0x8CB91E82A3386D280F5D6F7E50E641DF152F7109ED5456B31F166E6CAC0425A7CF3AB6AF6B7FC3103B883202E9046565

/-- Subtraction modulo m of reduced numbers. -/
def subMod (m x y : Nat) : Nat := (x + m - y) % m

/-- x to the power e modulo m, with fuel for the bits of e. -/
def powModF (m : Nat) : Nat → Nat → Nat → Nat
  | 0, _, _ => 1 % m
  | f + 1, x, e =>
    if e == 0 then 1 % m
    else
      let h := powModF m f (x * x % m) (e / 2)
      if e % 2 == 1 then x * h % m else h

/-- The inverse modulo a prime m of at most 384 bits. -/
def invMod (m x : Nat) : Nat := powModF m 384 x (m - 2)

/-- A point in Jacobian coordinates; z = 0 is the point at infinity. -/
structure JPoint where
  x : Nat
  y : Nat
  z : Nat

/-- Doubling. -/
def jDouble (p : JPoint) : JPoint :=
  if p.z == 0 || p.y == 0 then ⟨1, 1, 0⟩
  else
    let yy := p.y * p.y % bpP
    let s := 4 * p.x * yy % bpP
    let zz := p.z * p.z % bpP
    let m := (3 * p.x * p.x + bpA * (zz * zz % bpP)) % bpP
    let x3 := subMod bpP (m * m % bpP) (2 * s % bpP)
    ⟨x3, subMod bpP (m * subMod bpP s x3 % bpP) (8 * (yy * yy % bpP) % bpP), 2 * p.y * p.z % bpP⟩

/-- Addition. -/
def jAdd (p q : JPoint) : JPoint :=
  if p.z == 0 then q
  else if q.z == 0 then p
  else
    let z1 := p.z * p.z % bpP
    let z2 := q.z * q.z % bpP
    let u1 := p.x * z2 % bpP
    let u2 := q.x * z1 % bpP
    let s1 := p.y * (z2 * q.z % bpP) % bpP
    let s2 := q.y * (z1 * p.z % bpP) % bpP
    if u1 == u2 then (if s1 == s2 then jDouble p else ⟨1, 1, 0⟩)
    else
      let h := subMod bpP u2 u1
      let r := subMod bpP s2 s1
      let hh := h * h % bpP
      let hhh := hh * h % bpP
      let v := u1 * hh % bpP
      let x3 := subMod bpP (subMod bpP (r * r % bpP) hhh) (2 * v % bpP)
      ⟨x3, subMod bpP (r * subMod bpP v x3 % bpP) (s1 * hhh % bpP), p.z * q.z % bpP * h % bpP⟩

/-- k times p, with fuel for the bits of k. -/
def jMulF : Nat → Nat → JPoint → JPoint
  | 0, _, _ => ⟨1, 1, 0⟩
  | f + 1, k, p =>
    if k == 0 then ⟨1, 1, 0⟩
    else
      let h := jMulF f (k / 2) (jDouble p)
      if k % 2 == 1 then jAdd p h else h

/-- The affine x of a point, 0 for infinity. -/
def jX (p : JPoint) : Nat := if p.z == 0 then 0 else let i := invMod bpP p.z; p.x * (i * i % bpP) % bpP

/-- Is (x, y) a point of the curve? -/
def onCurve (x y : Nat) : Bool :=
  x < bpP && y < bpP && y * y % bpP == (x * x % bpP * x + bpA * x + bpB) % bpP

/-- ECDSA verification of a digest under a public key of 96 bytes (X then Y) with a signature of 96 bytes
(r then s), all big-endian (R75, R386). -/
def ecdsaVerify (pub sig : Bytes) (dig : BitVec 384) : Bool :=
  let qx := beAt pub 0 48
  let qy := beAt pub 48 48
  let r := beAt sig 0 48
  let s := beAt sig 48 48
  if !onCurve qx qy || r == 0 || s == 0 || bpN ≤ r || bpN ≤ s then false
  else
    let w := invMod bpN s
    let e := dig.toNat % bpN
    let pt := jAdd (jMulF 384 (e * w % bpN) ⟨bpGx, bpGy, 1⟩) (jMulF 384 (r * w % bpN) ⟨qx, qy, 1⟩)
    pt.z != 0 && jX pt % bpN == r

/-- ECDSA signature (r then s, 96 bytes) of a digest with private key d and random number k. -/
def ecdsaSign (d k : Nat) (dig : BitVec 384) : Bytes :=
  let r := jX (jMulF 384 k ⟨bpGx, bpGy, 1⟩) % bpN
  let s := invMod bpN (k % bpN) * ((dig.toNat + r * d) % bpN) % bpN
  beBytes 48 r ++ beBytes 48 s

end Sys2Proof.Machine
end

