-- ==== Sys2Proof/Machine/ImageCheck.lean ====
section
/-! DEFINITION. The checks of a configuration image in the order of R81, and the parsed image that passes them. -/
namespace Sys2Proof.Machine

/-- What the checks take from the module: its variant, serial number, library revision and usable owner keys (R81, R82, R387). -/
structure CheckEnv where
  variant : Nat
  serial : BitVec 64
  lib : Nat
  /-- The public key (X then Y) of an owner slot that is usable. -/
  ownerKey : Nat → Option Bytes
  /-- A fuse integrity alarm is open: no image is accepted (R366). -/
  alarmOpen : Bool

/-- Channels of a variant (R1). -/
def nChan (v : Nat) : Nat := if v == 3 then 48 else 96
/-- Banks of a variant. -/
def nBank (v : Nat) : Nat := if v == 3 then 3 else 6
/-- Test-pulse sources of a variant. -/
def nSrc (v : Nat) : Nat := if v == 3 then 12 else 24
/-- Ethernet ports of a variant. -/
def nPort (v : Nat) : Nat := if v == 3 then 1 else 2
/-- The Safe Motion Unit is present. -/
def hasSmu (v : Nat) : Bool := v == 1

/-- The fault codes in table order lead to the rejection of an item. -/
def rejectItem (cls item : Nat) (l : List (Bool × Nat)) : Option Rej := (firstFault l).map (fun c => ⟨c, cls, item⟩)

/-- The header at offset 0 (R73, R80, R81): item class 0x01 and the byte offset. `len` is LEN of the command. -/
def checkHeader (b : Bytes) (len : Nat) : Option Rej :=
  let hdr (o : Nat) : Rej := ⟨0x101, 1, o⟩
  let n := leAt b 8 4
  if len < 128 then some (hdr 0)
  else if leAt b 0 4 != 0x46435853 then some (hdr 0)
  else if leAt b 4 2 != 1 then some (hdr 4)
  else if leAt b 6 2 != 0x80 then some (hdr 6)
  else if n < 512 || n % 8 != 0 then some (hdr 8)
  else if leAt b 0x0C 2 == 0 || 16 < leAt b 0x0C 2 then some (hdr 0x0C)
  else if !zeroAt b 0x0E 2 then some (hdr 0x0E)
  else if leAt b 0x10 2 != 0x972 then some (hdr 0x10)
  else if 3 < byteAt b 0x1C then some (hdr 0x1C)
  else match firstNonZero b 0x1D 99 with
    | some o => some (hdr o)
    | none => if 4194304 < n || len < n then some ⟨0x102, 1, 8⟩ else none

/-- The section table from entry i on (R74): `pos` is the end of what lies before, `last` the type before. -/
def checkSects (b : Bytes) (sig : Nat) : List RawSect → Nat → Nat → Nat → Option Rej
  | [], _, pos, _ => (firstNonZero b pos (sig - pos)).map (fun o => ⟨0x101, 1, o⟩)
  | s :: r, i, pos, last =>
    if s.type == 0 || 10 < s.type || s.type ≤ last || s.flags != 0 || s.off % 8 != 0 || s.off < pos || sig < s.off + s.len then
      some ⟨0x101, 2, i⟩
    else match firstNonZero b pos (s.off - pos) with
      | some o => some ⟨0x101, 1, o⟩
      | none => checkSects b sig r (i + 1) (s.off + s.len) s.type

/-- A required section that is missing (R74): the index at which its entry would stand. -/
def missingSect (ss : List RawSect) : Option Rej :=
  (([1, 2, 3, 5, 6] : List Nat).find? (fun t => !ss.any (fun s => s.type == t))).map
    (fun t => ⟨0x101, 2, ss.countP (fun s => s.type < t)⟩)

/-- The signature block (R75). -/
def checkSigBlock (b : Bytes) (o slot : Nat) : Option Rej :=
  if leAt b o 4 != 0x47535853 then some ⟨0x101, 1, o⟩
  else if byteAt b (o + 4) != slot then some ⟨0x101, 1, o + 4⟩
  else match firstNonZero b (o + 5) 3 with
    | some x => some ⟨0x101, 1, x⟩
    | none => (firstNonZero b (o + 0x68) 24).map (fun x => ⟨0x101, 1, x⟩)

/-- The signature (R75, R387). DESIGN CHOICE (log 163): an open fuse alarm refuses an image in every command, not in step 10 alone. -/
def checkSignature (e : CheckEnv) (b : Bytes) (o slot : Nat) (dig : BitVec 384) : Option Rej :=
  let ok := !e.alarmOpen && match e.ownerKey slot with
    | none => false
    | some k => ecdsaVerify k (slice b (o + 8) 96) dig
  if ok then none else some ⟨0x103, 0x0B, slot⟩

/-- The DOMAIN record, R271. -/
def checkDomain (r : RawImage) (hdrDomain : Nat) (x : Bytes) : Option Rej :=
  let topo := ((sectOf r.sects 2).map (·.count)).getD 0
  let ls := byteAt x 7
  let lease := byteAt x 0x0A
  rejectItem 3 0x10000 [
    (leAt x 0 4 != hdrDomain || leAt x 4 2 != topo || !zeroAt x 0x0B 1 || !zeroAt x 0x0E 18, 0x101),
    (leAt x 4 2 == 0 || 1024 < leAt x 4 2 || 127 < byteAt x 6 || (ls != 0 && ls < 252) || 1000 < leAt x 8 2 || lease == 1
      || 16 < lease || 3600 < leAt x 0x0C 2, 0x10C)]

/-- The own node's frame parameters lie in their ranges (R30, R31, R122). -/
def frameParamsOk (n : NodeRec) : Bool :=
  10 ≤ n.tf && n.tf ≤ 2000 && 10 ≤ n.wo && n.wo ≤ n.tf * 5 && 100 ≤ n.swarn && n.swarn + 1 ≤ n.smax && n.smax ≤ n.tf * 500
    && (n.decoyInt == 4 || n.decoyInt == 8 || n.decoyInt == 16 || n.decoyInt == 32 || n.decoyInt == 64)

/-- TOPOLOGY record i, R272. -/
def checkNode (e : CheckEnv) (r : RawImage) (i : Nat) (x : Bytes) : Option Rej :=
  let n := readNode x
  let before := r.nodes.take i
  let own := n.serial == e.serial
  match rejectItem 3 (0x20000 + i) [(!zeroAt x 0x1A 6 || before.any (fun m => m.serial == n.serial)
      || (before.getLast?.map (fun m => decide (n.node ≤ m.node))).getD false, 0x101)] with
  | some j => some j
  | none => match rejectItem 0x0C n.node [(own && n.variant != e.variant, 0x105), (own && !frameParamsOk n, 0x106)] with
    | some j => some j
    | none => rejectItem 3 (0x20000 + i)
        [(1023 < n.node || n.variant == 0 || 3 < n.variant || n.tbl < 2 || 200 < n.tbl, 0x10C)]

/-- The own node as TOPOLOGY gives it (R82). -/
def ownNode (e : CheckEnv) (r : RawImage) : Option NodeRec := r.nodes.find? (fun n => n.serial == e.serial)

/-- Is a node number in TOPOLOGY? -/
def nodeKnown (r : RawImage) (n : Nat) : Bool := r.nodes.any (fun m => m.node == n)

/-- Channel records of RTYPE 0x10. -/
def chanRecsOf (r : RawImage) : List ChanRec := (r.chanRecs.filter (fun x => byteAt x 0 == 0x10)).map readChan
/-- Source records of RTYPE 0x20. -/
def srcRecsOf (r : RawImage) : List SrcRec := (r.chanRecs.filter (fun x => byteAt x 0 == 0x20)).map readSrc
/-- Bank records of RTYPE 0x30. -/
def bankRecsOf (r : RawImage) : List BankRec := (r.chanRecs.filter (fun x => byteAt x 0 == 0x30)).map readBank

/-- SIGNAL entry i (R79, R82, R152, R210): the units of the own node's entries, the TYPE and the fields of every entry. An absent
unit is itself the item named (log 113). -/
def checkSignal (e : CheckEnv) (r : RawImage) (own i : Nat) (x : Bytes) : Option Rej :=
  let s := readSignal x
  let item := 0x30000 + i
  let mine := s.kind != 5 && s.node == own
  let absent : Option Nat := match s.kind with
    | 1 | 2 => if nChan e.variant ≤ s.unit then some 6 else none
    | 3 => if nBank e.variant ≤ s.unit then some 8 else none
    | 6 => if hasSmu e.variant && s.unit ≤ 3 then none else some 9
    | _ => none
  let use := (((chanRecsOf r).find? (fun c => c.node == s.node && c.chan == s.unit)).map (·.use)).getD 0
  match rejectItem 3 item [(!zeroAt x 6 2, 0x101)] with
  | some j => some j
  | none => match if mine then absent else none with
    | some cls => some ⟨0x107, cls, s.node * 256 + s.unit⟩
    | none => rejectItem 3 item [
        (3 < s.type || ((s.kind == 1 || s.kind == 2 || s.kind == 3) && s.type != 0)
          || (s.kind == 6 && s.type != 1 && s.type != 3) || (mine && s.kind == 1 && use != 1 && use != 2), 0x10B),
        (s.kind == 0 || 6 < s.kind || (s.kind != 5 && !nodeKnown r s.node) || ((s.kind == 4 || s.kind == 5) && 255 < s.unit)
          || (mine && s.kind == 6 && !r.axes.any (fun a => a.node == s.node && a.axis == s.unit)), 0x10C)]

/-- The trip threshold of a node's bank: its record or 16.0 V (R189). -/
def bankTrip (r : RawImage) (node b : Nat) : Nat :=
  (((bankRecsOf r).find? (fun x => x.node == node && x.bank == b)).map (·.trip)).getD 160

/-- Output parameters of a channel record (R174). -/
def outParams (c : ChanRec) : Nat × Nat × Nat × Nat := (c.ilim, c.oflags, c.opw, c.opi)

/-- A channel record has a field out of range (R150, R152, R174, R175). -/
def chanBad (r : RawImage) (mine : Bool) (x : Bytes) : Bool :=
  let c := readChan x
  let mate := (chanRecsOf r).find? (fun d => d.node == c.node && d.chan == (if c.chan % 2 == 0 then c.chan + 1 else c.chan - 1))
  6 < c.use || (23 < c.tpsrc && c.tpsrc != 0xFF) || 1000 < c.filt
  || (mine && c.tpsrc != 0xFF && (!(srcRecsOf r).any (fun s => s.node == c.node && s.src == c.tpsrc) || c.tpsrc / 4 != c.chan / 16))
  || (1 ≤ c.use && c.use ≤ 3 && (c.itype == 0 || 3 < c.itype || !zeroAt x 0x0A 6
      || (mine && c.use == 2 && (c.tpsrc == 0xFF || c.itype == 2 || bankTrip r c.node (c.chan / 16) < 160))))
  || (4 ≤ c.use && (2 < c.ilim || 4 ≤ c.oflags))
  || (4 ≤ c.use && mine && (c.itype != 0 || c.tpsrc != 0xFF
      || (c.use == 6 && (c.opw != 0 || c.opi != 0))
      || (c.use != 6 && (c.opw < 10 || 100 < c.opw || c.opi < 5 || 6000 < c.opi))
      || (c.use == 5 && !(mate.map (fun m => m.use == 5 && outParams m == outParams c)).getD false)))

/-- CHANNEL record i (R149 to R152, R174, R175, R189). A TPSRC that names an absent source names that source as the item (R9, log 113). -/
def checkChan (e : CheckEnv) (r : RawImage) (own : NodeRec) (i : Nat) (x : Bytes) : Option Rej :=
  let rt := byteAt x 0
  let node := leAt x 2 2
  let num := byteAt x 4
  let key (y : Bytes) : Nat := (leAt y 2 2 * 256 + byteAt y 0) * 256 + byteAt y 4
  let mine := node == own.node
  let rsv := match rt with
    | 0x10 => zeroAt x 7 1 && zeroAt x 0x0D 1
    | 0x20 | 0x30 => zeroAt x 1 1 && zeroAt x 5 1 && zeroAt x 0x0A 6
    | _ => false
  let cls := if rt == 0x10 then 6 else if rt == 0x20 then 7 else 8
  let top := if rt == 0x10 then 96 else if rt == 0x20 then 24 else 6
  let have_ := if rt == 0x10 then nChan e.variant else if rt == 0x20 then nSrc e.variant else nBank e.variant
  let bad := if rt == 0x10 then chanBad r mine x
    else if rt == 0x20 then
      let s := readSrc x
      let slot := s.slotDiv * own.tf * 10
      s.width < 100 || 500 < s.width || s.width % 10 != 0 || s.slotDiv == 0 || 1000 < s.slotDiv
        || (mine && (slot < 4 * s.width || 1000000 < slot))
    else
      let b := readBank x
      b.trip < 120 || 220 < b.trip || 200 < b.ride
  let tp := byteAt x 6
  let noSource := mine && rt == 0x10 && nSrc e.variant ≤ tp && tp < 24
  match rejectItem 3 (0x40000 + i) [(!rsv || ((r.chanRecs.take i).getLast?.map (fun y => decide (key x ≤ key y))).getD false, 0x101)] with
  | some j => some j
  | none => match rejectItem cls (node * 256 + num) [(mine && have_ ≤ num && num < top, 0x107)] with
    | some j => some j
    | none => if noSource then some ⟨0x107, 7, node * 256 + tp⟩
      else rejectItem cls (node * 256 + num) [(bad || !nodeKnown r node || top ≤ num, 0x10C)]

/-- FUNCTION record i (R55, R64, R76, R447). Exports are judged on every record before the overrunning one; NWORD, COST and the
number of words only where all of the function's records can be counted (log 112). -/
def checkFn (fns : List FnRec) (i : Nat) (raw : RawFn) (span : Span) : Option Rej :=
  let f := (fns[i]?).getD raw.fn
  let whole := span == Span.whole
  let last := ((fns.take i).getLast?).map (·.fid)
  let fault (bad : BlockRec → Nat → Bool) : Bool :=
    f.exps.any (fun x => ((f.blocks[nbits x 17 4]?).map (fun b => bad b (nbits x 3 0))).getD false)
  let expBad := f.exps.any (fun x => f.nblk ≤ nbits x 17 4) || fault (fun b o => b.nout ≤ o)
  let expLoose := fault (fun b o => !outCommitted b o)
  let judged := whole && f.blocks.all (fun b => blockAssigned b.type && countsOk b)
  let fallow := f.flags % 2 == 1
  rejectItem 4 f.fid [
    (raw.bad || span == Span.misplaced, 0x101),
    (0xFFFFF < f.fid || (last.map (fun x => decide (f.fid ≤ x))).getD false, 0x108),
    (expBad, 0x109),
    (f.budget < 100 || 600000000 < f.budget || (fallow && (f.tfal == 0 || 28800 < f.tfal)) || (!fallow && f.tfal != 0), 0x10C),
    (expLoose, 0x10D),
    (f.nblk == 0 || 1024 < f.nblk || 64 < raw.count || (judged && 4096 < fnWords f), 0x10E),
    (judged && (f.nword != fnWords f || f.cost != fnCost f), 0x10F)]

/-- Record k of the BLOCK section (R77, R447). -/
def checkBlkRec (r : RawImage) (g : GraphCtx) (ty : OutTable Nat) (host pickup : OutTable Bool) (k : Nat) (raw : RawBlk) : Option Rej :=
  match r.owner k with
  | none => some ⟨0x101, 3, 0x60000 + k⟩
  | some (fi, loc) => match g.fns[fi]? with
    | none => some ⟨0x101, 3, 0x60000 + k⟩
    | some f => (checkBlock g ty host pickup fi loc f raw.blk raw.bad).map (fun c => ⟨c, 5, f.fid * 1024 + loc⟩)

/-- CONST entry i (R62, R78; DESIGN CHOICE, log 164: the two codes). -/
def checkConst (i : Nat) (c : ParRec × Bool) : Option Rej :=
  rejectItem 3 (0x70000 + i) [(!c.2, 0x101), (3 < c.1.type, 0x10B),
    (c.1.qual != 1 || (c.1.type == 0 && 1 < c.1.value.toNat), 0x10C)]

/-- AXIS record i (R209, R210). -/
def checkAxis (e : CheckEnv) (r : RawImage) (own i : Nat) (x : Bytes) : Option Rej :=
  let a := readAxis x
  let last := (r.axes.take i).getLast?.map (fun y => decide (a.node * 256 + a.axis ≤ y.node * 256 + y.axis))
  match rejectItem 3 (0x80000 + i) [(!zeroAt x 0x1A 6 || last.getD false, 0x101)] with
  | some j => some j
  | none => rejectItem 9 (a.node * 256 + a.axis) [
      (a.node == own && !hasSmu e.variant, 0x107),
      (!nodeKnown r a.node || 3 < a.axis || a.ptype == 0 || 2 < a.ptype || a.stype == 0 || 3 < a.stype || a.spwin == 0 || 16 < a.spwin
        || a.xtime == 0 || 1000 < a.xtime || a.ratio < 0x1000000 || 0x1000000000000 < a.ratio || 1000000 < a.tolAbs || 500 < a.tolRel
        || 16384 < a.pprP || 16384 < a.pprS || (a.stype == 3 && a.pprS != 0), 0x10C)]

/-- KSLPAR record i (R254, R259, R262). -/
def checkKsl (e : CheckEnv) (r : RawImage) (own i : Nat) (x : Bytes) : Option Rej :=
  let rt := byteAt x 0
  let nx := leAt x 2 2
  let key (y : Bytes) : Nat := (byteAt y 0 * 65536 + leAt y 2 2) * 65536 + (if byteAt y 0 == 1 then leAt y 4 2 else 0)
  let unordered := ((r.kslRecs.take i).getLast?.map (fun y => decide (key x ≤ key y))).getD false
  let addrs := (r.kslRecs.filter (fun y => byteAt y 0 == 2)).map readAddr
  let noIp (n : Nat) : Bool := addrs.any (fun a => a.node == n && a.ipv4 == 0)
  let item := 0x90000 + i
  if rt == 1 then
    let p := readPath x
    rejectItem 3 item [
      (!zeroAt x 6 2 || !zeroAt x 0x0C 4 || p.y ≤ p.x || unordered, 0x101),
      (2 < p.carrier || p.tn < 10 || 1000000 < p.tn || !nodeKnown r p.x || !nodeKnown r p.y
        || (p.carrier == 1 && (noIp p.x || noIp p.y)), 0x10C)]
  else if rt == 2 then
    let a := readAddr x
    let before := ((r.kslRecs.take i).filter (fun y => byteAt y 0 == 2)).map readAddr
    match rejectItem 3 item [(unordered || before.any (fun b => b.mac == a.mac || (b.ipv4 == a.ipv4 && a.ipv4 != 0)), 0x101)] with
    | some j => some j
    | none => match rejectItem 0x0A (nx * 256 + 1) [(nx == own && (a.pmode == 1 || a.pmode == 2) && nPort e.variant < 2, 0x107)] with
      | some j => some j
      | none => rejectItem 3 item [(!nodeKnown r nx || 8 ≤ byteAt x 1 || a.pmode == 3 || a.mac.getLsbD 40 || a.mac == 0, 0x10C)]
  else some ⟨0x101, 3, item⟩

/-- The MODE record, R304. -/
def checkMode (i : Nat) (x : Bytes) : Option Rej :=
  let m := readMode x
  rejectItem 3 (0xA0000 + i) [(!zeroAt x 4 4, 0x101), (m.nmode == 0 || 8 < m.nmode || m.nmode ≤ m.init || 60000 < m.lead, 0x10C)]

/-- The first rejection among items in order. -/
def firstRej {α : Type} (f : Nat → α → Option Rej) : Nat → List α → Option Rej
  | _, [] => none
  | i, x :: r => match f i x with
    | some j => some j
    | none => firstRej f (i + 1) r

/-- A check made only if the one before it passed. -/
def andThen (x y : Option Rej) : Option Rej := match x with
  | some j => some j
  | none => y

/-- The checks of one section with entry index ei, records in order, then what only the whole section shows. -/
def checkSect (e : CheckEnv) (r : RawImage) (hdrDomain : Nat) (g : GraphCtx) (ty : OutTable Nat) (host pickup : OutTable Bool)
    (ei : Nat) (s : RawSect) : Option Rej :=
  let size := recSize s.type
  let recs := fixedRecs r.bytes s size
  let ovr : Option Rej := if recs.2 then some ⟨0x101, 3, s.type * 65536 + recs.1.length⟩ else none
  let own := ((ownNode e r).map (·.node)).getD 0xFFFF
  let ownRec := (ownNode e r).getD (readNode [])
  match s.type with
  | 1 => if s.count != 1 then some ⟨0x101, 2, ei⟩ else andThen (firstRej (fun _ x => checkDomain r hdrDomain x) 0 recs.1) ovr
  | 2 => andThen (andThen (firstRej (checkNode e r) 0 recs.1) ovr)
      (if (ownNode e r).isNone then some ⟨0x105, 2, ei⟩ else none)
  | 3 => andThen (firstRej (checkSignal e r own) 0 recs.1) ovr
  | 4 => andThen (firstRej (checkChan e r ownRec) 0 recs.1) ovr
  | 5 => andThen (firstRej (fun i (p : RawFn × Span × Nat × Nat) => checkFn g.fns i p.1 p.2.1) 0 (r.fns.zip r.spans))
      (if r.fnOver then some ⟨0x101, 3, 0x50000 + r.fns.length⟩ else none)
  | 6 => andThen (firstRej (checkBlkRec r g ty host pickup) 0 r.blks)
      (match r.blkOver with
        | none => none
        | some _ => match r.owner r.blks.length with
          | none => some ⟨0x101, 3, 0x60000 + r.blks.length⟩
          | some (fi, loc) => some ⟨0x101, 5, ((g.fns[fi]?).map (·.fid)).getD 0 * 1024 + loc⟩)
  | 7 => andThen (firstRej checkConst 0 r.consts) ovr
  | 8 => andThen (firstRej (checkAxis e r own) 0 recs.1) ovr
  | 9 => andThen (andThen (firstRej (checkKsl e r own) 0 recs.1) ovr)
      (if r.nodes.all (fun n => r.kslRecs.any (fun y => byteAt y 0 == 2 && leAt y 2 2 == n.node)) then none else some ⟨0x101, 2, ei⟩)
  | _ => if s.count != 1 then some ⟨0x101, 2, ei⟩ else andThen (firstRej checkMode 0 recs.1) ovr

/-- The graph of an image that has been read. -/
def RawImage.ctx (r : RawImage) : GraphCtx :=
  { fns := r.graph, signals := r.signals, consts := r.consts.map (·.1), axes := r.axes, chans := chanRecsOf r }

/-- The image as data, once its checks have passed. -/
def buildImage (e : CheckEnv) (r : RawImage) (dig : BitVec 384) : Image :=
  let b := r.bytes
  { keySlot := byteAt b 0x1C, cfgNumber := leAt b 0x18 4,
    domain := readDomain ((recsOf b r.sects 1 32).headD []), nodes := r.nodes, signals := r.signals,
    chans := chanRecsOf r, srcs := srcRecsOf r, banks := bankRecsOf r, fns := r.graph, consts := r.consts.map (·.1),
    axes := r.axes, hasKslpar := (sectOf r.sects 9).isSome,
    paths := (r.kslRecs.filter (fun y => byteAt y 0 == 1)).map readPath,
    addrs := (r.kslRecs.filter (fun y => byteAt y 0 == 2)).map readAddr,
    mode := ((recsOf b r.sects 10 16).head?).map readMode, digest := dig,
    own := ((ownNode e r).map (·.node)).getD 0 }

/-- Every check of R81 on the bytes a command's buffer of LEN `len` holds: the rejection, or the image and its bytes. -/
def checkImage (e : CheckEnv) (buf : Bytes) (len : Nat) : Except Rej (Image × Bytes) :=
  match checkHeader buf len with
  | some j => .error j
  | none =>
    let n := leAt buf 8 4
    let b := buf.take n ++ zeros (n - buf.length)
    let sig := n - 128
    let slot := byteAt b 0x1C
    let nsect := leAt b 0x0C 2
    let ss := (List.range nsect).map (readSect b)
    let dig := sha384 (b.take sig)
    match andThen (checkSects b sig ss 0 (0x80 + 16 * nsect) 0) (andThen (missingSect ss) (checkSigBlock b sig slot)) with
    | some j => .error j
    | none =>
      match andThen (checkSignature e b sig slot dig) (if e.lib < leAt b 0x12 2 then some ⟨0x104, 1, 0x12⟩ else none) with
      | some j => .error j
      | none =>
        let r := readImage b ss
        let g := r.ctx
        match firstRej (checkSect e r (leAt b 0x14 4) g (graphTypes g) (hostMarks g) (pickupMarks g)) 0 ss with
        | some j => .error j
        | none => .ok (buildImage e r dig, b)

end Sys2Proof.Machine
end

