-- ==== Sys2Proof/Machine/KeyWrap.lean ====
section
/-! DEFINITION. The key wrap of the device identity key (R391): AES-256 (FIPS 197) and RFC 3394, which the rule names. Tables are computed from the
field that the standard defines them over. -/
namespace Sys2Proof.Machine

/-- Twice a byte in the field of FIPS 197. -/
def fieldTwice (a : BitVec 8) : BitVec 8 := (a <<< 1) ^^^ (if a.getLsbD 7 then 0x1B else 0)

/-- The product of two bytes in that field: one doubling for each bit of the second. -/
def fieldMul (a b : BitVec 8) : BitVec 8 :=
  ((List.range 8).foldl (fun (acc : BitVec 8 × BitVec 8) i =>
    (if b.getLsbD i then acc.1 ^^^ acc.2 else acc.1, fieldTwice acc.2)) (0, a)).1

/-- The inverse of a byte, 0 for 0: its 254th power. -/
def fieldInv (a : BitVec 8) : BitVec 8 :=
  let sq := fun (x : BitVec 8) => fieldMul x x
  ((List.range 7).foldl (fun (acc : BitVec 8 × BitVec 8) _ => (fieldMul acc.1 (sq acc.2), sq acc.2)) (1, a)).1

/-- The byte substitution, and back. -/
def byteSub (a : BitVec 8) : BitVec 8 :=
  let x := fieldInv a
  x ^^^ x.rotateLeft 1 ^^^ x.rotateLeft 2 ^^^ x.rotateLeft 3 ^^^ x.rotateLeft 4 ^^^ 0x63
def byteUnsub (a : BitVec 8) : BitVec 8 := fieldInv (a.rotateLeft 1 ^^^ a.rotateLeft 3 ^^^ a.rotateLeft 6 ^^^ 0x05)

/-- Exclusive or of byte strings. -/
def xorBytes (a b : Bytes) : Bytes := a.zipWith (· ^^^ ·) b

/-- One more word of the key schedule of 256 bits; words newest first. -/
def scheduleStep (ws : List Bytes) (i : Nat) : List Bytes :=
  let last := ws.headD []
  let rc := (List.range (i / 8 - 1)).foldl (fun r _ => fieldTwice r) (1 : BitVec 8)
  let t := if i % 8 == 0 then xorBytes ((last.drop 1 ++ last.take 1).map byteSub) [rc, 0, 0, 0]
    else if i % 8 == 4 then last.map byteSub else last
  xorBytes (ws.getD 7 []) t :: ws

/-- The fifteen round keys of a key of 32 bytes. -/
def roundKeys (key : Bytes) : List Bytes :=
  let first := (List.range 8).map (fun i => slice key (4 * i) 4)
  let ws := ((List.range 52).foldl (fun ws i => scheduleStep ws (i + 8)) first.reverse).reverse
  (List.range 15).map (fun r => ((ws.drop (4 * r)).take 4).flatten)

/-- The place in a block of the byte that a row shift brings to place i, by `k` columns for each row. -/
def shiftedPlace (k i : Nat) : Nat := i % 4 + 4 * ((i / 4 + k * (i % 4)) % 4)

/-- The bytes of a block moved by a row shift. -/
def shiftRows (k : Nat) (b : Bytes) : Bytes := (List.range 16).map (fun i => byteOf b (shiftedPlace k i))
where
  byteOf (b : Bytes) (i : Nat) : BitVec 8 := b.getD i 0

/-- Each column of a block multiplied by the circulant of a row of four coefficients. -/
def mixColumns (m : List (BitVec 8)) (b : Bytes) : Bytes := (List.range 16).map (fun i =>
  (List.range 4).foldl (fun x j => x ^^^ fieldMul (m.getD j 0) (b.getD (4 * (i / 4) + (i + j) % 4) 0)) 0)

/-- A block enciphered under round keys. -/
def encipher (ks : List Bytes) (b : Bytes) : Bytes :=
  let start := xorBytes b (ks.headD [])
  let mid := ((ks.drop 1).take 13).foldl (fun x k => xorBytes (mixColumns [2, 3, 1, 1] (shiftRows 1 (x.map byteSub))) k) start
  xorBytes (shiftRows 1 (mid.map byteSub)) (ks.getD 14 [])

/-- A block deciphered under the same round keys. -/
def decipher (ks : List Bytes) (b : Bytes) : Bytes :=
  let start := (shiftRows 3 (xorBytes b (ks.getD 14 []))).map byteUnsub
  (((ks.drop 1).take 13).reverse.foldl (fun x k => (shiftRows 3 (mixColumns [14, 11, 13, 9] (xorBytes x k))).map byteUnsub) start).zipWith
    (· ^^^ ·) (ks.headD [])

/-- The initial value of RFC 3394. -/
def wrapStart : Bytes := List.replicate 8 0xA6

/-- The wrap of a key of 48 bytes in six blocks of 8, step t of 36 from 1: the check register and the blocks. -/
def wrapStep (ks : List Bytes) (x : Bytes × List Bytes) (t : Nat) : Bytes × List Bytes :=
  let i := (t - 1) % 6
  let b := encipher ks (x.1 ++ x.2.getD i [])
  (xorBytes (b.take 8) (beBytes 8 t), x.2.set i (b.drop 8))

/-- One step back. -/
def unwrapStep (ks : List Bytes) (x : Bytes × List Bytes) (t : Nat) : Bytes × List Bytes :=
  let i := (t - 1) % 6
  let b := decipher ks (xorBytes x.1 (beBytes 8 t) ++ x.2.getD i [])
  (b.take 8, x.2.set i (b.drop 8))

/-- The wrapped form, 56 bytes, of a key of 48 bytes under a wrapping key. -/
def wrapKey (kek key : Bytes) : Bytes :=
  let ks := roundKeys kek
  let r := ((List.range 36).map (· + 1)).foldl (wrapStep ks) (wrapStart, (List.range 6).map (fun i => slice key (8 * i) 8))
  r.1 ++ r.2.flatten

/-- The key of a wrapped form, none where the integrity check fails. -/
def unwrapKey (kek wrapped : Bytes) : Option Bytes :=
  let ks := roundKeys kek
  let r := ((List.range 36).reverse.map (· + 1)).foldl (unwrapStep ks) (wrapped.take 8, (List.range 6).map (fun i => slice wrapped (8 * i + 8) 8))
  if r.1 == wrapStart then some r.2.flatten else none

/-- The Hedge's wrapping key as bytes. -/
def hedgeKey : Bytes := beBytes 32 Config.wrappingKey.toNat

end Sys2Proof.Machine
end

