-- ==== Sys2Proof/Machine/Fuses.lean ====
section
/-! DEFINITION. The fuse bank (R374 to R394): regions, margin reads, the boot decision of step 3, the usable keys, and the programming of words. -/
namespace Sys2Proof.Machine

/-- A word as a reference reads it: the OR of the two physical bits (R374). -/
def FuseWord.normal (f : FuseWord) : BitVec 32 := f.copy0.normal ||| f.copy1.normal
def FuseWord.program (f : FuseWord) : BitVec 32 := f.copy0.program ||| f.copy1.program
def FuseWord.erase (f : FuseWord) : BitVec 32 := f.copy0.erase ||| f.copy1.erase

/-- Fuse word w of the bank. -/
def fuseAt (s : State) (w : Nat) : FuseWord := s.nv.fuse.getD w FuseWord.clear

/-- The normal read of a word (R378). -/
def fuseVal (s : State) (w : Nat) : BitVec 32 := (fuseAt s w).normal

/-- A word is WEAK if any bit differs between its three reads (R378). -/
def FuseWord.weak (f : FuseWord) : Bool := f.normal != f.program || f.normal != f.erase

/-- Every bit that reads 1 in any of the three reads. -/
def FuseWord.any (f : FuseWord) : BitVec 32 := f.normal ||| f.program ||| f.erase

/-- The words of region r (R375). -/
def regionWords (r : Nat) : List Nat := match r with
  | 0 => List.range 32
  | 1 => (List.range 64).map (32 + ·)
  | 2 => (List.range 32).map (96 + ·)
  | 3 => (List.range 64).map (128 + ·)
  | 4 => (List.range 8).map (192 + ·)
  | 5 => (List.range 16).map (200 + ·)
  | 6 => (List.range 24).map (216 + ·)
  | _ => (List.range 272).map (240 + ·)

/-- Words of the fixed part of region r. -/
def fixedWords (r : Nat) : List Nat := match r with
  | 0 => List.range 31
  | 1 => (List.range 63).map (32 + ·)
  | 2 => (List.range 24).map (96 + ·)
  | 3 => (List.range 48).map (128 + ·)
  | 4 => [192]
  | 5 => [200]
  | 6 => (List.range 23).map (216 + ·)
  | _ => (List.range 272).map (240 + ·)

/-- The check word of region r; the spare region has none. -/
def checkWord (r : Nat) : Option Nat := match r with
  | 0 => some 31
  | 1 => some 95
  | 2 => some 120
  | 3 => some 176
  | 4 => some 193
  | 5 => some 201
  | 6 => some 239
  | _ => none

/-- Markers of region r. -/
def markerWords (r : Nat) : List Nat := match r with
  | 2 => [121, 122]
  | 3 => [177, 178, 179, 180]
  | 4 => [194, 195, 196, 197]
  | 5 => [202, 203, 204, 205, 206, 207, 208, 209]
  | _ => []

/-- The region that a word belongs to. -/
def regionOf (w : Nat) : Nat :=
  if w < 32 then 0 else if w < 96 then 1 else if w < 128 then 2 else if w < 192 then 3 else if w < 200 then 4 else if w < 216 then 5
  else if w < 240 then 6 else 7

/-- A marker is set if any of its bits reads 1 in any read (R376, R378). -/
def markerSet (s : State) (w : Nat) : Bool := (fuseAt s w).any != 0

/-- The lock of region r is set. -/
def lockSet (s : State) (r : Nat) : Bool := markerSet s (202 + r)

/-- The check of region r verifies on the normal read (R376, R377). -/
def regionVerifies (s : State) (r : Nat) : Bool := match checkWord r with
  | some w => crc32c (BitVec.ofNat 8 r :: (fixedWords r).flatMap (fun i => bytesOf (fuseVal s i) 4)) == fuseVal s w
  | none => (fixedWords r).all (fun i => fuseVal s i == 0)

/-- The state code of region r (R377). A spare region of zeros counts as INTACT (DEDUCED, log 27). -/
def regionState (s : State) (r : Nat) : Nat :=
  let blank := (checkWord r).isSome && (fixedWords r ++ (checkWord r).toList).all (fun i => fuseVal s i == 0)
  if regionVerifies s r then (if lockSet s r then 3 else 2)
  else if lockSet s r then 4
  else if blank then 0 else 1

/-- The lifecycle that the step markers give (R379). -/
def lifecycleOf (s : State) : Nat :=
  if markerSet s 197 then 4 else if markerSet s 196 then 3 else if markerSet s 195 then 2 else if markerSet s 194 then 1 else 0

/-- FUS_WEAK.REGION: a WEAK word, or a marker that is set but not whole (R394). -/
def weakRegion (s : State) (r : Nat) : Bool :=
  (regionWords r).any (fun w => (fuseAt s w).weak) || (markerWords r).any (fun w => markerSet s w && fuseVal s w != 0xFFFFFFFF)

/-- Region r holds a WEAK word, a marker or another one (R378, R380). -/
def weakIn (s : State) (r : Nat) : Bool := (regionWords r).any (fun w => (fuseAt s w).weak)

/-- The alarm of region r by R380: none, closed, or open. `st` is its state, in which a failed unwrap counts as SEALED_INCOMPLETE (R391). -/
def regionAlarm (s : State) (lcy r st : Nat) : Option Bool :=
  let started := st == 0 || st == 1
  let weak := weakIn s r
  match r with
  | 0 | 2 | 6 => if (started && lcy != 0) || st == 4 || weak then some true else none
  | 1 => if st == 4 then some false else none
  | 3 => if (started && 1 < lcy) || st == 4 || weak then some true else none
  | 4 => if (started && lcy != 0) || st == 4 then some false else none
  | 5 => if (started && 1 < lcy) || st == 4 then some false else none
  | _ => if started || st == 4 then some false else none

/-- The CAL words in use after R380. -/
def calWords (s : State) (st : Nat) : List (BitVec 32) :=
  (fixedWords 1).map (fun w => if st == 0 || st == 1 || st == 4 || (fuseAt s w).weak then Config.calDefault w else fuseVal s w)

/-- A CAL word takes its default. -/
def calDefaults (s : State) (st : Nat) : Bool := st == 0 || st == 1 || st == 4 || (fixedWords 1).any (fun w => (fuseAt s w).weak)

/-- The debug policy after R378 and R380. -/
def dbgPolicy (s : State) (alarm5 : Bool) : BitVec 3 :=
  if alarm5 then 7 else (if (fuseAt s 200).weak then (fuseAt s 200).any else fuseVal s 200).setWidth 3

/-- FUS_STATUS without its BUSY bit (R394). -/
def fusStatusWord (s : State) : Nat :=
  s.fus.alarmReg.toNat * 256 + b2n s.fus.alarmOpen * 128 + b2n s.fus.vddProg * 32 + b2n s.fus.advanced * 8 + s.fus.lcy

/-- FUS_WEAK (R394). -/
def fusWeakWord (s : State) : Nat := s.fus.weakReg.toNat + match s.fus.weakFirst with
  | some w => w * 65536 + 2 ^ 25
  | none => 0

/-- The fields that FUSE_PROG and FUSE_LOCK update (R394): region states, locks and revocations. -/
def updateFus (s : State) : State :=
  { s with fus := { s.fus with
      regState := (List.range 8).map (regionState s),
      lock := BitVec.ofNat 8 ((List.range 8).foldl (fun n r => n + b2n (lockSet s r) * 2 ^ r) 0),
      vrev := BitVec.ofNat 2 (b2n (markerSet s 121) + 2 * b2n (markerSet s 122)),
      orev := BitVec.ofNat 4 ((List.range 4).foldl (fun n i => n + b2n (markerSet s (177 + i)) * 2 ^ i) 0) } }

/-- A WEAK word or a partial marker of region r that raises no alarm: a word of CAL, LCY, PROT or the spare region, or a marker that reads
alike in all three reads (R380, R395). -/
def weakQuiet (s : State) (r : Nat) : Bool :=
  ((r == 1 || r == 4 || r == 5 || r == 7) && weakIn s r)
    || (markerWords r).any (fun w => !(fuseAt s w).weak && markerSet s w && fuseVal s w != 0xFFFFFFFF)

/-- A digest as 12 fuse words (DESIGN CHOICE, log 26: each word takes four bytes of the digest, little-endian). -/
def digestWords (d : BitVec 384) : List (BitVec 32) := (List.range 12).map (fun i => BitVec.ofNat 32 (leAt (digestBytes d) (4 * i) 4))

/-- The device identity key as the Hedge unwraps it from DKEY (R391). -/
def unwrapped (s : State) : Option Nat :=
  (unwrapKey hedgeKey ((List.range 14).flatMap (fun i => bytesOf (fuseVal s (216 + i)) 4))).map (fun b => beAt b 0 48)

/-- The device certificate, if it is valid (R391). -/
def validCert (s : State) : Bytes :=
  if s.nv.cert.length ≤ 2048 && !s.nv.cert.isEmpty && digestWords (sha384 s.nv.cert) == (List.range 12).map (fun i => fuseVal s (12 + i))
  then s.nv.cert else []

/-- The normal read of every word as the FUS page shows it; DKEY reads 0 (R394). -/
def shownWords (s : State) : List (BitVec 32) := (List.range 512).map (fun w => if 216 ≤ w && w < 240 then 0 else fuseVal s w)

/-- Step 3: margin reads, the boot decision, and the fuse-derived fields of the FUS page (R378 to R380, R391, R394). -/
def senseFuses (s : State) : State :=
  let lcy := lifecycleOf s
  let stOf := fun r => let st := regionState s r; if r == 6 && st == 3 && (unwrapped s).isNone then 4 else st
  let alarm := fun r => regionAlarm s lcy r (stOf r)
  let weakWords := idxs 512 (fun w => (fuseAt s w).weak)
  let weakRegs := idxs 8 (weakRegion s)
  let alarms := idxs 8 (fun r => (alarm r).isSome)
  let bits := fun (l : List Nat) => BitVec.ofNat 8 (l.foldl (fun n r => n + 2 ^ r) 0)
  let t := updateFus { s with fus := { s.fus with
      sensed := true, alarmReg := bits alarms, alarmOpen := (List.range 8).any (fun r => alarm r == some true), lcy := lcy,
      weakReg := bits weakRegs, weakFirst := weakWords.head?, weakWords := weakWords, dbgpol := dbgPolicy s (alarm 5).isSome,
      serial := fuseVal s 0 ++ fuseVal s 1, cal := calWords s (stOf 1), idUsable := stOf 6 == 3 && !weakIn s 6,
      devKey := (unwrapped s).getD 0, words := shownWords s, certLen := (validCert s).length } }
  let t := if alarms.isEmpty then t else raise t 240 (fusStatusWord t) 0 0
  let t := if (List.range 8).any (weakQuiet s) then raise t 241 (fusWeakWord t) 0 0 else t
  if calDefaults s (stOf 1) then raise t 242 0 0 0 else t

/-- First fuse word of a key slot: 0 and 1 are vendor slots, 2 to 5 the owner slots 0 to 3 (R375). -/
def keyWord (k : Nat) : Nat := if k < 2 then 96 + 12 * k else 128 + 12 * (k - 2)

/-- The hash held by a key slot. -/
def keyHash (s : State) (k : Nat) : List (BitVec 32) := (List.range 12).map (fun i => fuseVal s (keyWord k + i))

/-- The revocation marker of a key slot. -/
def keyMarker (k : Nat) : Nat := if k < 2 then 121 + k else 177 + (k - 2)

/-- A key slot is usable (R387). -/
def keyUsable (s : State) (k : Nat) : Bool :=
  let h := keyHash s k
  regionState s (if k < 2 then 2 else 3) == 3 && h.any (fun x => x != 0)
    && !(List.range 12).any (fun i => s.fus.weakWords.contains (keyWord k + i)) && !markerSet s (keyMarker k)
    && (match (s.nv.keys[k]?).bind id with
        | some p => p.length == 97 && byteAt p 0 == 4 && digestWords (sha384 p) == h
        | none => false)

/-- FUS_KEYS shows which slots are usable: at step 3 and after each FUSE_PROG (R394). -/
def showKeys (s : State) : State :=
  { s with fus := { s.fus with usable := BitVec.ofNat 6 ((idxs 6 (keyUsable s)).foldl (fun n k => n + 2 ^ k) 0) } }

/-- The public key (X then Y) of a usable slot. -/
def keyOf (s : State) (k : Nat) : Option Bytes := if keyUsable s k then ((s.nv.keys[k]?).bind id).map (fun p => p.drop 1) else none

/-- The key of an owner slot that a record names. -/
def ownerKeyOf (s : State) (i : Nat) : Option Bytes := if i < 4 then keyOf s (2 + i) else none

/-- A signature of 96 bytes verifies under key slot k (R387). -/
def verifies (s : State) (k : Nat) (sig : Bytes) (dig : BitVec 384) : Bool := match keyOf s k with
  | some p => ecdsaVerify p sig dig
  | none => false

/-- What the checks of an image take from the module. -/
def checkEnv (s : State) : CheckEnv where
  variant := s.sys.variant
  serial := s.fus.serial
  lib := s.fus.libEff.toNat
  ownerKey := ownerKeyOf s
  alarmOpen := s.fus.alarmOpen

/-- Between steps 4 and 5: the block-library patch (R390). -/
def checkLibrary (s : State) : State :=
  let rom := { s with fus := { s.fus with libEff := Config.romLib } }
  match s.nv.libPatch with
  | none => rom
  | some p =>
    if p.slot < 2 && verifies s p.slot p.sig (sha384 p.body) && decide (Config.romLib < p.rev) then
      { s with fus := { s.fus with libEff := p.rev } }
    else raise rom 247 0 0 0

/-- How the blowing of bits ends (R383). -/
inductive BlowEnd where
  | done
  | vdd (word : Nat)
  | verify (word : Nat)
deriving DecidableEq, Repr

/-- Bits of a mask in ascending order. -/
def maskBits (m : BitVec 32) : List Nat := (List.range 32).filter (fun i => m.getLsbD i)

/-- A mask of bits. -/
def bitsMask (l : List Nat) : BitVec 32 := l.foldl (fun m i => setBit m i) 0

/-- Bits blown in a word, both physical bits of each (R374). A bit that fails its readback does not read 1 at the program margin; how it reads otherwise is `free`. A bit that
reads 1 at the normal reference never returns to 0 (R374, R383). -/
def blowWord (f : FuseWord) (good bad free1 free2 : BitVec 32) : FuseWord :=
  let blow := fun (c : FuseCopy) =>
    (⟨c.normal ||| good ||| (bad &&& free1), (c.program ||| good) &&& ~~~bad, c.erase ||| good ||| (bad &&& free2)⟩ : FuseCopy)
  ⟨blow f.copy0, blow f.copy1⟩

/-- The bits that a command blows in a word: those of its mask, and then those that read 1 at the normal reference and not in all three reads
(R383). -/
def blowBits (f : FuseWord) (m : BitVec 32) : List Nat := maskBits m ++ maskBits (f.normal &&& ~~~(f.program &&& f.erase) &&& ~~~m)

/-- Blow masks word by word: VDD is checked before each bit, and each word is read back with all three reads, a bit of it that should read 1
and does not being blown again once (R383). `left` is how many bits VDD lasts for; `badBits` are those that fail both times. Answers the state,
the bits blown and the end. -/
def blowLoop (badBits : List (Nat × Nat)) : List (Nat × BitVec 32) → Option Nat → State → Nat → State × Nat × BlowEnd
  | [], _, s, n => (s, n, .done)
  | (w, m) :: r, left, s, n =>
    let bits := blowBits (fuseAt s w) m
    let take := match left with
      | some k => bits.take k
      | none => bits
    let badl := take.filter (fun i => badBits.contains (w, i))
    let good := bitsMask (take.filter (fun i => !badBits.contains (w, i)))
    let f := blowWord (fuseAt s w) good (bitsMask badl) ((Config.freeVal s.freeCnt).setWidth 32) ((Config.freeVal (s.freeCnt + 1)).setWidth 32)
    let t : State := { s with nv := { s.nv with fuse := s.nv.fuse.set w f }, freeCnt := s.freeCnt + (if badl.isEmpty then 0 else 2) }
    let t := { t with fus := { t.fus with progCnt := satAdd t.fus.progCnt take.length } }
    let n := n + take.length
    if take.length < bits.length then (t, n, .vdd w)
    else if !badl.isEmpty then (t, n, .verify w)
    else blowLoop badBits r (left.map (fun k => k - bits.length)) t n

/-- Where the KEY mode's hash and the data of PROGRAM go: the bits that are 1 in the data and 0 in the fuse, by word. -/
def missingBits (s : State) (first : Nat) (ws : List (BitVec 32)) : List (Nat × BitVec 32) :=
  ws.zipIdx.map (fun x => (first + x.2, x.1 &&& ~~~(fuseVal s (first + x.2))))

/-- At a start-up in MANUFACTURE with ID SEALED and DKEY BLANK the Hedge generates the identity key pair, programs the wrapped key and the check
word and sets LOCK6; it counts as usable from the next step 3 on (R391). `left` is how many bits VDD lasts for. -/
def sealKey (s : State) (left : Option Nat) : State :=
  if s.fus.lcy == 0 && regionState s 0 == 3 && regionState s 6 == 0 then
    let wrapped := wrapKey hedgeKey (beBytes 48 (Config.newKey s.freeCnt).toNat)
    let key := (List.range 14).map (fun i => BitVec.ofNat 32 (leAt wrapped (4 * i) 4))
    let chk := crc32c (BitVec.ofNat 8 6 :: (key ++ List.replicate 9 0).flatMap (fun w => bytesOf w 4))
    let ws : List (Nat × BitVec 32) := key.zipIdx.map (fun x => (216 + x.2, x.1)) ++ [(239, chk), (208, 0xFFFFFFFF)]
    (blowLoop [] (ws.filter (fun x => x.2 != 0)) left (nextFree s) 0).1
  else s

/-- Authorisation record (R388) for a purpose and, for 1 and 2, a target slot. -/
def authOk (s : State) (b : Bytes) (purpose target : Nat) : Bool :=
  let signer := byteAt b 6
  let slot := if purpose == 1 then signer else 2 + signer
  leAt b 0 4 == 0x41465853 && byteAt b 4 == purpose && byteAt b 5 == target && zeroAt b 7 1 && zeroAt b 0x11 15
    && beAt b 8 8 == s.fus.serial.toNat && byteAt b 0x10 == s.fus.lcy && (purpose == 3 || signer != byteAt b 5)
    && (if purpose == 1 then signer < 2 else signer < 4) && verifies s slot (slice b 0x20 96) (sha384 (b.take 0x20))

/-- Another key slot of the same kind would remain usable without slot k (R389). -/
def otherUsable (s : State) (k : Nat) : Bool :=
  (if k < 2 then [0, 1] else [2, 3, 4, 5]).any (fun j => j != k && keyUsable s j)

/-- Owner slot that signs the ACTIVE image or the stored acceptance record (R389). -/
def inUse (s : State) (i : Nat) : Bool :=
  s.nv.slots.any (fun x => match x with
    | .active b => byteAt b 0x1C == i
    | _ => false) || s.nv.accRec.any (fun b => byteAt b 4 == i)

end Sys2Proof.Machine
end

