-- ==== Sys2Proof/Machine/Boot.lean ====
section
/-! DEFINITION. Loading a configuration and taking a plan (R83, R105, R281, R284 to R286, R365, R366), and the ends of a start-up (R367 to R370). -/
namespace Sys2Proof.Machine

/-- SYS_BOOT (R435). -/
def bootWord (s : State) : Nat := b2n s.sys.halt * 65536 + s.sys.step * 4096 + s.sys.cause

/-- INFO words 1 and 2 of STARTUP_END (R370): milliseconds since the power-on release, and the UNTESTED banks. -/
def startupInfo (s : State) : Nat × Nat :=
  (s.tb.toNat / 100000, (idxs (nBankOf s.sys.variant) (fun b => (bankAt s b).st == .untested)).foldl (fun n b => n + 2 ^ b) 0)

/-- EV000, once for each start-up (R370). -/
def endStartup (s : State) : State :=
  if s.sys.ended then s
  else raise { s with sys := { s.sys with ended := true } } 0 (bootWord s) (startupInfo s).1 (startupInfo s).2

/-- READ_DIAGs that no C instant will serve take their snapshot now: no frame timer runs (R324, R368). -/
def settleDiags (s : State) : State := if s.lan.timerOn then s else endAllDiags s s.lan.frame.toNat

/-- A change of power state (R407, R412). -/
def enterPwr (s : State) (p : Nat) : State :=
  if s.sys.pwr == p then s else raise { s with sys := { s.sys with pwr := p } } 253 p 0 0

/-- A halt (R367, R368): only a module reset leaves it. -/
def haltModule (s : State) (cause : Nat) : State :=
  let s := { s with
    sys := { s.sys with halt := true, cause := cause, running := 0 },
    lan := { s.lan with timerOn := false } }
  let s := enterPwr s 1
  let s := if 7 ≤ s.sys.step then sendAllOff s else s
  settleDiags (endStartup s)

/-- A source with a record is on once its check has passed; one without is switched off at the end of step 10 and stays off, on a bank without
feed UNTESTED (R151, R166, R364). -/
def trimSources (s : State) (c : Option Image) : State :=
  { s with fld := { s.fld with srcs := s.fld.srcs.zipIdx.map (fun p =>
      if (c.bind (fun c => ownSrc c p.2)).isSome then (if p.1.st == .off && p.1.passed then freshSource .active false p.1 else p.1)
      else if p.1.st == .untested then p.1
      else { freshSource .off false p.1 with passed := p.1.passed && p.1.st != .faulted }) } }

/-- P1 is held down without PMODE 1 or 2 (R259). -/
def holdP1 (s : State) : State :=
  if pmodeOf s == 0 && s.net.speed1 != 0 then raise { s with net := { s.net with speed1 := 0 } } 147 1 0 0 else s

/-- HOLD without configuration (R365, R366). DESIGN CHOICE (log 161): after a wake the frame parameters of the last configuration stay. -/
def noConfig (s : State) (cause : Nat) : State :=
  endStartup (holdP1 (trimSources { s with cfg := none, sys := { s.sys with noCfg := true, cause := cause, running := 0 } } none))

/-- The own node's frame parameters take effect (R52, R122). -/
def setFrameParams (s : State) (c : Image) : State := match ownRec c with
  | none => s
  | some r => { s with
      lan := { s.lan with tfUnits := BitVec.ofNat 11 r.tf, woUs := BitVec.ofNat 14 r.wo, swarn := BitVec.ofNat 20 r.swarn, smax := BitVec.ofNat 20 r.smax },
      rdl := { s.rdl with decoyInt := BitVec.ofNat 7 r.decoyInt } }

/-- Nothing of an earlier plan or of its frames is left. -/
def clearPlan (s : State) : State :=
  { s with
    fns := [], ksl := { s.ksl with prod := [], cons := [], rot := [], prodF := [], consF := [] }, cuts := CutsSt.reset,
    mode := ModeSt.reset,
    plt := { PltSt.reset with time := s.plt.time },
    lan := { s.lan with
      imgs := [], open_ := [], lates := [], skews := [], lastCp := [], lastVerd := [], evalA := LaneEval.reset, evalB := LaneEval.reset,
      startAt := none, diag := none, memErr := none, pendFault := none },
    rdl := stopRiddle s.rdl,
    host := { s.host with slots := List.replicate 256 none, slotLatch := List.replicate 256 none, reports := List.replicate 256 none } }

/-- A produced connection that exists from now on; the Hedge hands its key to both lanes (R234). -/
def newProd (key : BitVec 384) (k : PlanConn) : ProdSt := ⟨k, bothKeys (connKey key k.id), [], none, false, none, 0⟩

/-- A consumed connection that exists from now on, without an accepted plan (R234, R241). -/
def newCons (key : BitVec 384) (k : PlanConn) : ConsSt :=
  { conn := k, key := bothKeys (connKey key k.id), st := .idle, cause := 0, newest := none, lastSeq := 0, synced := false, fails := [], nonce := none,
    reqDue := false, chk := 0, ageLast := 0, agePeak := 0, fenced := [], latched := none, age := 0 }

/-- A consumed connection once the plan is accepted: it asks for its first SYNC (R241, R243). -/
def waitCons (s : State) (x : ConsSt) : ConsSt := askSync s { x with st := .wait, cause := 0 }

/-- The tree neighbours and the CONTROL connections with their keys, from the activation of the configuration on (R274). -/
def plantTree (s : State) (c : Image) : State :=
  let near := treeNbrs c c.own
  { s with
    plt := { s.plt with nbrs := near.map (fun n => ⟨n, false, none, none, false, false, [], 0, 0, 0⟩) },
    ksl := { s.ksl with
      prod := (controlConns c c.own).map (newProd c.digest),
      cons := (sortNat near).flatMap (fun n => ((controlConns c n).filter (fun k => k.cons == c.own)).map (newCons c.digest)) } }

/-- The channels of a new image: one that is no safety input any more has no input fault and no code data, and slots are counted from frame 0
again (R150, R167, R172; DEDUCED, log 156). -/
def trimInputs (s : State) (c : Image) : State :=
  let seq := fun (p : SeqIn × Nat) => if isSafeIn c p.2 then { p.1 with judged := [], firstMis := 0 } else
    { SeqIn.reset with acc := p.1.acc, pend := p.1.pend, cmps := p.1.cmps }
  let agreed := fun (p : InCh × Nat) => if isSafeIn c p.2 then p.1 else InCh.reset
  { s with fld := { s.fld with
      seqA := s.fld.seqA.zipIdx.map seq, seqB := s.fld.seqB.zipIdx.map seq, ins := s.fld.ins.zipIdx.map agreed,
      insPrev := s.fld.insPrev.zipIdx.map agreed, srcs := s.fld.srcs.map (fun k => { k with placed := none }) } }

/-- Stage 3 of R365: the lanes load the image into their own memories (R105), the tree is planted, the frame timer starts at n = 0 and the plan is
computed. DESIGN CHOICE (log 160): the activation ends a halt of the lanes in BENCH. -/
def loadImage (s : State) (c : Image) : State :=
  let s := setFrameParams (resetPtp (clearPlan s)) c
  let s := trimInputs (holdP1 (trimSources { s with cfg := some c } (some c))) c
  plantTree { s with
    sys := { s.sys with noCfg := false, cause := 0, running := 0, step := 11 },
    lan := { s.lan with timerOn := true, fresh := true, halted := false, haltReq := false, stepReq := false, frame := 0, fstart := 0,
                        fstate := if s.lan.fstate == 3 then 3 else 1, constA := loadConsts .a c, constB := loadConsts .b c },
    plt := { s.plt with state := 1, cfgDig := c.digest, topoDig := topoDigest c } } c

/-- A plan error (R288). A final one leaves PLT_STATE FAILED and ends start-up with cause PLAN (R366, R370): no plan is accepted, so every
consumed connection is IDLE (R241), and a START that waits for its frame does not enter RUN (R285). Out of RUN the module goes to HOLD as if that had
been ordered: at the next C instant (R288; DEDUCED, log 74). -/
def planFailed (s : State) (e : PlanErr) : State :=
  let s := { s with
    plt := { s.plt with state := 5, err := BitVec.ofNat 8 e.code, errCause := BitVec.ofNat 4 e.cause, errFid := BitVec.ofNat 20 e.fid, errNode := e.node,
                        accepted := false, rejoin := false },
    lan := { s.lan with startAt := none, pendFault := if s.lan.inRun then s.lan.pendFault.or (some 0x30) else s.lan.pendFault },
    ksl := { s.ksl with cons := s.ksl.cons.map (fun x => { x with st := .idle, cause := 0, reqDue := false }) },
    sys := { s.sys with cause := 0x0C } }
  endStartup (raise s 163 e.code (e.node.getD (ownNodeNo s)) e.fid)

/-- Context of a plan record on this node, with the standby's phase on a standby (R281, R282). -/
def contextOf (c : Image) (p : PlanFn) : Option FnSt :=
  let mk := fun (ctx phase : Nat) (sb : Bool) =>
    (fnIndex c.fns p.fid).map (fun i =>
      let r := c.fns.getD i emptyFn
      (⟨ctx, p.fid, i, p.klog, phase, p.k, sb, [], [], loadPars .a r, loadPars .b r, [], [], [], [], [], [], none, 0⟩ : FnSt))
  if p.host == c.own then mk p.hctx p.phase false else if p.standby == some c.own then mk p.sctx p.sphase true else none

/-- Pairs in their first order, each once. -/
def distinctPairs (l : List (Nat × Nat)) : List (Nat × Nat) := l.foldl (fun acc x => if acc.contains x then acc else acc ++ [x]) []

/-- KRECV bindings: the choice between the connections of a function with a cutting starts with the host's, if there is one; on the host's own
node there is none (R250, R301). -/
def pickList (c : Image) (p : Plan) (fns : List FnSt) : List PickSt :=
  let bound := fns.flatMap (fun f => (fnRecOf c f).blocks.filterMap (fun b => if b.type == 0x51 then some (b.parN 0, b.parN 1) else none))
  (distinctPairs bound).filterMap (fun x => (p.fns.find? (fun f => f.fid == x.1)).bind (fun f =>
    let host := p.conns.find? (fun k => k.type == 1 && k.sub == 0 && k.cons == c.own && k.fid == x.1 && k.blk == x.2 && k.prod == f.host)
    if host.isSome || f.standby.isSome then some ⟨x.1, x.2, host.map (fun k => k.id)⟩ else none))

/-- Functions with SOUT channels here that another node or a cutting may drive (R279, R302). -/
def ownList (c : Image) (p : Plan) : List OwnSt :=
  (p.fns.filter (fun f => !(fnChans c f.fid).isEmpty && (f.host != c.own || f.standby.isSome))).map (fun f => ⟨f.fid, 0, 0, false, false, ⟨[], []⟩, ⟨[], []⟩⟩)

/-- The contexts, connections, cuttings and owners of an accepted plan (R234, R281, R286). CONTROL connections exist already; every consumed one
now asks for its SYNC (R241). -/
def installPlan (s : State) (c : Image) (p : Plan) : State :=
  let fns := (p.fns.filterMap (contextOf c)).map (fun f => restartFn s c f 0)
  let prods := (p.conns.filter (fun k => k.prod == c.own && k.type != 3)).map (newProd s.plt.planDig)
  let cons := (p.conns.filter (fun k => k.cons == c.own)).filterMap (fun k =>
    if k.type == 3 then s.ksl.cons.find? (fun x => x.conn.id == k.id) else some (newCons s.plt.planDig k))
  let cuts := (p.fns.filter (fun f => f.standby.isSome && (f.host == c.own || f.standby == some c.own))).map (fun f =>
    (⟨f.fid, f.host == c.own, false, 0, none, none, false, false, 0, false, s.tb⟩ : CutSt))
  { s with
    fns := fns, ksl := { s.ksl with prod := prods ++ s.ksl.prod.filter (fun x => x.conn.type == 3), cons := cons.map (waitCons s) },
    cuts := ⟨cuts, ownList c p, pickList c p fns⟩ }

/-- ACCEPTED (R286, R305, R366): the plan takes effect with INIT and epoch 0, and the module reaches step 13. -/
def enterAccepted (s : State) (c : Image) (p : Plan) : State :=
  let s := installPlan { s with mode := { s.mode with applied := (c.mode.map (fun m => m.init)).getD 0, epoch := 0 } } c p
  let s := { s with plt := { s.plt with state := 4, accepted := true }, sys := { s.sys with step := 13 } }
  endStartup (raise s 162 0 c.own 0)

/-- The checks of an acceptance record (R286): status 0x0012 ACC_DIGEST, 0x0013 ACC_SIGNATURE, or 0. -/
def recordStatus (s : State) (b : Bytes) : Nat :=
  if beAt b 8 48 != s.plt.cfgDig.toNat || beAt b 0x38 48 != s.plt.planDig.toNat || beAt b 0x68 48 != s.plt.topoDig.toNat then 0x12
  else if leAt b 0 4 != 0x43415853 || !zeroAt b 5 3 || !zeroAt b 0xF8 8 || 4 ≤ byteAt b 4
    || !verifies s (2 + byteAt b 4) (slice b 0x98 96) (sha384 (slice b 8 144)) then 0x13
  else 0

/-- The plan takes effect under the record in MRAM. -/
def acceptPlan (s : State) : State := match s.cfg, s.plt.plan with
  | some c, some p => enterAccepted s c p
  | _, _ => s

/-- A record that has passed its checks is written into MRAM and the plan accepted (R286): a new plan, so every known epoch is 0 (R296). -/
def acceptRecord (s : State) (b : Bytes) : State := acceptPlan { s with nv := { s.nv with accRec := some b, epochs := [] } }

/-- AWAIT_ACCEPT (R285), and step 12: a stored record that matches is accepted without a command (R366), with the known epochs restored
(R365). -/
def enterAwait (s : State) (byRejoin : Bool) : State :=
  let s := raise { s with plt := { s.plt with state := 3, rejoin := byRejoin, err := 0 }, sys := { s.sys with step := 12 } } 161 0 (ownNodeNo s) 0
  match s.nv.accRec with
  | some b => if recordStatus s b == 0 then acceptPlan s else s
  | none => s

/-- What a neighbour reports in the digest messages of the own plan: its LEVEL, if both halves agree (R285). -/
def NbrSt.level (n : NbrSt) : Option Nat := match n.levelLo, n.levelHi with
  | some a, some b => some (min a b)
  | _, _ => none

/-- LEVEL rises while every tree neighbour reports the same digest at its height (R285); it stops at D. -/
def riseLevel : Nat → State → State
  | 0, s => s
  | k + 1, s =>
    if s.plt.level < s.plt.diam && s.plt.nbrs.all (fun n => n.level.any (fun l => s.plt.level ≤ l)) then
      riseLevel k { s with plt := { s.plt with level := s.plt.level + 1 } }
    else s

/-- A port that one of the own raw or UDP path records uses is linked below 1000 Mbit/s: the path's other node (R284). -/
def slowPath (s : State) (c : Image) : Option Nat :=
  let ports := if pmodeOf s == 0 then [0] else [0, 1]
  if ports.any (fun p => 1 ≤ portSpeed s p && portSpeed s p < 3) then
    ((sortNat (c.nodes.map (fun r => r.node))).find? (fun n => (pathOf c c.own n).any (fun r => r.carrier != 2)))
  else none

/-- The checks of JOIN that do not come from a message (R284): the largest PATH against 2·net, and slow ports. -/
def pathVeto (s : State) (c : Image) : Option Nat :=
  match s.plt.nbrs.find? (fun n => 2 * netOf c c.own n.node < n.pathMax) with
  | some n => some n.node
  | none => slowPath s c

/-- Joining and agreement go on as far as they can (R284, R285): every neighbour has joined with 16 PATH measurements, and LEVEL is D. LEVEL
rises further after the exception for a module that restarts. -/
def tryAgree (s : State) : State := match s.cfg with
  | none => s
  | some c =>
    if s.plt.state == 3 || s.plt.state == 4 then riseLevel s.plt.diam s
    else if s.plt.state != 2 then s
    else match pathVeto s c with
      | some n => planFailed s ⟨3, 0, 0, some n⟩
      | none =>
        let s := riseLevel s.plt.diam s
        if s.plt.nbrs.any (fun n => n.run && n.level.isSome) then enterAwait s true
        else if s.plt.level == s.plt.diam && s.plt.nbrs.all (fun n => n.joined && 16 ≤ n.paths) then enterAwait s false
        else s

/-- After a received frame: a measurement of PATH may complete or fail joining (R284). -/
def afterFrame (before s : State) : State := if before.plt.nbrs == s.plt.nbrs then s else tryAgree s

/-- Both ends of a barrier link are trained (R203). -/
def linksUp (s : State) : Bool := s.fld.linkA.st == .up && s.fld.linkB.st == .up

end Sys2Proof.Machine
end

