-- ==== Sys2Proof/Machine/Cmds.lean ====
section
/-! DEFINITION. The commands of the host (R80, R83, R286, R306, R319 to R327, R338, R340, R368, R369, R372, R409): when one runs, its refusals in
order, and what each does. The fuse, lifecycle and debug commands have files of their own. -/
namespace Sys2Proof.Machine

/-- Operand byte i of a command, from 0x18. -/
def Outst.opnd (o : Outst) (i : Nat) : Nat := byteAt o.entry (0x18 + i)
/-- Little-endian operand field. -/
def Outst.opndLe (o : Outst) (i n : Nat) : Nat := leAt o.entry (0x18 + i) n

/-- Opcodes that exist (R323). -/
def opcodeKnown (op : Nat) : Bool := op ≤ 0x13

/-- Operand bytes that an opcode uses (R323, R381, R384, R393, R400). -/
def opndUsed (op : Nat) : Nat := match op with
  | 0x01 | 0x02 | 0x03 | 0x06 => 1
  | 0x0A => 12
  | 0x0B => 8
  | 0x0C => 32
  | 0x0D => 5
  | 0x0E | 0x0F | 0x10 | 0x11 | 0x12 => 1
  | 0x13 => 3
  | _ => 0

/-- The module is in HOLD, also while a START waits for its frame; no entry into STANDBY is under way (R407). -/
def inHold (s : State) : Bool := !s.lan.inRun && s.sys.pwr == 1 && !s.sys.entering

/-- Refusals by a halt and by start-up (R368, R369). -/
def gateStatus (s : State) (op : Nat) : Option Nat :=
  if s.sys.halt then
    (if op == 0 || op == 9 || (0x0B ≤ op && op ≤ 0x10) then none else if op == 7 then some 6 else some 5)
  else if s.sys.running != 0 then (if op == 0 || op == 9 || op == 0x0B || op == 0x0C then none else some 5)
  else none

/-- What START is refused with (R148, R287, R372). -/
def startStatus (s : State) : Option Nat :=
  if !inHold s then some 5
  else if s.lan.needReset || s.lan.markA || s.lan.markB || s.rdl.cmpFault then some 6
  else if s.sys.step < 13 || s.plt.state != 4 || s.lan.blFault || !linksUp s || s.sys.tempBad then some 5
  else none

/-- The command's own rules for the present state. -/
def ownStatus (s : State) (o : Outst) (buf : Bytes) : Option Nat := match o.op with
  | 2 => if o.opnd 0 < 2 && (s.nv.slots.getD (o.opnd 0) .empty) == .empty then some 5 else none
  | 3 =>
    if !inHold s || s.fus.lcy == 0 || s.fus.lcy == 3 then some 5
    else if o.opnd 0 < 2 && (s.nv.slots.getD (o.opnd 0) .empty) == .empty then some 5 else none
  | 4 => if s.plt.plan.isNone then some 5 else none
  | 5 =>
    if s.sys.pwr == 3 then some 5
    else if s.plt.state == 3 || (s.plt.state == 4 && s.nv.accRec == some (buf.take 256)) then none else some 5
  | 6 => if s.plt.state != 4 || s.sys.pwr == 3 then some 5 else none
  | 7 => startStatus s
  | 0x0D | 0x0E | 0x0F =>
    if s.sys.halt || inHold s then none else some 5
  | 0x10 => if o.opnd 0 == 2 && s.lcy.dbg == .bench then some 6 else none
  | _ => none

/-- Words that FUSE_PROG MODE 2 and 3 may name (R381). -/
def keyWords : List Nat := [96, 108, 128, 140, 152, 164]
/-- Revocation markers. -/
def revWords : List Nat := [121, 122, 177, 178, 179, 180]

/-- FUSE_PROG's operands are in range and its buffer is large enough (R381). -/
def fuseOpndOk (o : Outst) : Bool :=
  let w := o.opndLe 0 2
  let n := o.opndLe 2 2
  match o.opnd 4 with
  | 0 => 1 ≤ n && n ≤ 64 && w + n ≤ 512 && 4 * n ≤ o.len
  | 1 => 1 ≤ n && n ≤ 64 && w + n ≤ 512
  | 2 => keyWords.contains w && n == 12 && 97 ≤ o.len
  | 3 => revWords.contains w && n == 1 && 128 ≤ o.len
  | _ => false

/-- Length of the ATTEST report (R392). -/
def attestLen (s : State) : Nat := 0x112 + (validCert s).length

/-- Set bits of a 4-bit mask. -/
def axesOf (m : Nat) : List Nat := idxs 4 (fun i => nbit m i)

/-- Operands out of range and buffers too small, by opcode. -/
def opndBad (s : State) (o : Outst) : Bool := match o.op with
  | 1 | 2 | 3 | 0x11 => 1 < o.opnd 0
  | 4 => o.len < ((s.plt.plan.bind (fun p => s.cfg.map (fun c => (planBytes c.nodes.length p).length))).getD 0)
  | 5 => o.len < 256
  | 9 => o.len < 32 + 32 * s.fns.length
  | 0x0B => o.opndLe 4 4 == 0 || 65536 < o.opndLe 4 4 || o.len < 32 * o.opndLe 4 4
  | 0x0C => o.len < attestLen s
  | 0x0D => !fuseOpndOk o
  | 0x0E => 7 < o.opnd 0
  | 0x0F => o.opnd 0 != s.fus.lcy + 1 || (o.opnd 0 == 3 && o.len < 128)
  | 0x10 => 2 < o.opnd 0 || (o.opnd 0 == 0 && o.len < 32) || (o.opnd 0 == 1 && o.len < 160)
  | 0x12 => 15 < o.opnd 0 || o.len < 32 * (axesOf (o.opnd 0)).length
  | 0x13 => 1 < o.opnd 2
  | _ => false

/-- Reserved bytes that are not 0 (R319): FLAGS but FORCE of FUSE_LOCK, bytes 4 to 7, 0x14 to 0x17, unused operand bytes. -/
def reservedBad (o : Outst) : Bool :=
  2 ≤ o.flags || (o.flags == 1 && o.op != 0x0E) || !zeroAt o.entry 4 4 || !zeroAt o.entry 0x14 4
    || !zeroAt o.entry (0x18 + opndUsed o.op) (40 - opndUsed o.op)

/-- The command acts on a unit or channel that the variant lacks (R8). -/
def unitAbsent (s : State) (o : Outst) : Bool := match o.op with
  | 0x12 => !hasSmuOf s.sys.variant
  | 0x0A => (BitVec.ofNat 96 (o.opndLe 0 12)).toNat / 2 ^ nChanOf s.sys.variant != 0
  | _ => false

/-- RESULT of a BAD_OPERAND: READ_PLAN and ATTEST give the length they need (R323, R392). -/
def badResult (s : State) (o : Outst) : Bytes :=
  if reservedBad o then [] else match o.op with
  | 4 => leBytes 4 ((s.plt.plan.bind (fun p => s.cfg.map (fun c => (planBytes c.nodes.length p).length))).getD 0)
  | 0x0C => leBytes 4 (attestLen s)
  | _ => []

/-- The tag belongs to an outstanding command fetched before this one on the same ring (R321). -/
def tagBusy (s : State) (o : Outst) : Bool :=
  (s.host.outst.takeWhile (fun x => !sameCmd o x)).any (fun x => x.ring == o.ring && x.tag == o.tag)

/-- The first refusal of R321 that applies, with its RESULT. -/
def refusal (s : State) (o : Outst) (buf : Bytes) : Option (Nat × Bytes) :=
  if tagBusy s o then some (0x0A, [])
  else if !opcodeKnown o.op then some (8, [])
  else match gateStatus s o.op with
    | some st => some (st, [])
    | none => match ownStatus s o buf with
      | some st => some (st, [])
      | none =>
        if reservedBad o || opndBad s o then some (9, badResult s o)
        else if unitAbsent s o then some (4, [])
        else if hedgeOp o.op && s.sys.hedgeStalled then some (7, [])
        else none

/-- The command that a row names: the outstanding one whose entry fits the row, if it is its turn. Hedge commands run one at a time in
fetch order; every other one has started at its fetch, and they end in any order (R322). -/
def cmdAt (s : State) (c : CmdRef) (p : Outst → Bool) : Option Outst :=
  let live := fun (o : Outst) => !o.ended && !o.waiting
  match s.host.outst.find? (fun o => live o && o.ring == c.ring && o.tag == c.tag && p o) with
  | none => none
  | some o =>
    if !hedgeOp o.op then some o
    else match s.host.outst.find? (fun x => live x && hedgeOp x.op) with
      | some x => if x == o then some o else none
      | none => none

/-- A command runs: refused, or with its effect. -/
def runCmd (s : State) (c : CmdRef) (p : Outst → Bool) (buf : Bytes) (body : State → Outst → State) : State := match cmdAt s c p with
  | none => s
  | some o => match refusal s o buf with
    | some (st, r) => endCmd s o st (0, 0) 0 r
    | none => body s o

/-- A command of an opcode runs. -/
def runOp (s : State) (c : CmdRef) (op : Nat) (body : State → Outst → State) : State := runCmd s c (fun o => o.op == op) [] body

/-- A command that writes into its buffer ends: DMA_ERROR while DMA is stopped (R321). -/
def endWithData (s : State) (o : Outst) (data result : Bytes) : State :=
  if !dmaOk s && !data.isEmpty then endWith s o 0x0B
  else endCmd (if data.isEmpty then s else post s (.buffer o.addr data)) o 0 (0, 0) data.length result

/-- NOP (R323). -/
def nopEffect (c : CmdRef) (s : State) : State := runOp s c 0 (fun t o => endWith t o 0)

/-- The bytes of a slot (R80). -/
def SlotCfg.bytes : SlotCfg → Bytes
  | .empty => []
  | .loaded b => b
  | .active b => b

/-- The slot is ACTIVE. -/
def SlotCfg.isActive : SlotCfg → Bool
  | .active _ => true
  | _ => false

/-- A configuration slot changes. -/
def setSlot (s : State) (i : Nat) (x : SlotCfg) : State := { s with nv := { s.nv with slots := s.nv.slots.set i x } }

/-- The first n bytes of a command's buffer cannot be read: DMA is stopped, or the read brought fewer bytes (R321). -/
def readFails (s : State) (buf : Bytes) (n : Nat) : Bool := 0 < n && (!dmaOk s || buf.length < n)

/-- DMA_ERROR: a request of a command that has failed sets HST_ERR.DMA; one that is not made while DMA is stopped does not (R321, R343). -/
def endDma (s : State) (o : Outst) (result : Bytes) : State :=
  endCmd (if dmaOk s then hstErr s 6 else s) o 0x0B (0, 0) 0 result

/-- A pass of LOAD_CFG cannot read the header, or after a good header the image (R80). -/
def passFails (s : State) (pass : Bytes) (len : Nat) : Bool :=
  128 ≤ len && (readFails s pass 128 || ((checkHeader pass len).isNone && readFails s pass (leAt pass 8 4)))

/-- LOAD_CFG: two passes over the buffer (R80). DMA_ERROR has no effect (R321). -/
def loadCfgBody (pass1 pass2 : Bytes) (s : State) (o : Outst) : State :=
  let i := o.opnd 0
  if (s.nv.slots.getD i .empty).isActive then endWith s o 0x10
  else if passFails s pass1 o.len then endDma s o []
  else match checkImage (checkEnv s) pass1 o.len with
    | .error j => endCmd s o j.code (j.cls, j.item) 0 []
    | .ok (_, b) =>
      if readFails s pass2 b.length then endDma s o []
      else if pass2.take b.length == b then endWith (setSlot s i (.loaded b)) o 0
      else endWith (setSlot s i .empty) o 0x11

/-- LOAD_CFG. -/
def loadCfgEffect (c : CmdRef) (pass1 pass2 : Bytes) (s : State) : State := runOp s c 1 (loadCfgBody pass1 pass2)

/-- The checks of VERIFY_CFG on slot i (R83). -/
def checkSlot (s : State) (i : Nat) : Except Rej Image :=
  let b := (s.nv.slots.getD i .empty).bytes
  (checkImage (checkEnv s) b b.length).map (fun x => x.1)

/-- VERIFY_CFG (R83). -/
def verifyCfgEffect (c : CmdRef) (s : State) : State := runOp s c 2 (fun t o => match checkSlot t (o.opnd 0) with
  | .error j => endCmd t o j.code (j.cls, j.item) 0 []
  | .ok _ => endWith t o 0)

/-- ACTIVATE_CFG's commit: the slot becomes ACTIVE and the acceptance record is discarded, unless it was ACTIVE already (R83). -/
def activateSlot (s : State) (i : Nat) : State :=
  if (s.nv.slots.getD i .empty).isActive then s
  else
    let slots := s.nv.slots.zipIdx.map (fun p => if p.2 == i then SlotCfg.active p.1.bytes else if p.1.isActive then .loaded p.1.bytes else p.1)
    { s with nv := { s.nv with slots := slots, accRec := none } }

/-- ACTIVATE_CFG (R83, R365): the sequence goes on from stage 3. -/
def activateCfgEffect (c : CmdRef) (s : State) : State := runOp s c 3 (fun t o => match checkSlot t (o.opnd 0) with
  | .error j => endCmd t o j.code (j.cls, j.item) 0 []
  | .ok img =>
    let t := endWith (activateSlot t (o.opnd 0)) o 0
    loadImage (beginTraining (beginTraining t .a) .b) img)

/-- READ_PLAN (R283, R323). -/
def readPlanEffect (c : CmdRef) (s : State) : State := runOp s c 4 (fun t o => match t.plt.plan, t.cfg with
  | some p, some img => let d := planBytes img.nodes.length p; endWithData t o d (leBytes 4 d.length)
  | _, _ => endWith t o 5)

/-- ACCEPT_PLAN (R286). -/
def acceptPlanBody (buf : Bytes) (s : State) (o : Outst) : State :=
  let b := buf.take 256
  if readFails s buf 256 then endDma s o []
  else if s.plt.state == 4 then endWith s o 0
  else match recordStatus s b with
    | 0 => acceptRecord (endWith s o 0) b
    | st => endWith s o st

/-- ACCEPT_PLAN. -/
def acceptPlanEffect (c : CmdRef) (buf : Bytes) (s : State) : State := runCmd s c (fun o => o.op == 5) buf (acceptPlanBody buf)

/-- Λ of R306 in nanoseconds: D × (3·T_Fmax + 40 µs + TN_max). -/
def spreadTime (s : State) (c : Image) : Nat :=
  let tf := c.nodes.foldl (fun m r => max m (r.tf * 10)) 0
  let tn := (controlTree c).foldl (fun m x => if x.1 == x.2.1 then m else max m (tnOf c x.1 x.2.1)) 0
  s.plt.diam * (3 * tf + 40 + tn) * 1000

/-- The announcement that a MODE_REQ makes (R306). -/
def originate (s : State) (c : Image) (target : Nat) : ModeAnn :=
  let lead := ((c.mode.map (fun m => m.lead)).getD 0) * 1000000
  let a := ptNow s + max lead (2 * spreadTime s c + 2 * c.domain.syncTol * 1000)
  ⟨s.mode.highest + 1, target, s.mode.applied, a / 1000000000, a % 1000000000, c.own⟩

/-- MODE_REQ (R306). -/
def modeReqBody (s : State) (o : Outst) : State := match s.cfg with
  | none => endWith s o 5
  | some c =>
    let target := o.opnd 0
    let okMode := c.mode.any (fun m => target < m.nmode && m.allow.getLsbD (8 * s.mode.applied + target))
    if !okMode then endWith s o 0x14
    else if !s.net.syncOk then endWith s o 0x15
    else if !s.mode.pending.isEmpty || !s.mode.arrived.isEmpty then endWith s o 0x16
    else
      let a := originate s c target
      let s := raiseMode { s with mode := { s.mode with pending := [⟨a, false⟩], highest := a.epoch } } 174 a
      endCmd s o 0 (0, 0) 0 (bytesOf a.epoch 2 ++ leBytes 6 a.sec ++ leBytes 4 a.ns)

/-- MODE_REQ. -/
def modeReqEffect (c : CmdRef) (s : State) : State := runOp s c 6 modeReqBody

/-- START: n_RUN is fixed as the next F(n) (R323, R372). -/
def startEffect (c : CmdRef) (s : State) : State := runOp s c 7 (fun t o =>
  endCmd { t with lan := { t.lan with startAt := some (nextFrameNo t) } } o 0 (0, 0) 0 (leBytes 8 (nextFrameNo t)))

/-- TO_HOLD: HOLD_ORDERED acts at the next C instant; in HOLD nothing happens (R131, R323). -/
def toHoldEffect (c : CmdRef) (s : State) : State := runOp s c 8 (fun t o =>
  let t := endWith t o 0
  if t.lan.inRun && t.lan.pendFault.isNone then { t with lan := { t.lan with pendFault := some 0x30 } } else t)

/-- READ_DIAG: the snapshot comes at the next C instant, or at once where no frame timer runs (R324). -/
def readDiagEffect (c : CmdRef) (s : State) : State := runOp s c 9 (fun t o =>
  if !t.lan.timerOn then endDiag t t.lan.frame.toNat o
  else { t with host := { t.host with outst := t.host.outst.map (fun x => if sameCmd o x then { x with waiting := true } else x) } })

/-- CLEAR_STD (R338). -/
def clearStdEffect (c : CmdRef) (s : State) : State := runOp s c 0x0A (fun t o =>
  let m := BitVec.ofNat 96 (o.opndLe 0 12)
  let clr := mask96 (fun ch => m.getLsbD ch && t.host.stdLatch.getLsbD ch && !stdCause t ch)
  endCmd { t with host := { t.host with clearReq := t.host.clearReq ||| clr } } o 0 (0, 0) 0 (bytesOf clr 12))

/-- READ_LOG: records of the range that are still in the log (R147, R323). -/
def readLogEffect (c : CmdRef) (s : State) : State := runOp s c 0x0B (fun t o =>
  let first := o.opndLe 0 4
  let n := o.opndLe 4 4
  let rs := t.nv.log.filter (fun r => (r.1 + 2 ^ 32 - first) % 2 ^ 32 < n)
  let d := rs.flatMap (fun r => r.2)
  endWithData t o d (leBytes 4 ((rs.head?.map (fun r => r.1)).getD first) ++ leBytes 4 rs.length))

/-- TUNNEL_CFG (R340). -/
def tunnelCfgEffect (c : CmdRef) (s : State) : State := runOp s c 0x11 (fun t o =>
  endWith { t with host := { t.host with tunEn := o.opnd 0 == 1 } } o 0)

/-- One record of SMU_READ (R325). -/
def smuRecord (s : State) (a : Nat) : Bytes :=
  let x := axisAt s a
  if (axisRec s a).isNone then BitVec.ofNat 8 a :: zeros 31
  else
    let c := x.causes.head?
    [BitVec.ofNat 8 a, 1, BitVec.ofNat 8 ((c.map (fun k => k.cause)).getD 0), BitVec.ofNat 8 ((c.map (fun k => (causePorts k).toNat)).getD 0)]
      ++ bytesOf (BitVec.ofNat 32 s.lan.frame.toNat) 4 ++ bytesOf (BitVec.ofInt 64 (count48 x.lat)) 8 ++ bytesOf (BitVec.ofInt 64 x.spd) 8
      ++ bytesOf x.xdev 4 ++ bytesOf x.fltCnt 4

/-- SMU_READ (R325). -/
def smuReadEffect (c : CmdRef) (s : State) : State := runOp s c 0x12 (fun t o =>
  let l := axesOf (o.opnd 0)
  endWithData t o (l.flatMap (smuRecord t)) (leBytes 4 l.length))

/-- BAD_OPCODE (R323). -/
def badOpcodeEffect (c : CmdRef) (s : State) : State := runCmd s c (fun o => !opcodeKnown o.op) [] (fun t o => endWith t o 8)

/-- The commit point of these commands is their fetch (R323, R327, R400). -/
def commitsAtFetch (o : Outst) : Bool :=
  o.op == 0 || o.op == 8 || o.op == 0x0A || o.op == 0x11 || o.op == 0x13 || (o.op == 0x10 && o.opnd 0 == 2) || !opcodeKnown o.op

/-- A LOAD_CFG whose turn it is may have begun its second pass: which pass an abort meets is free (R80, R327). -/
def abortedLoad (s : State) (x : Outst) : State :=
  if x.op == 1 && (cmdAt s ⟨x.ring, x.tag⟩ (fun o => o == x)).isSome && (refusal s x []).isNone && !(s.nv.slots.getD (x.opnd 0) .empty).isActive then
    let t := nextFree s
    if (Config.freeVal s.freeCnt).getLsbD 0 then setSlot t (x.opnd 0) .empty else t
  else s

/-- ABORT (R327). -/
def abortBody (s : State) (o : Outst) : State :=
  let ring := o.opnd 2
  let tag := BitVec.ofNat 16 (o.opndLe 0 2)
  let before := s.host.outst.takeWhile (fun x => !sameCmd o x)
  if ring == o.ring && tag == o.tag then endWith s o 2
  else match before.find? (fun x => x.ring == ring && x.tag == tag) with
    | some x =>
      if x.ended || commitsAtFetch x then endWith s o 2
      else endWith (endWith (abortedLoad s x) { x with waiting := false } 1) o 0
    | none => endCmd s o 3 (0, 0) 0 [if s.host.seen.contains (ring, tag) then 0 else 1]

/-- ABORT. -/
def abortEffect (c : CmdRef) (s : State) : State := runOp s c 0x13 abortBody

/-- NOP. -/
def execNop (c : CmdRef) (s : State) : Host.Outcome State Fault Refusal := finish s (nopEffect c s)
/-- LOAD_CFG. -/
def execLoadCfg (c : CmdRef) (p1 p2 : Bytes) (s : State) : Host.Outcome State Fault Refusal := finish s (loadCfgEffect c p1 p2 s)
/-- VERIFY_CFG. -/
def execVerifyCfg (c : CmdRef) (s : State) : Host.Outcome State Fault Refusal := finish s (verifyCfgEffect c s)
/-- ACTIVATE_CFG. -/
def execActivateCfg (c : CmdRef) (s : State) : Host.Outcome State Fault Refusal := finish s (activateCfgEffect c s)
/-- READ_PLAN. -/
def execReadPlan (c : CmdRef) (s : State) : Host.Outcome State Fault Refusal := finish s (readPlanEffect c s)
/-- ACCEPT_PLAN. -/
def execAcceptPlan (c : CmdRef) (buf : Bytes) (s : State) : Host.Outcome State Fault Refusal := finish s (acceptPlanEffect c buf s)
/-- MODE_REQ. -/
def execModeReq (c : CmdRef) (s : State) : Host.Outcome State Fault Refusal := finish s (modeReqEffect c s)
/-- START. -/
def execStart (c : CmdRef) (s : State) : Host.Outcome State Fault Refusal := finish s (startEffect c s)
/-- TO_HOLD. -/
def execToHold (c : CmdRef) (s : State) : Host.Outcome State Fault Refusal := finish s (toHoldEffect c s)
/-- READ_DIAG. -/
def execReadDiag (c : CmdRef) (s : State) : Host.Outcome State Fault Refusal := finish s (readDiagEffect c s)
/-- CLEAR_STD. -/
def execClearStd (c : CmdRef) (s : State) : Host.Outcome State Fault Refusal := finish s (clearStdEffect c s)
/-- READ_LOG. -/
def execReadLog (c : CmdRef) (s : State) : Host.Outcome State Fault Refusal := finish s (readLogEffect c s)
/-- TUNNEL_CFG. -/
def execTunnelCfg (c : CmdRef) (s : State) : Host.Outcome State Fault Refusal := finish s (tunnelCfgEffect c s)
/-- SMU_READ. -/
def execSmuRead (c : CmdRef) (s : State) : Host.Outcome State Fault Refusal := finish s (smuReadEffect c s)
/-- ABORT. -/
def execAbort (c : CmdRef) (s : State) : Host.Outcome State Fault Refusal := finish s (abortEffect c s)
/-- BAD_OPCODE. -/
def execBadOpcode (c : CmdRef) (s : State) : Host.Outcome State Fault Refusal := finish s (badOpcodeEffect c s)

end Sys2Proof.Machine
end

