-- ==== Sys2Proof/Machine/Agree.lean ====
section
/-! DEFINITION. Planting and agreement with the tree neighbours (R112, R274, R283 to R288), the rejoin start (R373), and stalled crossings (R18). -/
namespace Sys2Proof.Machine

/-- Change the record of a tree neighbour. -/
def modNbr (s : State) (node : Nat) (g : NbrSt → NbrSt) : State :=
  { s with plt := { s.plt with nbrs := s.plt.nbrs.map (fun n => if n.node == node then g n else n) } }

/-- The record of a tree neighbour. -/
def nbrOf (s : State) (node : Nat) : Option NbrSt := s.plt.nbrs.find? (fun n => n.node == node)

/-- The state in which CONTROL messages are judged: the own plan is computed and stands. -/
def judging (s : State) : Bool := s.plt.state == 2 || s.plt.state == 3 || s.plt.state == 4

/-- A JOIN fits the neighbour's TOPOLOGY record and the own configuration digest (R284). -/
def joinFits (s : State) (c : Image) (node : Nat) (m : Bytes) : Bool :=
  (nodeOf c node).any (fun r => beAt m 1 8 == r.serial.toNat && nbits (beAt m 9 4) 11 8 == r.variant)
    && slice m 0x10 24 == digestPart s.plt.cfgDig 0 24

/-- JOIN (R284). -/
def joinEffect (node : Nat) (m : Bytes) (s : State) : State := match s.cfg, nbrOf s node with
  | some c, some n =>
    if byteAt m 0 != 1 || !judging s then s
    else if !joinFits s c node m then (if s.plt.state == 2 then planFailed s ⟨1, 0, 0, some node⟩ else s)
    else
      let s := modNbr s node (fun n => { n with joined := true })
      tryAgree (if n.joined then s else raise s 164 0 node 0)
  | _, _ => s

/-- A half of the plan digest with LEVEL and status (R285); `hi` names bytes 24 to 47. -/
def digestEffect (hi : Bool) (node : Nat) (m : Bytes) (s : State) : State := match nbrOf s node with
  | none => s
  | some _ =>
    if byteAt m 0 != (if hi then 3 else 2) || !judging s then s
    else
      let same := slice m 1 24 == digestPart s.plt.planDig (if hi then 24 else 0) 24
      let lvl := if same then some (beAt m 25 2) else none
      let s := modNbr s node (fun n => { n with
        levelLo := if hi then n.levelLo else lvl, levelHi := if hi then lvl else n.levelHi,
        accepted := nbit (byteAt m 27) 0, run := nbit (byteAt m 27) 1 })
      if same then tryAgree s else planFailed s ⟨8, 0, 0, some node⟩

/-- The bytes of an acceptance record from its seven fragments (R275). -/
def joinFrags (l : List (Nat × Bytes)) : Option Bytes :=
  if (List.range 7).all (fun i => l.any (fun x => x.1 == i)) then
    some (((List.range 7).flatMap (fun i => ((l.find? (fun x => x.1 == i)).map (fun x => x.2)).getD [])).take 256)
  else none

/-- ACCEPT: a fragment of the record that a neighbour holds; the whole record is checked as ACCEPT_PLAN checks it (R275, R286). -/
def acceptEffect (node : Nat) (m : Bytes) (s : State) : State := match nbrOf s node with
  | none => s
  | some n =>
    let i := byteAt m 1
    if byteAt m 0 != 4 || 6 < i || !judging s then s
    else
      let frags := (i, slice m 2 40) :: n.frags.filter (fun x => x.1 != i)
      match joinFrags frags with
      | none => modNbr s node (fun n => { n with frags := frags })
      | some b =>
        if s.plt.state != 3 then modNbr s node (fun n => { n with frags := frags })
        else
          let s := modNbr s node (fun n => { n with frags := [] })
          if recordStatus s b == 0 then acceptRecord s b else s

/-- The own plan with its digests, and the tree as the PLT page shows it (R273, R274, R289). PATH is measured anew in JOIN (R284). -/
def takePlan (s : State) (c : Image) (p : Plan) (peak : Nat) : State :=
  let parent := match (controlTree c).find? (fun x => x.1 == c.own) with
    | some x => if x.2.1 == c.own then 0x7FF else x.2.1
    | none => 0x7FF
  { s with
    plt := { s.plt with
      state := 2, err := 0, level := 0, plan := some p, planDig := sha384 (planBytes c.nodes.length p), topoDig := topoDigest c,
      cfgDig := c.digest, diam := treeDiam c, parent := BitVec.ofNat 11 parent, peak := BitVec.ofNat 22 peak,
      nbrs := s.plt.nbrs.map (fun n => { n with paths := 0, pathMax := 0 }) } }

/-- The first function hosted here or with a cutting here whose K in the plan a half's own table does not give (R112). -/
def badK (s : State) (c : Image) (p : Plan) : Option Nat :=
  (p.fns.find? (fun x => match fnIndex c.fns x.fid with
    | none => false
    | some i =>
      let w := (c.fns.getD i emptyFn).nword
      (x.host == c.own || x.standby == some c.own) && !(kAgrees s .rh0 w x.k && kAgrees s .rh1 w x.k))).map (fun x => x.fid)

/-- PLAN_DONE: the plan is computed, both halves compute their K tables and compare them with its K values, and joining begins (R112, R283 to
R285). `kErrs` are bits that a fault turns over in a half's table: half, w, bits. -/
def planDoneEffect (timeUs : Nat) (kErrs : List (Half × Nat × W72)) (s : State) : State := match s.cfg with
  | none => s
  | some c =>
    if s.plt.state != 1 || s.sys.halt || s.sys.hedgeStalled then s
    else
      let s := { s with plt := { s.plt with time := BitVec.ofNat 32 timeUs } }
      match makePlan c with
      | .error e => planFailed s e
      | .ok (p, peak) =>
        let s := raise (takePlan s c p peak) 160 0 c.own 0
        let s := kErrs.foldl (fun t e => spoilK t e.1 e.2.1 e.2.2) (fillKTabs s)
        match badK s c p with
        | some fid => planFailed s ⟨7, 0, fid, none⟩
        | none => tryAgree s

/-- PLAN_JOIN: TJOIN has run out; the error is not final (R284, R288). -/
def planJoinEffect (s : State) : State :=
  if s.plt.state != 2 then s else raise { s with plt := { s.plt with err := 2 } } 163 2 (ownNodeNo s) 0

/-- REJOIN_START (R373). -/
def rejoinStartEffect (s : State) : State :=
  if s.plt.rejoin && s.plt.accepted && (startStatus s).isNone then { s with lan := { s.lan with startAt := some (nextFrameNo s) } } else s

/-- The Hedge's crossing stalls: in start-up the module stops, in HOLD (R18). -/
def hedgeStall (s : State) (tag : BitVec 32) : State :=
  let t := raise { s with sys := { s.sys with hedgeStalled := true } } 3 tag.toNat 0 0
  if 2 ≤ s.sys.running then enterPwr t 1 else t

/-- A KSL frame is lost in a lane's crossing to the network: the next one that the lane hands over on a connection that this node produces
(R18). -/
def netStall (s : State) (conn : BitVec 32) : State :=
  let mine := s.ksl.prod.any (fun p => p.conn.id == conn.toNat)
  raise { s with net := { s.net with stalls := if mine then s.net.stalls ++ [conn.toNat] else s.net.stalls } } 135 conn.toNat 0 0

/-- CROSSING_STALL (R18). -/
def crossingStallEffect (k : Crossing) (s : State) : State := match k with
  | .laneAB | .riddle | .laneBus _ => faultAtOnce s 24 0x24
  | .laneBl _ => faultAtOnce s 30 0x25
  | .laneNet _ conn => netStall s conn
  | .host _ a => raise (sysErr { s with sys := { s.sys with hostStalled := true } } 0) 2 a.toNat 0 0
  | .hedge tag => hedgeStall s tag
  | .cleared => { s with sys := { s.sys with hostStalled := false, hedgeStalled := false } }

/-- KSL_FRAME_RX. -/
def execKslFrameRx (c : Carrier) (f : Bytes) (s : State) : Host.Outcome State Fault Refusal := finish s (afterFrame s (kslFrameRxEffect c f s))
/-- TUNRX_ENTRY. -/
def execTunrxEntry (e : Bytes) (s : State) : Host.Outcome State Fault Refusal := finish s (afterFrame s (tunrxEntryEffect e s))
/-- JOIN. -/
def execJoin (node : Nat) (m : Bytes) (s : State) : Host.Outcome State Fault Refusal := finish s (joinEffect node m s)
/-- DIGEST_LO. -/
def execDigestLo (node : Nat) (m : Bytes) (s : State) : Host.Outcome State Fault Refusal := finish s (digestEffect false node m s)
/-- DIGEST_HI. -/
def execDigestHi (node : Nat) (m : Bytes) (s : State) : Host.Outcome State Fault Refusal := finish s (digestEffect true node m s)
/-- ACCEPT. -/
def execAccept (node : Nat) (m : Bytes) (s : State) : Host.Outcome State Fault Refusal := finish s (acceptEffect node m s)
/-- PLAN_DONE. -/
def execPlanDone (timeUs : Nat) (kErrs : List (Half × Nat × W72)) (s : State) : Host.Outcome State Fault Refusal :=
  finish s (planDoneEffect timeUs kErrs s)
/-- PLAN_JOIN. -/
def execPlanJoin (s : State) : Host.Outcome State Fault Refusal := finish s (planJoinEffect s)
/-- REJOIN_START. -/
def execRejoinStart (s : State) : Host.Outcome State Fault Refusal := finish s (rejoinStartEffect s)
/-- CROSSING_STALL. -/
def execCrossingStall (k : Crossing) (s : State) : Host.Outcome State Fault Refusal := finish s (crossingStallEffect k s)

end Sys2Proof.Machine
end

