-- ==== Sys2Proof/Machine/Debug.lean ====
section
/-! DEFINITION. Debug (R396 to R406, R409, R410): the TAP's instructions and DBG_AUTH. -/
namespace Sys2Proof.Machine

/-- ALERTN is to be driven (R438). -/
def alertOn (s : State) : Bool :=
  3 ≤ s.sys.step && (s.sys.halt || s.lan.fstate == 3 || anyMark s || s.fus.alarmOpen || s.plt.state == 5)

/-- WAKEN is to be driven (R438). -/
def wakeOn (s : State) : Bool := !dmaOk s && (heldSources s).any (fun i => s.sys.wakeMask.getLsbD (vectorOf s i))

/-- The module drives the WAKEN and the ALERTN pin low: as R438 says, or by the output cells while EXTEST drives them (R397, R398). -/
def wakenLow (s : State) : Bool := if s.lcy.driving then !s.lcy.cells.getLsbD 2 else wakeOn s
def alertnLow (s : State) : Bool := if s.lcy.driving then !s.lcy.cells.getLsbD 3 else alertOn s

/-- An instruction is scanned in, while the instruction register puts out what it captures (R396); only EXTEST drives the output cells. A data
register of one bit captures 0. -/
def loadIr (s : State) (code : Nat) : State :=
  { s with lcy := { s.lcy with ir := BitVec.ofNat 6 code, irOut := 1, dr := 0, driving := false } }

/-- BYPASS in place of an instruction that is not permitted (R397). -/
def refuseTap (s : State) : State :=
  let t := loadIr s 0x3F
  raiseFirst { t with lcy := { t.lcy with refused := true } } 252 0 0 0 0

/-- An instruction, if it is permitted. -/
def tapOp (s : State) (code : Nat) (permitted : Bool) (effect : State → State) : State :=
  if permitted then effect (loadIr s code) else refuseTap s

/-- The TAP offers the debug instructions here: not in STANDBY (R409, R410). -/
def debugOpen (s : State) : Bool := s.sys.pwr != 3 && s.lcy.dbg != .closed

/-- What the data register shows. -/
def shiftOut (s : State) (v : BitVec 72) : State := { s with lcy := { s.lcy with dr := v } }

/-- The identification code (R396). -/
def idcodeOf (s : State) : BitVec 32 := BitVec.ofNat 32 (s.sys.revMaj * 2 ^ 28 + 0x0972 * 2 ^ 12 + 0x059 * 2 + 1)

/-- TAP_RESET: no scan, and IDCODE with its register (R396). -/
def tapResetEffect (s : State) : State :=
  { s with lcy := { s.lcy with ir := 1, dr := (idcodeOf s).setWidth 72, driving := false } }

/-- IDCODE. -/
def idcodeEffect (s : State) : State := shiftOut (loadIr s 1) ((idcodeOf s).setWidth 72)

/-- Boundary-scan cells from TDI: RESETN, PERSTN, WAKEN, ALERTN, the 24 encoder inputs; without the SMU those capture 0 (R398). -/
def scanCells (s : State) (cells : BitVec 28) : BitVec 28 := if hasSmuOf s.sys.variant then cells else cells &&& 0xF

/-- What SAMPLE captures: the pins of the observe-only cells, and what the module gives WAKEN and ALERTN, low while it drives them (R398, R438). -/
def sampled28 (s : State) (pins : BitVec 28) : BitVec 28 :=
  let out := fun (x : BitVec 28) (i : Nat) (low : Bool) => if low then clearBit x i else setBit x i
  out (out (scanCells s pins) 2 (wakeOn s)) 3 (alertOn s)

/-- EXTEST drives the output cells (R398). -/
def extestEffect (cells : BitVec 28) (s : State) : State := tapOp s 0 (!s.fus.dbgpol.getLsbD 2 && !s.lan.inRun) (fun t =>
  shiftOut { t with lcy := { t.lcy with cells := scanCells t cells, driving := true } } ((scanCells t cells).setWidth 72))

/-- SAMPLE/PRELOAD observes the cells. -/
def samplePreloadEffect (cells : BitVec 28) (s : State) : State := tapOp s 2 (!s.fus.dbgpol.getLsbD 2) (fun t =>
  shiftOut { t with lcy := { t.lcy with cells := sampled28 t cells } } ((sampled28 t cells).setWidth 72))

/-- Code of the debug state (R399). -/
def dbgCode (s : State) : Nat := match s.lcy.dbg with
  | .closed => 0
  | .bench => 1
  | .auth => 2

/-- LCY_STATE (R411). -/
def lcyStateWord (s : State) : BitVec 32 :=
  BitVec.ofNat 32 (s.lcy.signer.toNat * 65536 + b2n s.lan.halted * 4096 + s.sys.pwr * 256 + dbgCode s * 16 + s.fus.lcy)

/-- DBG_STATUS. -/
def dbgStatusEffect (s : State) : State := tapOp s 0x10 (debugOpen s) (fun t => shiftOut t ((lcyStateWord t).setWidth 72))

/-- A word of state memory as the lane held it at the latest C instant (R397). -/
def memWord (s : State) (lane addr : Nat) : BitVec 72 :=
  let p := Config.memPlace addr
  match s.fns.find? (fun f => f.ctx == p.1) with
  | none => Config.memIdle addr
  | some f => (if lane == 0 then f.snapA else f.snapB).getD p.2 (Config.memIdle addr)

/-- DBG_MEM. -/
def dbgMemEffect (lane addr : Nat) (s : State) : State := tapOp s 0x11 (debugOpen s) (fun t => shiftOut t (memWord t lane addr))

/-- A target of DBG_FORCE: a field input of the variant, or a request slot (R403). -/
def forceTarget (s : State) (t : Nat) : Bool := t < nChanOf s.sys.variant || (256 ≤ t && t < 512)

/-- DBG_FORCE: from the next latch (R403). -/
def dbgForceEffect (enable : Bool) (value : BitVec 64) (target : Nat) (s : State) : State :=
  tapOp s 0x12 (s.sys.pwr != 3 && s.lcy.dbg == .bench) (fun t =>
    if !forceTarget t target then t
    else
      let rest := t.lcy.forcedNext.filter (fun x => x.1 != target)
      { t with lcy := { t.lcy with forcedNext := if enable then (target, value) :: rest else rest } })

/-- DBG_HALT: in BENCH at the next C instant, at once where no frames run; in AUTH a fault of both lanes (R404, R405). -/
def dbgHaltEffect (s : State) : State :=
  tapOp s 0x13 (debugOpen s) (fun t =>
    if t.lcy.dbg == .auth then bothLanes t
    else if t.lan.halted then t
    else if t.lan.timerOn then { t with lan := { t.lan with haltReq := true } }
    else raise { t with lan := { t.lan with halted := true }, lcy := { t.lcy with haltCnt := satAdd t.lcy.haltCnt 1 } } 250 0 0 0)

/-- DBG_RESUME: frames go on (R404). -/
def dbgResumeEffect (s : State) : State :=
  tapOp s 0x14 (s.sys.pwr != 3 && s.lcy.dbg == .bench) (fun t =>
    if !t.lan.halted then { t with lan := { t.lan with haltReq := false } }
    else
      let t := { t with lan := { t.lan with halted := false, haltReq := false, stepReq := false } }
      if t.lan.timerOn then raise t 251 0 0 0 else t)

/-- DBG_STEP: one frame up to its C instant (R404): one F instant and one C instant (DEDUCED, log 170). -/
def dbgStepEffect (s : State) : State :=
  tapOp s 0x15 (s.sys.pwr != 3 && s.lcy.dbg == .bench && s.lan.halted) (fun t =>
    if t.lan.timerOn then raise { t with lan := { t.lan with halted := false, stepReq := true } } 251 0 0 0 else t)

/-- BYPASS, and every code that is no instruction (R397). -/
def bypassEffect (_code : BitVec 6) (s : State) : State := shiftOut (loadIr s 0x3F) 0

/-- The debug state changes (R399, R412). -/
def enterDebug (s : State) (d : DbgState) : State :=
  if s.lcy.dbg == d then s
  else
    let t := { s with lcy := { s.lcy with dbg := d } }
    raise t 248 (dbgCode t) 0 0

/-- TLIM has run out (R406). -/
def sessionOver (s : State) : Bool := s.lcy.authEnd.toNat ≤ s.tb.toNat

/-- The AUTH session is over (R406). -/
def endSession (s : State) : State := match s.lcy.dbg with
  | .auth => enterDebug { s with lcy := { s.lcy with signer := 0xF, authEnd := 0 } } .closed
  | .bench =>
    if s.lcy.benchBelow then raise { s with lcy := { s.lcy with benchBelow := false, authEnd := 0 } } 248 1 0 0 else s
  | .closed => s

/-- A DBG_AUTH row fits its SUB, or a SUB that does not exist. -/
def authRow (sub : Nat) (o : Outst) : Bool := o.op == 0x10 && (o.opnd 0 == sub || 2 < o.opnd 0)

/-- CHALLENGE: 32 fresh bytes, valid for 60 s (R400). -/
def challengeBody (s : State) (o : Outst) : State :=
  if s.fus.lcy == 4 then endWith s o 0x28
  else if !dmaOk s then endWith s o 0x0B
  else
    let b := (List.range 32).map (fun i => Config.freeByte s.freeCnt i)
    let t := nextFree { s with lcy := { s.lcy with chal := some (b, s.tb + 6000000000) } }
    endWithData t o b []

/-- The challenge that is valid now. -/
def validChal (s : State) : Option Bytes := match s.lcy.chal with
  | some (b, t) => if s.tb.toNat < t.toNat then some b else none
  | none => none

/-- SIGNER 0xFF is accepted: in MANUFACTURE and RETURNED, and in COMMISSION while no owner slot is usable (R401). -/
def unsignedOk (s : State) : Bool :=
  s.fus.lcy == 0 || s.fus.lcy == 3 || (s.fus.lcy == 1 && !([2, 3, 4, 5].any (keyUsable s)))

/-- The debug record but for its challenge (R401). -/
def debugRecordOk (s : State) (b : Bytes) : Bool :=
  let target := byteAt b 4
  let signer := byteAt b 5
  let tlim := leAt b 6 2
  let signed := if signer == 0xFF then unsignedOk s && zeroAt b 0x40 96
    else signer < 4 && verifies s (2 + signer) (slice b 0x40 96) (sha384 (b.take 0x40))
  leAt b 0 4 == 0x41445853 && (if target == 1 then tlim == 0 else target == 2 && 1 ≤ tlim && tlim ≤ 1440)
    && beAt b 8 8 == s.fus.serial.toNat && byteAt b 0x10 == s.fus.lcy && zeroAt b 0x11 15 && signed

/-- A RESPONSE is refused (R402, R412). -/
def refuseResponse (s : State) (o : Outst) (status : Nat) : State :=
  endWith (raise { s with lcy := { s.lcy with authFail := satAdd s.lcy.authFail 1 } } 249 status 0 0) o status

/-- A RESPONSE refused with WRONG_STATE: an event, and no status of R402 for LCY_AUTH_FAIL to count (R400, R412). -/
def refuseState (s : State) (o : Outst) : State := endWith (raise s 249 5 0 0) o 5

/-- An accepted record takes effect (R401, R403, R406). -/
def openDebug (s : State) (b : Bytes) : State :=
  let signer : BitVec 4 := if byteAt b 5 == 0xFF then 0xF else BitVec.ofNat 4 (byteAt b 5)
  if byteAt b 4 == 1 then
    enterDebug { s with lcy := { s.lcy with signer := signer, benchBelow := s.lcy.dbg == .auth } } .bench
  else
    enterDebug { s with lcy := { s.lcy with signer := signer, authEnd := s.tb + BitVec.ofNat 64 (leAt b 6 2 * 6000000000) } } .auth

/-- RESPONSE: the challenge is spent whatever the outcome (R400 to R402). -/
def responseBody (buf : Bytes) (s : State) (o : Outst) : State :=
  let b := buf.take 160
  let target := byteAt b 4
  let chal := validChal s
  let s := { s with lcy := { s.lcy with chal := none } }
  if readFails s buf 160 then endDma s o []
  else
    if target == 1 && s.lan.inRun then refuseState s o
    else if s.fus.lcy == 4 || (target == 1 && s.fus.dbgpol.getLsbD 0) || (target == 2 && s.fus.dbgpol.getLsbD 1) then refuseResponse s o 0x28
    else if chal != some (slice b 0x20 32) then refuseResponse s o 0x29
    else if !debugRecordOk s b then refuseResponse s o 0x2A
    else if s.lcy.dbg == .bench then refuseState s o
    else openDebug (endWith s o 0) b

/-- RESPONSE: one that R321 refuses raises DBG_AUTH_FAIL as well, a SUB that does not exist none (R412; DEDUCED, log 101). -/
def responseEffect (c : CmdRef) (buf : Bytes) (s : State) : State :=
  let refused := (cmdAt s c (authRow 1)).bind (fun o => if o.opnd 0 == 1 then refusal s o buf else none)
  runCmd (match refused with
    | some x => raise s 249 x.1 0 0
    | none => s) c (authRow 1) buf (responseBody buf)

/-- CLOSE (R400, R406). -/
def closeBody (s : State) (o : Outst) : State :=
  if s.fus.lcy == 4 then endWith s o 0x28
  else
    let s := endWith s o 0
    if s.lcy.dbg == .auth then endSession s else s

/-- CHALLENGE. -/
def execChallenge (c : CmdRef) (s : State) : Host.Outcome State Fault Refusal := finish s (runCmd s c (authRow 0) [] challengeBody)
/-- RESPONSE. -/
def execResponse (c : CmdRef) (buf : Bytes) (s : State) : Host.Outcome State Fault Refusal :=
  finish s (responseEffect c buf s)
/-- CLOSE. -/
def execClose (c : CmdRef) (s : State) : Host.Outcome State Fault Refusal := finish s (runCmd s c (authRow 2) [] closeBody)
/-- TAP_RESET. -/
def execTapReset (s : State) : Host.Outcome State Fault Refusal := finishPowered s (tapResetEffect s)
/-- EXTEST. -/
def execExtest (cells : BitVec 28) (s : State) : Host.Outcome State Fault Refusal := finishPowered s (extestEffect cells s)
/-- IDCODE. -/
def execIdcode (s : State) : Host.Outcome State Fault Refusal := finishPowered s (idcodeEffect s)
/-- SAMPLE_PRELOAD. -/
def execSamplePreload (cells : BitVec 28) (s : State) : Host.Outcome State Fault Refusal := finishPowered s (samplePreloadEffect cells s)
/-- DBG_STATUS. -/
def execDbgStatus (s : State) : Host.Outcome State Fault Refusal := finishPowered s (dbgStatusEffect s)
/-- DBG_MEM. -/
def execDbgMem (lane addr : Nat) (s : State) : Host.Outcome State Fault Refusal := finishPowered s (dbgMemEffect lane addr s)
/-- DBG_FORCE. -/
def execDbgForce (e : Bool) (v : BitVec 64) (t : Nat) (s : State) : Host.Outcome State Fault Refusal := finishPowered s (dbgForceEffect e v t s)
/-- DBG_HALT. -/
def execDbgHalt (s : State) : Host.Outcome State Fault Refusal := finishPowered s (dbgHaltEffect s)
/-- DBG_RESUME. -/
def execDbgResume (s : State) : Host.Outcome State Fault Refusal := finishPowered s (dbgResumeEffect s)
/-- DBG_STEP. -/
def execDbgStep (s : State) : Host.Outcome State Fault Refusal := finishPowered s (dbgStepEffect s)
/-- BYPASS. -/
def execBypass (code : BitVec 6) (s : State) : Host.Outcome State Fault Refusal := finishPowered s (bypassEffect code s)
/-- AUTH_SESSION_END. -/
def execAuthSessionEnd (s : State) : Host.Outcome State Fault Refusal :=
  finish s (if sessionOver s then endSession s else s)
/-- CHALLENGE_EXPIRY. -/
def execChallengeExpiry (s : State) : Host.Outcome State Fault Refusal :=
  finish s (if (validChal s).isSome then s else { s with lcy := { s.lcy with chal := none } })

end Sys2Proof.Machine
end

