-- ==== Sys2Proof/Machine/FuseCmds.lean ====
section
/-! DEFINITION. ATTEST, FUSE_PROG, FUSE_LOCK and LCY_ADVANCE (R381 to R393). -/
namespace Sys2Proof.Machine

/-- A fuse or lifecycle command ends with its status and ITEM (R385). -/
def endFuse (s : State) (o : Outst) (status item : Nat) (result : Bytes) : State := endCmd s o status (0, item) 0 result

/-- A SCRAPPED module refuses every fuse and lifecycle command, once the refusals of R321 have passed (R393). -/
def unlessScrapped (body : State → Outst → State) (s : State) (o : Outst) : State :=
  if s.fus.lcy == 4 then endFuse s o 0x21 0 [] else body s o

/-- How the blowing went, as a status and ITEM (R383). -/
def BlowEnd.status : BlowEnd → Nat × Nat
  | .done => (0, 0)
  | .vdd w => (0x20, w)
  | .verify w => (0x23, w)

/-- The masks are blown; before the first bit nothing happens if VDD is low (R383, R385). `after` runs at the commit point, the start of the first
bit, with the number of bits blown. Only FUSE_PROG has a RESULT, that number (R320, R381). -/
def runBlow (s : State) (o : Outst) (masks : List (Nat × BitVec 32)) (vddStop : Option Nat) (badBits : List (Nat × Nat))
    (after : State → Nat → State) : State :=
  let s := { s with fus := { s.fus with vddProg := vddStop.isNone || s.fus.vddProg } }
  if vddStop == some 0 && masks.any (fun x => !(blowBits (fuseAt s x.1) x.2).isEmpty) then
    endFuse { s with fus := { s.fus with vddProg := false } } o 0x20 0 (leBytes 4 0)
  else
    let r := blowLoop badBits masks vddStop s 0
    let st := r.2.2.status
    let t := { r.1 with fus := { r.1.fus with vddProg := r.1.fus.vddProg && st.1 != 0x20 } }
    endPast (updateFus (after t r.2.1)) o st.1 (0, st.2) 0 (if o.op == 0x0D then leBytes 4 r.2.1 else [])

/-- The end of a FUSE_PROG: FUS_KEYS, and FUSE_PROGRAMMED if at least one bit was blown (R394, R395). -/
def progEvent (s : State) (n : Nat) : State := if n == 0 then showKeys s else raise (showKeys s) 243 0 0 0

/-- PROGRAM may write the word in this lifecycle with its region's lock clear (R382). Check words are written like the fixed part. -/
def programmable (s : State) (w : Nat) : Bool :=
  let r := regionOf w
  let fixed := (fixedWords r ++ (checkWord r).toList).contains w
  fixed && !lockSet s r && (match r with
    | 0 | 1 | 2 | 4 => s.fus.lcy == 0
    | 3 | 5 => s.fus.lcy ≤ 1
    | _ => false)

/-- The row fits the entry: its MODE, or a MODE that does not exist, which every row refuses (R381). -/
def fuseRow (mode : Nat) (o : Outst) : Bool := o.op == 0x0D && (o.opnd 4 == mode || 3 < o.opnd 4)

/-- FUSE_PROG PROGRAM. -/
def fuseProgramBody (buf : Bytes) (vddStop : Option Nat) (badBits : List (Nat × Nat)) (s : State) (o : Outst) : State :=
  let w := o.opndLe 0 2
  let n := o.opndLe 2 2
  let ws := (List.range n).map (fun i => BitVec.ofNat 32 (leAt buf (4 * i) 4))
  if readFails s buf (4 * n) then endDma s o (leBytes 4 0)
  else if (ws.zipIdx).any (fun x => fuseVal s (w + x.2) &&& ~~~x.1 != 0) then endFuse s o 9 0 (leBytes 4 0)
  else if !(List.range n).all (fun i => programmable s (w + i)) then endFuse s o 0x21 0 (leBytes 4 0)
  else runBlow s o (missingBits s w ws) vddStop badBits progEvent

/-- FUSE_PROG REPAIR: every bit of the range that reads 1 is blown again. DKEY and the spare region are never programmed (R382). -/
def fuseRepairBody (vddStop : Option Nat) (badBits : List (Nat × Nat)) (s : State) (o : Outst) : State :=
  let ws := (List.range (o.opndLe 2 2)).map (fun i => o.opndLe 0 2 + i)
  if ws.any (fun w => 216 ≤ w) then endFuse s o 0x21 0 (leBytes 4 0)
  else runBlow s o (ws.map (fun w => (w, fuseVal s w))) vddStop badBits progEvent

/-- The key slot whose first word this is. -/
def slotOfWord (w : Nat) : Nat := ([96, 108, 128, 140, 152, 164].findIdx? (fun x => x == w)).getD 0

/-- A public key is stored (R386). -/
def storeKey (s : State) (k : Nat) (key : Bytes) : State := { s with nv := { s.nv with keys := s.nv.keys.set k (some key) } }

/-- FUSE_PROG KEY: the hash goes into an empty slot, or the slot holds it already (R381, R382). -/
def fuseKeyBody (buf : Bytes) (vddStop : Option Nat) (badBits : List (Nat × Nat)) (s : State) (o : Outst) : State :=
  let w := o.opndLe 0 2
  let k := slotOfWord w
  let key := buf.take 97
  let h := digestWords (sha384 key)
  let old := keyHash s k
  let partHash := (old.zip h).all (fun x => x.1 &&& ~~~x.2 == 0)
  let allowed := !lockSet s (if k < 2 then 2 else 3) && (if k < 2 then s.fus.lcy == 0 else s.fus.lcy ≤ 1)
  if readFails s buf 97 then endDma s o (leBytes 4 0)
  else if byteAt key 0 != 4 then endFuse s o 9 0 (leBytes 4 0)
  else if old == h then endFuse (showKeys (updateFus (storeKey s k key))) o 0 0 (leBytes 4 0)
  else if !allowed || !partHash then endFuse s o 0x21 0 (leBytes 4 0)
  else runBlow s o (missingBits s w h) vddStop badBits (fun t n => progEvent (storeKey t k key) n)

/-- FUSE_PROG MARKER: a key slot is revoked (R388, R389). -/
def fuseMarkerBody (buf : Bytes) (vddStop : Option Nat) (badBits : List (Nat × Nat)) (s : State) (o : Outst) : State :=
  let w := o.opndLe 0 2
  let k := if w < 128 then w - 121 else 2 + (w - 177)
  if readFails s buf 128 then endDma s o (leBytes 4 0)
  else if !authOk s buf (if k < 2 then 1 else 2) (if k < 2 then k else k - 2) then endFuse s o 0x24 0 (leBytes 4 0)
  else if (2 ≤ k && inUse s (k - 2)) || !otherUsable s k then endFuse s o 0x25 0 (leBytes 4 0)
  else
    let was := markerSet s w
    runBlow s o (missingBits s w [0xFFFFFFFF]) vddStop badBits (fun t n =>
      let t := progEvent t n
      if !was && markerSet t w then raise t 245 0 0 0 else t)

/-- The lifecycles in which the fixed part of region r is programmable (R382). -/
def lockableIn (r lcy : Nat) : Bool := match r with
  | 0 | 1 | 2 | 4 => lcy == 0
  | 3 | 5 => lcy ≤ 1
  | _ => false

/-- FUSE_LOCK (R384): the lock guard, or FORCE. -/
def fuseLockBody (vddStop : Option Nat) (badBits : List (Nat × Nat)) (s : State) (o : Outst) : State :=
  let r := o.opnd 0
  let force := o.flags == 1
  if lockSet s r then endFuse s o 0 0 []
  else if r == 6 || !(lockableIn r s.fus.lcy || (force && s.fus.lcy == 3)) then endFuse s o 0x21 0 []
  else if !force && regionState s r != 2 then endFuse s o 0x22 0 []
  else runBlow s o (missingBits s (202 + r) [0xFFFFFFFF]) vddStop badBits (fun t _ =>
    if lockSet t r then raise t 244 r (b2n force) 0 else t)

/-- The conditions of an advance to `target` (R393). -/
def advanceOk (s : State) (target : Nat) : Bool :=
  let sealed_ := fun (r : Nat) => regionState s r == 3
  match target with
  | 1 => [0, 1, 2, 4, 6].all sealed_ && (keyUsable s 0 || keyUsable s 1) && s.fus.idUsable && !(validCert s).isEmpty
  | 2 => sealed_ 3 && sealed_ 5 && [2, 3, 4, 5].any (keyUsable s)
  | 3 => true
  | _ => (List.range 8).all (fun r => regionState s r == 3 || regionState s r == 4)

/-- DEPLOYED → RETURNED at its commit point: slots, acceptance record and epochs are erased; HOLD without configuration, with no frames
and the frame parameters at their defaults, which ends a start-up that has not ended (R52, R370, R393). -/
def eraseForReturn (s : State) : State :=
  let s := clearPlan { s with nv := { s.nv with slots := [.empty, .empty], accRec := none, epochs := [] } }
  if s.sys.halt then s
  else
    let d := LanSt.reset
    endStartup (holdP1 { s with
      cfg := none, sys := { s.sys with noCfg := true },
      lan := { s.lan with timerOn := false, fstate := 0, tfUnits := d.tfUnits, woUs := d.woUs, swarn := d.swarn, smax := d.smax },
      rdl := { s.rdl with decoyInt := RdlSt.reset.decoyInt } })

/-- LCY_ADVANCE (R393). -/
def lcyAdvanceBody (buf : Bytes) (vddStop : Option Nat) (badBits : List (Nat × Nat)) (s : State) (o : Outst) : State :=
  let target := o.opnd 0
  let w := 193 + target
  if target == 3 && readFails s buf 128 then endDma s o []
  else if !advanceOk s target then endFuse s o 0x27 0 []
  else if target == 3 && !authOk s buf 3 0 then endFuse s o 0x24 0 []
  else
    runBlow s o (missingBits s w [0xFFFFFFFF]) vddStop badBits (fun t n =>
      if n == 0 then t
      else
        let t := raise { t with fus := { t.fus with advanced := true } } 246 target 0 0
        if target == 3 then settleDiags (eraseForReturn t) else t)

/-- The report of ATTEST without its signature (R392). -/
def attestHead (s : State) (nonce : Bytes) : Bytes :=
  let dbg := match s.lcy.dbg with
    | .closed => 0
    | .bench => 1
    | .auth => 2
  let cfgDig := match s.nv.slots.find? (fun x => x.isActive) with
    | some x => digestBytes (sha384 (x.bytes.take (x.bytes.length - 128)))
    | none => zeros 48
  leBytes 4 0x54415853 ++ leBytes 2 1 ++ leBytes 2 (attestLen s) ++ beBytes 8 s.fus.serial.toNat ++ leBytes 4 (sysIdrev s) ++ leBytes 1 s.fus.lcy
    ++ leBytes 1 dbg ++ bytesOf s.fus.libEff 2
    ++ leBytes 4 (s.fus.regState.zipIdx.foldl (fun n x => n + x.1 * 16 ^ x.2) 0) ++ bytesOf s.fus.weakReg 1 ++ bytesOf s.fus.lock 1
    ++ leBytes 1 (s.fus.orev.toNat * 4 + s.fus.vrev.toNat) ++ leBytes 1 (b2n s.fus.alarmOpen) ++ cfgDig
    ++ (if s.plt.accepted then digestBytes s.plt.planDig else zeros 48) ++ nonce ++ bytesOf s.tb 8 ++ bytesOf s.nv.dseq 4 ++ zeros 4

/-- ATTEST (R392). -/
def attestBody (s : State) (o : Outst) : State :=
  if !s.fus.sensed || !s.fus.idUsable then endWith s o 0x26
  else
    let h := attestHead s (slice o.entry 0x18 32)
    let sig := ecdsaSign s.fus.devKey (Config.attestNonce s.freeCnt) (sha384 h)
    let cert := validCert s
    endWithData (nextFree s) o (h ++ sig ++ leBytes 2 cert.length ++ cert) (leBytes 4 (attestLen s))

/-- ATTEST. -/
def execAttest (c : CmdRef) (s : State) : Host.Outcome State Fault Refusal := finish s (runOp s c 0x0C attestBody)
/-- FUSE_PROG_PROGRAM. -/
def execFuseProgProgram (c : CmdRef) (buf : Bytes) (v : Option Nat) (bad : List (Nat × Nat)) (s : State) : Host.Outcome State Fault Refusal :=
  finish s (runCmd s c (fuseRow 0) buf (unlessScrapped (fuseProgramBody buf v bad)))
/-- FUSE_PROG_REPAIR. -/
def execFuseProgRepair (c : CmdRef) (v : Option Nat) (bad : List (Nat × Nat)) (s : State) : Host.Outcome State Fault Refusal :=
  finish s (runCmd s c (fuseRow 1) [] (unlessScrapped (fuseRepairBody v bad)))
/-- FUSE_PROG_KEY. -/
def execFuseProgKey (c : CmdRef) (buf : Bytes) (v : Option Nat) (bad : List (Nat × Nat)) (s : State) : Host.Outcome State Fault Refusal :=
  finish s (runCmd s c (fuseRow 2) buf (unlessScrapped (fuseKeyBody buf v bad)))
/-- FUSE_PROG_MARKER. -/
def execFuseProgMarker (c : CmdRef) (buf : Bytes) (v : Option Nat) (bad : List (Nat × Nat)) (s : State) : Host.Outcome State Fault Refusal :=
  finish s (runCmd s c (fuseRow 3) buf (unlessScrapped (fuseMarkerBody buf v bad)))
/-- FUSE_LOCK. -/
def execFuseLock (c : CmdRef) (v : Option Nat) (bad : List (Nat × Nat)) (s : State) : Host.Outcome State Fault Refusal :=
  finish s (runOp s c 0x0E (unlessScrapped (fuseLockBody v bad)))
/-- LCY_ADVANCE. -/
def execLcyAdvance (c : CmdRef) (buf : Bytes) (v : Option Nat) (bad : List (Nat × Nat)) (s : State) : Host.Outcome State Fault Refusal :=
  finish s (runCmd s c (fun o => o.op == 0x0F) buf (unlessScrapped (lcyAdvanceBody buf v bad)))

end Sys2Proof.Machine
end

