-- ==== Sys2Proof/Machine/Ttu.lean ====
section
/-! DEFINITION. Time base, general timers and compare channels (chapter 15), with the tick that an empty queue lets pass. -/
namespace Sys2Proof.Machine

/-- Timer g. -/
def gtAt (s : State) (g : Nat) : GtSt := s.ttu.gts.getD g GtSt.reset
/-- Channel c. -/
def ccAt (s : State) (c : Nat) : CcSt := s.ttu.ccs.getD c CcSt.reset

/-- Fields of GTg_CFG (R360). -/
def GtSt.mode (g : GtSt) : Nat := (g.cfg >>> 30).toNat
def GtSt.src (g : GtSt) : Nat := nbits g.cfg.toNat 29 28
def GtSt.psc (g : GtSt) : Nat := nbits g.cfg.toNat 27 24
def GtSt.csrc (g : GtSt) : Nat := nbits g.cfg.toNat 23 20
def GtSt.msrc (g : GtSt) : Nat := nbits g.cfg.toNat 19 16
def GtSt.smode (g : GtSt) : Nat := nbits g.cfg.toNat 15 14
def GtSt.topev (g : GtSt) : Bool := g.cfg.getLsbD 13
/-- Fields of CCc_CFG. -/
def CcSt.tgt (c : CcSt) : Nat := (c.cfg >>> 27).toNat
def CcSt.oneshot (c : CcSt) : Bool := c.cfg.getLsbD 26
def CcSt.lateFire (c : CcSt) : Bool := c.cfg.getLsbD 25

/-- Timers 2m and 2m+1 are linked (R353). -/
def linked (s : State) (g : Nat) : Bool := s.ttu.link.getLsbD (g / 2)
/-- The timer is the high half of a linked pair. -/
def highHalf (s : State) (g : Nat) : Bool := linked s g && g % 2 == 1
/-- The timer is frozen now (R357). -/
def frozen (s : State) (g : Nat) : Bool := s.ttu.freeze.getLsbD (if highHalf s g then g - 1 else g) && s.lan.halted

/-- Count of a timer, of 64 bits for the low half of a linked pair (R353). -/
def gtCount (s : State) (g : Nat) : BitVec 64 :=
  if linked s g && g % 2 == 0 then (gtAt s (g + 1)).cnt ++ (gtAt s g).cnt else (gtAt s g).cnt.setWidth 64

/-- Set a timer's count in the width it has. -/
def setCount (s : State) (g : Nat) (v : BitVec 64) : State :=
  let gts := modAt s.ttu.gts g (fun x => { x with cnt := v.setWidth 32 })
  let gts := if linked s g && g % 2 == 0 then modAt gts (g + 1) (fun x => { x with cnt := (v >>> 32).setWidth 32 }) else gts
  { s with ttu := { s.ttu with gts := gts } }

/-- BUF in the width of the timer. -/
def gtBuf (s : State) (g : Nat) : BitVec 64 :=
  if linked s g && g % 2 == 0 then (gtAt s (g + 1)).buf ++ (gtAt s g).buf else (gtAt s g).buf.setWidth 64

/-- Change timer g. -/
def modGt (s : State) (g : Nat) (f : GtSt → GtSt) : State := { s with ttu := { s.ttu with gts := modAt s.ttu.gts g f } }

/-- A timer starts from its initial count: R352; also a restart by its master (R351). A start that waited is done with it. -/
def startTimer (s : State) (g : Nat) : State :=
  let t := gtAt s g
  if t.mode == 1 then
    modGt (setCount s g 0) g (fun x => { x with out := false, down := false, presc := 0, started := true, top := x.buf, due := false })
  else modGt (setCount s g (gtBuf s g)) g (fun x => { x with out := false, down := true, presc := 0, started := true, due := false })

/-- A timer's event (R348, R359). -/
def gtFire (s : State) (g : Nat) : State :=
  raise (modGt s g (fun x => { x with ev := true })) (192 + g) (gtAt s g).cnt.toNat 0 0

/-- One count tick of timer g (R348, R349). -/
def countTick (s : State) (g : Nat) : State :=
  let t := gtAt s g
  if t.mode == 1 then
    let top := if t.cnt == 0 && !t.down && t.top == 0 then t.buf else t.top
    if top == 0 then modGt s g (fun x => { x with top := 0, out := false })
    else if !t.down then
      let c := t.cnt + 1
      let s := modGt s g (fun x => { x with cnt := c, top := top, down := c == top, out := c != top })
      if c == top && t.topev then gtFire s g else s
    else
      let c := t.cnt - 1
      if c == 0 then gtFire (modGt s g (fun x => { x with cnt := 0, top := x.buf, down := false, out := x.buf != 0 })) g
      else modGt s g (fun x => { x with cnt := c })
  else if gtCount s g == 0 then gtFire (modGt (setCount s g (gtBuf s g)) g (fun x => { x with out := !x.out })) g
  else setCount s g (gtCount s g - 1)

/-- One bus tick of timer g; masters' events and levels are those of the tick before (R350, R351). -/
def timerTick (old : State) (s : State) (g : Nat) : State :=
  let t := gtAt old g
  let live := s.ttu.en.getLsbD g && !highHalf s g && !frozen s g
  if !live then s
  else if t.due then startTimer s g
  else if t.smode == 2 && (gtAt old t.msrc).ev then startTimer s g
  else
    let n := t.presc + 1
    let wrap := n % 2 ^ t.psc == 0
    let s := modGt s g (fun x => { x with presc := if wrap then 0 else n })
    let tick := match t.src with
      | 0 => wrap
      | 1 => s.tb.toNat % 2 ^ t.psc == 0
      | _ => (gtAt old t.csrc).ev
    if tick && !(t.smode == 1 && !(gtAt old t.msrc).out) then countTick s g else s

/-- Value of a channel's target (R355): a timer's count, or TB. -/
def ccTarget (s : State) (c : CcSt) : BitVec 64 := if c.tgt == 16 then s.tb else gtCount s c.tgt

/-- CCc_STATUS (R360). -/
def ccStatus (c : CcSt) : Nat := b2n c.fired + 2 * b2n c.past + 4 * b2n c.late + 8 * b2n c.armed

/-- A channel fires (R356, R359). -/
def ccDoFire (s : State) (i : Nat) : State :=
  let ccs := modAt s.ttu.ccs i (fun c => { c with fired := true, armed := !c.oneshot })
  let s := { s with ttu := { s.ttu with ccs := ccs } }
  raise s (208 + i) ((ccTarget s (ccAt s i)).toNat % 2 ^ 32) (ccStatus (ccAt s i)) 0

/-- May channel i fire on a transition of its target (R356)? A TB target reaches each value once. -/
def ccReady (s : State) (i : Nat) : Bool :=
  let c := ccAt s i
  s.ttu.ccEn.getLsbD i && c.armed && !(c.tgt == 16 && (c.past || c.fired))

/-- Channels whose target has made a transition into V since the state before (R356). -/
def ccScan (old s : State) : State :=
  (List.range 32).foldl (fun t i =>
    let c := ccAt t i
    if ccReady t i && ccTarget old c != ccTarget s c && ccTarget s c == c.v then ccDoFire t i else t) s

/-- One bus tick of 10 ns: TB, lane B's clock, the timers and the compare channels. -/
def busTick (s : State) : State :=
  if !awake s then s
  else
    let old := s
    let clear := s.ttu.gts.map (fun x => { x with ev := false })
    let s := { s with tb := s.tb + 1, clkB := s.clkB + 1, ttu := { s.ttu with gts := clear } }
    let s := (List.range 16).foldl (fun t g => timerTick old t g) s
    flush (ccScan old s)

/-- A TTU_ERR bit is set (R358). -/
def ttuErr (s : State) (bit : Nat) : State := { s with ttu := { s.ttu with err := setBit s.ttu.err bit } }

/-- A timer's bit in TTU_EN is set: it starts, or, while it is frozen and holds its count, starts when the freeze ends (R352, R357; log 159). -/
def enableTimer (s : State) (g : Nat) : State := if frozen s g then modGt s g (fun x => { x with due := true }) else startTimer s g

/-- TIMER_ENABLE: a write to TTU_EN (R352, R358). A start that waits goes with its bit. -/
def timerEnableEffect (v : BitVec 32) (s : State) : State :=
  if s.lan.inRun then ttuErr s 4
  else
    let new : BitVec 16 := v.setWidth 16
    let rising := idxs 16 (fun g => new.getLsbD g && !s.ttu.en.getLsbD g && !highHalf s g)
    let gts := (List.range 16).foldl (fun l g => if new.getLsbD g then l else modAt l g (fun x => { x with due := false })) s.ttu.gts
    let t := { s with ttu := { s.ttu with en := new, gts := gts } }
    ccScan s (rising.foldl enableTimer t)

/-- TIMER_LINK: a write to TTU_LINK (R353, R358). -/
def timerLinkEffect (v : BitVec 32) (s : State) : State :=
  let new : BitVec 8 := v.setWidth 8
  let changed := fun m => new.getLsbD m != s.ttu.link.getLsbD m
  let pairs := List.range 8
  if s.lan.inRun then ttuErr s 4
  else if pairs.any (fun m => new.getLsbD m && changed m && (gtAt s (2 * m)).mode == 1) then ttuErr s 0
  else if pairs.any (fun m => new.getLsbD m && changed m
      && (List.range 32).any (fun c => s.ttu.ccEn.getLsbD c && (ccAt s c).tgt == 2 * m + 1)) then ttuErr s 2
  else if pairs.any (fun m => changed m && (s.ttu.en.getLsbD (2 * m) || (s.ttu.en.getLsbD (2 * m + 1) && !s.ttu.link.getLsbD m)))
    then ttuErr s 3
  else
    let gts := pairs.foldl (fun l m => if changed m then modAt l (2 * m + 1) (fun x => { x with staged := x.buf }) else l) s.ttu.gts
    { s with ttu := { s.ttu with link := new, gts := gts } }

/-- A write to GTg_CFG (R358, R360). -/
def gtCfgWrite (g : Nat) (v : BitVec 32) (s : State) : State :=
  let x := { GtSt.reset with cfg := v &&& 0xFFFFE000 }
  if s.lan.inRun then ttuErr s 4
  else if 2 ≤ x.mode || x.src == 3 || x.smode == 3 || (linked s g && g % 2 == 0 && x.mode == 1) then ttuErr s 0
  else if (x.src == 2 && x.csrc == g) || (x.smode != 0 && x.msrc == g) then ttuErr s 1
  else if s.ttu.en.getLsbD g && !highHalf s g then ttuErr s 3
  else modGt s g (fun t => { t with cfg := x.cfg })

/-- A write to GTg_BUF (R349, R353). -/
def gtBufWrite (g : Nat) (v : BitVec 32) (s : State) : State :=
  if s.lan.inRun then ttuErr s 4
  else if highHalf s g then modGt s g (fun t => { t with staged := v })
  else
    let s := modGt s g (fun t => { t with buf := v })
    if linked s g then modGt s (g + 1) (fun t => { t with buf := t.staged }) else s

/-- A write to CCc_CFG (R355, R358). -/
def ccCfgWrite (c : Nat) (v : BitVec 32) (s : State) : State :=
  let t := (v >>> 27).toNat
  if s.lan.inRun then ttuErr s 4
  else if 17 ≤ t then ttuErr s 0
  else if t < 16 && highHalf s t then ttuErr s 2
  else { s with ttu := { s.ttu with ccs := modAt s.ttu.ccs c (fun x => { x with cfg := v &&& 0xFE000000 }) } }

/-- The target counts down at this instant (R355). -/
def targetDown (s : State) (g : Nat) : Bool := let t := gtAt s g; if t.started then t.down else t.mode == 0

/-- CMP_LO_WRITE: a write to CCc_CMP_LO arms the channel (R355, R356). -/
def cmpLoWriteEffect (i : Nat) (v : BitVec 32) (s : State) : State :=
  if s.lan.inRun then ttuErr s 4
  else
    let c := ccAt s i
    let wide := c.tgt == 16 || linked s c.tgt
    let val : BitVec 64 := if wide then c.hi ++ v else v.setWidth 64
    let x := ccTarget s c
    let past := if c.tgt == 16 then val ≤ x else if targetDown s c.tgt then x < val else val < x
    let late := past && c.lateFire && s.ttu.ccEn.getLsbD i
    let ccs := modAt s.ttu.ccs i (fun c => { c with lo := v, v := val, armed := true, late := late, past := past, fired := false })
    let s := { s with ttu := { s.ttu with ccs := ccs } }
    if late then raise s (208 + i) (x.toNat % 2 ^ 32) (ccStatus (ccAt s i)) 0 else s

/-- GT_EVENT: the bus tick in which timer g reaches its event, by its source, its master and its freeze (R348 to R351, R357). A tick that brings
it no event is no GT_EVENT (log 1). -/
def gtEventEffect (g : Nat) (s : State) : State :=
  let t := busTick s
  if (gtAt t g).ev then t else s

/-- Does the target of an armed and enabled channel make a transition into V from s to t (R356)? -/
def ccReaches (s t : State) (i : Nat) : Bool :=
  ccReady s i && ccTarget s (ccAt s i) != ccTarget t (ccAt s i) && ccTarget t (ccAt s i) == (ccAt s i).v

/-- CC_FIRE: the bus tick in which the channel's target makes its transition into V (R356). A tick without it is no CC_FIRE (log 1). -/
def ccFireEffect (i : Nat) (s : State) : State :=
  let t := busTick s
  if ccReaches s t i then t else s

/-- TIMER_ENABLE. -/
def execTimerEnable (v : BitVec 32) (s : State) : Host.Outcome State Fault Refusal := finishBus s 0x300C (timerEnableEffect v s)
/-- TIMER_LINK. -/
def execTimerLink (v : BitVec 32) (s : State) : Host.Outcome State Fault Refusal := finishBus s 0x3014 (timerLinkEffect v s)
/-- CMP_LO_WRITE. -/
def execCmpLoWrite (c : Nat) (v : BitVec 32) (s : State) : Host.Outcome State Fault Refusal := finishBus s (0x3204 + 16 * c) (cmpLoWriteEffect c v s)
/-- GT_EVENT. -/
def execGtEvent (g : Nat) (s : State) : Host.Outcome State Fault Refusal := finish s (gtEventEffect g s)
/-- CC_FIRE. -/
def execCcFire (c : Nat) (s : State) : Host.Outcome State Fault Refusal := finish s (ccFireEffect c s)

end Sys2Proof.Machine
end

