-- ==== Sys2Proof/Machine/Net.lean ====
section
/-! DEFINITION. The network island (R257 to R268): links, the switch with its egress queues, ARP, PRP, and the PTP messages. The servo's
measurement follows IEEE 1588-2019 outside the spec's rules: a message's command carries what it concludes (log 80). -/
namespace Sys2Proof.Machine

/-- A PTP message leaves by a port, priority-tagged (R258, R265). -/
def sendPtp (s : State) (p kind : Nat) : State := match ownAddr s with
  | none => s
  | some a => enqueue s p 7 (.ptp topTag kind (clockIdentity a.mac) ((s.cfg.map (fun c => c.domain.ptpDomain)).getD 0)
      (if kind == 11 then some ⟨128, 248⟩ else none))

/-- An Announce of another clock is kept: the last two of each, of ten clocks (R265). -/
def noteAnnounce (s : State) (m : PtpMsg) : State := match m.ann with
  | none => s
  | some d =>
    let same := fun (x : Foreign) => x.port == m.port && x.src == m.src && x.srcPort == m.srcPort
    let seen := ((s.net.foreign.find? same).map (fun x => x.seen)).getD []
    let l := ⟨m.port, m.src, m.srcPort, d, (s.tb :: seen).take 2⟩ :: s.net.foreign.filter (fun x => !same x)
    { s with net := { s.net with foreign := l.take 10 } }

/-- The message comes from the master that the port follows. -/
def fromMaster (s : State) (m : PtpMsg) : Bool := s.net.parent == some (m.port, m.src, m.srcPort)

/-- A new offset measurement from the master: the servo follows it (R263), and it is judged against the tolerance (R266, R268, R269). With it the
port is SLAVE. -/
def noteOffset (s : State) (m : PtpMsg) : State := match m.offset with
  | none => s
  | some v =>
    let ok := decide (v.natAbs ≤ syncTolNs s)
    let s := servo s v m.rate
    let s := { s with net := { s.net with offset := BitVec.ofInt 32 v, mpd := BitVec.ofNat 32 m.mpd, offs := (ok :: s.net.offs).take 8 } }
    let s := { s with net := if m.port == 0 then { s.net with ptp0 := 9 } else { s.net with ptp1 := 9 } }
    if s.net.syncOk && syncTolNs s < 2 * v.natAbs then raise s 156 m.port (BitVec.ofInt 32 v).toNat 0 else s

/-- A message that the clock takes in: of its domain and of another clock (R264, R265). -/
def ptpForUs (s : State) (m : PtpMsg) : Bool :=
  carriesPtp s m.port && m.domain == ((s.cfg.map (fun c => c.domain.ptpDomain)).getD 0) && (ownAddr s).all (fun a => clockIdentity a.mac != m.src)

/-- What a message's source and kind bring: an Announce to the best master decision, a Sync and the measurements of the master followed to the
servo (R263, R265, R266). -/
def takePtp (s : State) (m : PtpMsg) : State :=
  let s := decideMaster (if m.kind == 11 then noteAnnounce s m else s)
  if !fromMaster s m then s
  else noteOffset (if m.kind == 0 then { s with net := { s.net with lastSync := s.tb, syncSeen := true } } else s) m

/-- PTP_MESSAGE_RX (R265, R266). A Delay_Req at a MASTER port is answered. -/
def ptpMessageRxEffect (m : PtpMsg) (s : State) : State :=
  if !hasPort s m.port then s
  else
    let s := countRx s m.port
    if !ptpForUs s m then s
    else
      let s := takePtp s m
      judgeSync (if m.kind == 1 && portState s m.port == 6 then sendPtp s m.port 9 else s)

/-- SYNC_INTERVAL: the messages of every port by its state: Sync and Follow_Up of a master, Announce at every fourth, Delay_Req of a slave
(R264, R265). -/
def syncIntervalEffect (s : State) : State :=
  if (ownAddr s).isNone then s
  else
    let s := decideMaster s
    let k := s.net.ticks + 1
    let kinds := fun (p : Nat) => match portState s p with
      | 6 => if k % 4 == 0 then [0, 8, 11] else [0, 8]
      | 9 => [1]
      | _ => []
    let s := { s with net := { s.net with ticks := k } }
    judgeSync ((idxs 2 (carriesKsl s)).foldl (fun t p => (kinds p).foldl (fun t x => sendPtp t p x) t) s)

/-- SYNC_LOST: no Sync for 4 sync intervals (R266). -/
def syncLostEffect (s : State) : State := if s.net.gm then s else judgeSync { s with net := { s.net with syncSeen := false } }

/-- LINK_CHANGE (R257, R259, R266, R268, R284). Without PMODE 1 or 2, P1 is held down. -/
def linkChangeEffect (p : Nat) (up : Bool) (speed : Nat) (s : State) : State :=
  if !hasPort s p then s
  else
    let now := if !up || (p == 1 && pmodeOf s == 0) then 0 else min 3 (max 1 speed)
    let was := portSpeed s p
    let v := BitVec.ofNat 2 now
    let s := { s with net := if p == 0 then { s.net with speed0 := v } else { s.net with speed1 := v } }
    let s := if was == 0 && now != 0 then raise s (144 + 2 * p) p 0 0 else if was != 0 && now == 0 then raise s (145 + 2 * p) p 0 0 else s
    let s := if now == 1 && was != 1 then raise s 157 p 0 0 else s
    tryAgree (judgeSync (decideMaster s))

/-- PRP_LAN_SILENT (R260). -/
def prpLanSilentEffect (lan : Nat) (s : State) : State :=
  if pmodeOf s == 2 then raise s (if lan == 0 then 148 else 149) (if lan == 0 then 0 else 1) 0 0 else s

/-- PRP_SUPERVISION: every 2 s in PMODE 2, on both ports (R260). -/
def prpSupervisionEffect (s : State) : State := match ownAddr s with
  | none => s
  | some a => if a.pmode == 2 then [0, 1].foldl (fun t p => enqueue t p 0 (.supervision a.mac)) s else s

/-- ARP_REQUEST (R261, R262). -/
def arpRequestEffect (p : Nat) (targetIp : BitVec 32) (senderMac : BitVec 48) (senderIp : BitVec 32) (s : State) : State :=
  if !hasPort s p then s
  else
    let s := countRx s p
    match ownAddr s with
    | none => dropNet s
    | some a =>
      if fromOwn a senderMac senderIp then addrConflict s p
      else if a.ipv4 != 0 && targetIp == a.ipv4 then enqueue s p 0 (.arp senderMac senderIp)
      else s

/-- A frame with an FCS or length error is discarded and counted (R257, R268, R269). -/
def errorFrame (s : State) (p : Nat) : State := raiseFirst { s with net := { s.net with errCnt := satAdd s.net.errCnt 1 } } 152 0 p 0 0

/-- NET_FRAME_DROP (R257, R260 to R262, R268, R269). -/
def netFrameDropEffect (p : Nat) (why : NetDrop) (s : State) : State :=
  if !hasPort s p then s
  else match why with
    | .notForUs => dropNet (countRx s p)
    | .overflow => raise (dropNet (countRx s p)) 151 p 0 0
    | .badFrame => errorFrame s p
    | .ownAddress => addrConflict (countRx s p) p
    | .prpDuplicate => countRx s p

/-- The EtherType of a frame. -/
def etherType (f : EthFrame) : Nat := beAt f.body 0 2

/-- Length of a frame on the wire, with its addresses, tag and FCS. -/
def wireSize (f : EthFrame) : Nat := 12 + (if f.tag.isSome then 4 else 0) + f.body.length + 4

/-- The IPv4 source address that a frame names, in an IPv4 packet or in ARP. -/
def wireSrcIp (f : EthFrame) : BitVec 32 := match etherType f with
  | 0x0800 => BitVec.ofNat 32 (beAt f.body 14 4)
  | 0x0806 => BitVec.ofNat 32 (beAt f.body 16 4)
  | _ => 0

/-- A KSL datagram: UDP to the address and port of a node of the domain (R261). -/
def kslDatagram (c : Image) (f : EthFrame) : Bool :=
  let l4 := 2 + 4 * (byteAt f.body 2 % 16)
  etherType f == 0x0800 && byteAt f.body 11 == 17
    && c.addrs.any (fun a => a.ipv4 != 0 && a.ipv4.toNat == beAt f.body 18 4 && a.udp == beAt f.body (l4 + 2) 2)

/-- KSL or PTP traffic, which a port linked at 10 Mbit/s does not carry (R257). -/
def fastTraffic (c : Image) (f : EthFrame) : Bool := etherType f == 0x88B5 || etherType f == 0x88F7 || kslDatagram c f

/-- A frame that the port may send now: one that does not carry KSL and PTP sends neither (R257, R259). -/
def mayLeave (s : State) (p : Nat) : NetOut → Bool
  | .ksl _ _ _ _ _ _ _ => carriesKsl s p
  | .ptp _ _ _ _ _ => carriesKsl s p
  | .forward f => carriesKsl s p || !s.cfg.any (fun c => fastTraffic c f)
  | _ => true

/-- A linked port sends one frame: the oldest of its highest queue (R258). KSL and PTP frames that it has ceased to carry are gone (R257). -/
def servePort (s : State) (p : Nat) : State :=
  if portSpeed s p == 0 then s
  else match takeHighest ((if p == 0 then s.net.egress0 else s.net.egress1).map (fun q => q.filter (mayLeave s p))) with
    | none => s
    | some (x, rest) =>
      let net := { s.net with out := s.net.out ++ [(p, x)] }
      { s with net := if p == 0 then { net with egress0 := rest } else { net with egress1 := rest } }

/-- The transparent clock adds the residence time to the correctionField of an event message (R265). The time itself is free. -/
def throughClock (s : State) (f : EthFrame) : State × EthFrame :=
  let b := f.body
  if etherType f == 0x88F7 && byteAt b 2 % 16 ≤ 1 then
    let v := (beAt b 10 8 + (Config.freeVal s.freeCnt).toNat) % 2 ^ 64
    (nextFree s, { f with body := b.take 10 ++ beBytes 8 v ++ b.drop 18 })
  else (s, f)

/-- The switch learns a source address: at most 1,024 (R258). -/
def learnMac (s : State) (mac : BitVec 48) (p : Nat) : State :=
  { s with net := { s.net with macs := ((mac, p) :: s.net.macs.filter (fun x => x.1 != mac)).take 1024 } }

/-- The switch forwards a frame to the other port, into the queue of its PCP (R258, R259). -/
def forwardFrame (s : State) (c : Image) (p : Nat) (f : EthFrame) : State :=
  let s := learnMac s f.src p
  if fastTraffic c f && !(carriesKsl s p && carriesKsl s (1 - p)) then s
  else
    let r := throughClock s f
    enqueue r.1 (1 - p) ((f.tag.map (fun t => t.1 % 8)).getD 0) (.forward r.2)

/-- A forwarded frame that another command brings to the module too: a multicast PTP message, an ARP request (R261, R265). -/
def takenToo (f : EthFrame) : Bool := f.dst.getLsbD 40 && (etherType f == 0x88F7 || etherType f == 0x0806)

/-- LINE_FORWARDING (R257 to R259, R262): a frame is counted once, longer frames count as errors, PAUSE frames (PRESUMED, log 132: EtherType 0x8808) are discarded. -/
def lineForwardingEffect (p : Nat) (f : EthFrame) (s : State) : State :=
  if !hasPort s p then s
  else if 1522 < wireSize f then errorFrame s p
  else
    let s := if takenToo f then s else countRx s p
    match ownAddr s, s.cfg with
    | some a, some c =>
      if fromOwn a f.src (wireSrcIp f) then addrConflict s p
      else if etherType f == 0x8808 || pmodeOf s != 1 || f.dst == a.mac then s
      else forwardFrame s c p f
    | _, _ => s

/-- MAC_AGEING (R258). -/
def macAgeingEffect (mac : BitVec 48) (s : State) : State := { s with net := { s.net with macs := s.net.macs.filter (fun x => x.1 != mac) } }

/-- What the clock brings while no command waits: a tick of the bus, and each linked port sends the frame that is first in its strict priority
(R258; DESIGN CHOICE, log 1). -/
def blockTick (s : State) : State := if awake s then servePort (servePort (busTick s) 0) 1 else s

/-- PTP_MESSAGE_RX. -/
def execPtpMessageRx (m : PtpMsg) (s : State) : Host.Outcome State Fault Refusal := finish s (ptpMessageRxEffect m s)
/-- SYNC_LOST. -/
def execSyncLost (s : State) : Host.Outcome State Fault Refusal := finish s (syncLostEffect s)
/-- LINK_CHANGE. -/
def execLinkChange (p : Nat) (up : Bool) (speed : Nat) (s : State) : Host.Outcome State Fault Refusal := finish s (linkChangeEffect p up speed s)
/-- PRP_LAN_SILENT. -/
def execPrpLanSilent (lan : Nat) (s : State) : Host.Outcome State Fault Refusal := finish s (prpLanSilentEffect lan s)
/-- PRP_SUPERVISION. -/
def execPrpSupervision (s : State) : Host.Outcome State Fault Refusal := finish s (prpSupervisionEffect s)
/-- ARP_REQUEST. -/
def execArpRequest (p : Nat) (t : BitVec 32) (m : BitVec 48) (i : BitVec 32) (s : State) : Host.Outcome State Fault Refusal :=
  finish s (arpRequestEffect p t m i s)
/-- NET_FRAME_DROP. -/
def execNetFrameDrop (p : Nat) (why : NetDrop) (s : State) : Host.Outcome State Fault Refusal := finish s (netFrameDropEffect p why s)
/-- SYNC_INTERVAL. -/
def execSyncInterval (s : State) : Host.Outcome State Fault Refusal := finish s (syncIntervalEffect s)
/-- LINE_FORWARDING. -/
def execLineForwarding (p : Nat) (f : EthFrame) (s : State) : Host.Outcome State Fault Refusal := finish s (lineForwardingEffect p f s)
/-- MAC_AGEING. -/
def execMacAgeing (mac : BitVec 48) (s : State) : Host.Outcome State Fault Refusal := finish s (macAgeingEffect mac s)

end Sys2Proof.Machine
end

