-- ==== Sys2Proof/Machine/Startup.lean ====
section
/-! DEFINITION. Module resets, the start-up sequence, and the way into and out of STANDBY (R361 to R370, R407 to R409, R436, R437). -/
namespace Sys2Proof.Machine

/-- What a module reset keeps: the queue, fuses and MRAM, the part itself, the sequence numbers (R237), the link state, and what has left the
module. Everything else takes its reset value, and step 1 runs (R361, R437). -/
def clearModule (s : State) (keepLink : Bool) : State :=
  let t := resetIsland s
  let host := { HostSt.reset with posted := s.host.posted }
  { State.reset with
    pending := s.pending, freeCnt := s.freeCnt, nv := s.nv,
    sys := { SysSt.reset with variant := s.sys.variant, revMaj := s.sys.revMaj, revMin := s.sys.revMin, tempBad := s.sys.tempBad, rstcause := 0 },
    host := if keepLink then { host with pci := s.host.pci, linkUp := s.host.linkUp, busMaster := s.host.busMaster, d3 := s.host.d3,
                                         lostCommitted := t.host.lostCommitted, lostCancelled := t.host.lostCancelled } else host,
    net := { NetSt.reset with out := s.net.out },
    ksl := { KslSt.reset with seqs := if keepLink then s.ksl.seqs else [] },
    fld := { FldSt.reset with sent := s.fld.sent } }

/-- A module reset with a cause bit: causes that fall into one reset all stand (R435). Where the supply stays, the host island is reset as R341
describes, and HOST_RESET waits for the EVT ring (R330, R437), with the changes to the power state OFF and to debug CLOSED that the reset is
(R406, R407, R412). -/
def moduleReset (s : State) (bit : Nat) : State :=
  let old : BitVec 4 := if !s.sys.powered || s.sys.running == 1 then s.sys.rstcause else 0
  let t := clearModule s (bit == 2 || bit == 3)
  let t := { t with sys := { t.sys with rstcause := setBit old bit } }
  if bit == 2 || bit == 3 then
    let t := raise t 191 0 0 0
    let t := if s.lcy.dbg == .closed then t else raise t 248 0 0 0
    if s.sys.pwr == 0 then t else raise t 253 0 0 0
  else t

/-- POWER_ON_RESET (R361). -/
def powerOnResetEffect (s : State) : State := moduleReset s 0

/-- BROWN_OUT: reset until VDD is back; every output is off (R28, R361). -/
def brownOutEffect (s : State) : State :=
  let t := moduleReset s 1
  { t with sys := { t.sys with powered := false } }

/-- RESETN_LOW (R361). -/
def resetnLowEffect (s : State) : State := moduleReset s 2

/-- SUPPLY_RETRY: step 1 runs again (R367). -/
def supplyRetryEffect (s : State) : State :=
  if s.sys.supplyHold then { s with sys := { s.sys with supplyHold := false, cause := 0 } } else s

/-- The sequence goes on to step k. -/
def goStep (s : State) (k : Nat) : State := { s with sys := { s.sys with running := k, step := k } }

/-- Step 1: supply and PLLs are up and the power-on reset is released; TB starts at 0 (R345, R363). Otherwise the module is held for SUPPLY. -/
def step1 (s : State) (o : StepObs) : State :=
  if !o.ok || s.sys.tempBad then { s with sys := { s.sys with supplyHold := true, cause := 1 } }
  else
    let s := goStep s 2
    { s with tb := 0, clkB := 0, sys := { s.sys with releaseTb := 0, cause := 0, answers := true, clk := 0x27 } }

/-- Step 3: fuse sense, and the identity key where it is still to be made. An open alarm is recorded as FUSE (R367, R380, R391). -/
def step3 (s : State) (o : StepObs) : State :=
  let s := sealKey (showKeys (senseFuses s)) o.keyStop
  goStep (if s.fus.alarmOpen then { s with sys := { s.sys with cause := 3 } } else s) 4

/-- Step 4: the lifecycle decision; between steps 4 and 5 the library patch is checked (R366, R390). -/
def step4 (s : State) : State :=
  if s.fus.lcy == 4 then haltModule s 4 else enterPwr (goStep (checkLibrary s) 5) 1

/-- Step 5: the BIST of both lanes (R367). -/
def step5 (s : State) (o : StepObs) : State :=
  match o.bistA, o.bistB with
  | true, true => goStep s 6
  | false, true => haltModule (markLane s .a 0 (fun _ => false)) 5
  | true, false => haltModule (markLane s .b 0 (fun _ => false)) 6
  | false, false => haltModule (bothLanes { s with lan := { s.lan with markA := true, markB := true } }) 5

/-- RDL_INJ_RESULT of an injection that failed (R126). -/
def injWord (h : Half) (path index : Nat) : BitVec 32 := BitVec.ofNat 32 (2 ^ 31 + b2n (h == .rh1) * 1024 + path * 256 + index)

/-- Step 6: both halves compute their K tables and run the injections (R112, R121, R126). -/
def step6 (s : State) (o : StepObs) : State :=
  let s := fillKTabs s
  match injFailure s o.injErrs with
  | some (h, path, index) =>
    haltModule (comparatorFault { s with rdl := { s.rdl with injDone := true, injResult := injWord h path index } } 3) 7
  | none =>
    let train := fun (k : LinkSt) => { k with st := .training, safe := false }
    let s := goStep s 7
    { s with
      rdl := { s.rdl with injDone := true, injPass := true },
      sys := { s.sys with convA := true, convB := true, trainTries := 0, clk := s.sys.clk ||| 0x18 },
      fld := { s.fld with linkA := train s.fld.linkA, linkB := train s.fld.linkB } }

/-- Both links are trained with the parameters of c, or the default ones (R203). -/
def bothTrained (s : State) (c : Option Image) : State :=
  linksGood { s with fld := { s.fld with linkA := trained s c s.fld.linkA, linkB := trained s c s.fld.linkB } }

/-- Both links are down. -/
def linksDown (s : State) : State :=
  { s with fld := { s.fld with linkA := { s.fld.linkA with st := .down }, linkB := { s.fld.linkB with st := .down } } }

/-- FIELD_POWER: the halt with BL_FAULT, a module-wide fault found in HOLD (R130, R367). -/
def fieldPowerHalt (s : State) : State := haltModule (faultInHold (noteFault (raise s 30 0xFFFFFFFF 0 0x25) 0x25)) 8

/-- Step 7: converters and training with default parameters; the third failure ends start-up (R363, R367). -/
def step7 (s : State) (o : StepObs) : State :=
  if o.ok then goStep (bothTrained s none) 8
  else if s.sys.trainTries < 2 then { s with sys := { s.sys with trainTries := s.sys.trainTries + 1 } }
  else
    fieldPowerHalt (linksDown s)

/-- The bank has had more than 19.2 V all through step 8 in both sequencers (R364). -/
def fedAll (o : StepObs) (b : Nat) : Bool := 192 < o.feedA.getD b 0 && 192 < o.feedB.getD b 0

/-- The faults that a step of a single-switch test shows on a channel of step 8 (R186, R364). -/
def bootTest (s : State) (x : SwitchTest) : State :=
  let fa := testFaults x.step x.midA x.pinA
  let fb := testFaults x.step x.midB x.pinB
  (fa ++ fb).eraseDups.foldl (fun t k => setOutCause t x.ch k (fa.contains k) (fb.contains k)) s

/-- Step 8: fed banks are qualified and their outputs tested (R186, R364). -/
def step8 (s : State) (o : StepObs) : State :=
  let fed := fedAll o
  let s := (idxs (nBankOf s.sys.variant) fed).foldl (fun t b =>
    let t := modBank t b (fun k => { k with st := .ok, cause := 0, feedA := o.feedA.getD b 0, feedB := o.feedB.getD b 0 })
    raise t (54 + 8 * b) b (bankCode .ok) (vlp (bankAt t b))) s
  let s := { s with fld := { s.fld with
    banks := s.fld.banks.zipIdx.map (fun p => if fed p.2 then p.1 else { p.1 with st := .untested }),
    outs := s.fld.outs.zipIdx.map (fun p => { p.1 with tested := p.1.tested || fed (p.2 / 16), test := 0 }) } }
  goStep (o.tests.foldl (fun t x => if fed (x.ch / 16) then bootTest t x else t) s) 9

/-- Step 9: every source of a bank that passed step 8 is checked; a terminal of which nothing is seen fails (R166, R364). -/
def step9 (s : State) (o : StepObs) : State :=
  (List.range (nSrcOf s.sys.variant)).foldl (fun t i =>
    if !bankGood (bankAt t (i / 4)) then modSrc t i (freshSource .untested false)
    else
      let none_ : TermObs := ⟨none, none, 0⟩
      checkedSource t Config.checkWidth ((o.srcs.find? (fun x => x.src == i)).getD ⟨i, none_, none_⟩)) s

/-- The ACTIVE slot's bytes. -/
def activeSlot (s : State) : Option Bytes := (s.nv.slots.find? (fun x => x.isActive)).map (fun x => x.bytes)

/-- Step 10 records a rejection (R365, R435). -/
def rejectConfig (s : State) (j : Rej) : State :=
  noConfig { s with sys := { s.sys with rejCode := BitVec.ofNat 16 j.code, rejCls := BitVec.ofNat 8 j.cls, rejItem := BitVec.ofNat 32 j.item } } 9

/-- A second training that fails leaves the links down, to be retried, and START refused meanwhile (R148, R203). -/
def secondTraining (s : State) (c : Image) (ok : Bool) : State :=
  if ok then bothTrained s (some c) else { linksDown s with lan := { s.lan with blFault := true } }

/-- Step 10: the configuration (R365, R366). -/
def step10 (s : State) (o : StepObs) : State :=
  let clear := { s with sys := { s.sys with rejCode := 0, rejCls := 0, rejItem := 0 } }
  match activeSlot s with
  | none => if s.fus.alarmOpen then rejectConfig s ⟨0x103, 0x0B, 0⟩ else noConfig clear 0x0A
  | some b =>
    if s.fus.alarmOpen then rejectConfig s ⟨0x103, 0x0B, byteAt b 0x1C⟩
    else match checkImage (checkEnv s) b b.length with
      | .error j => rejectConfig s j
      | .ok (c, _) => loadImage (secondTraining clear c o.ok) c

/-- STARTUP_STEP_DONE: the step in progress ends (R363). A stalled Hedge goes on with nothing (R18). -/
def startupStepDoneEffect (o : StepObs) (s : State) : State :=
  if !s.sys.powered || s.sys.supplyHold || s.sys.halt || s.sys.hedgeStalled then s
  else
    let s := { s with sys := { s.sys with vddMv := BitVec.ofNat 16 o.vddMv }, fus := { s.fus with vddProg := decide (2700 ≤ o.vddMv) } }
    match s.sys.running with
    | 1 => step1 s o
    | 2 => if o.ok then goStep s 3 else haltModule s 2
    | 3 => step3 s o
    | 4 => step4 s
    | 5 => step5 s o
    | 6 => step6 s o
    | 7 => step7 s o
    | 8 => step8 s o
    | 9 =>
      let s := step9 s o
      if s.fus.lcy == 0 || s.fus.lcy == 3 then noConfig s 0x0A else goStep s 10
    | 10 => step10 s o
    | _ => s

/-- STARTUP_TIMEOUT: a step of 1 to 10 exceeds its budget (R367). A module that a stalled Hedge has stopped is in HOLD instead (R18). -/
def startupTimeoutEffect (s : State) : State :=
  if s.sys.powered && !s.sys.supplyHold && !s.sys.hedgeStalled && s.sys.running != 0 then haltModule s 0x0B else s

/-- The conditions under which a request for STANDBY is refused with SYS_ERR.PWR (R436). -/
def standbyRefused (s : State) : Bool := s.sys.halt || s.sys.running != 0 || s.plt.state == 1

/-- STANDBY_REQUEST (R409, R436). -/
def standbyRequestEffect (s : State) : State :=
  if s.lan.inRun then sysErr s 3
  else if s.sys.entering || s.sys.pwr == 3 then s
  else if standbyRefused s then sysErr s 1
  else sendAllOff { s with sys := { s.sys with pwrReq := 3, entering := true }, lan := { s.lan with startAt := none } }

/-- A wake begins: steps 5 to 12 (R409). -/
def beginWake (s : State) : State :=
  let s := goStep { s with sys := { s.sys with wake := true, wakeReq := false, noCfg := false, cause := 0, trainTries := 0 } } 5
  enterPwr { s with plt := { s.plt with state := 0 } } 1

/-- HOLD_REQUEST (R409, R436). -/
def holdRequestEffect (s : State) : State :=
  if s.lan.inRun then sysErr s 3
  else if s.sys.entering then { s with sys := { s.sys with pwrReq := 1, wakeReq := true } }
  else if s.sys.pwr == 3 then beginWake { s with sys := { s.sys with pwrReq := 1 } }
  else s

/-- STANDBY_ENTRY_END: converters off, lanes clock-gated; a wake asked for meanwhile follows (R407, R409). The safe state of a fault that only a
module reset ends stays (R148, R405). -/
def standbyEntryEndEffect (s : State) : State :=
  if !s.sys.entering then s
  else
    let s := clearPlan s
    let link := fun (k : LinkSt) => { LinkSt.reset with err := k.err, miss := k.miss, allOff := k.allOff && allOffStays s }
    let fld := { FldSt.reset with sent := s.fld.sent, idisCnt := s.fld.idisCnt, linkA := link s.fld.linkA, linkB := link s.fld.linkB }
    let s := { s with
      fld := fld,
      sys := { s.sys with entering := false, convA := false, convB := false, clk := s.sys.clk &&& 0xE7 },
      lan := { s.lan with timerOn := false, halted := false, haltReq := false, stepReq := false, testWait := false,
                          fstate := if s.lan.needReset then s.lan.fstate else 0 } }
    let s := settleDiags (enterPwr s 3)
    if s.sys.wakeReq then beginWake s else s

/-- WAKE_END: the woken module has reached HOLD (R409). -/
def wakeEndEffect (s : State) : State :=
  if s.sys.wake && s.sys.running == 0 && s.plt.state != 1 then
    raise { s with sys := { s.sys with wake := false } } 254 (bootWord s) (startupInfo s).1 (startupInfo s).2
  else s

/-- MODRST: a write of 0xC3A5_0001 to SYS_RESET (R437). -/
def modrstEffect (s : State) : State := if s.lan.inRun then sysErr s 3 else moduleReset s 3

/-- ISOLATED_CONVERTER_FAILURE: the sequencer loses its power and every gate of it opens (R28), with FA the sources that it drives go off
(R161); in step 7 start-up ends (R367). -/
def isolatedConverterFailureEffect (l : Lane) (s : State) : State :=
  let s := match l with
    | .a => { s with sys := { s.sys with convA := false, clk := clearBit s.sys.clk 3 } }
    | .b => { s with sys := { s.sys with convB := false, clk := clearBit s.sys.clk 4 } }
  let open_ := fun (w : SwitchSt) => { w with gate := false, pulsing := false, offTb := none }
  let s := { s with fld := { s.fld with outs := s.fld.outs.map (fun x => match l with
    | .a => { x with swA := open_ x.swA }
    | .b => { x with swB := open_ x.swB }) } }
  let s := match l with
    | .a => { s with fld := { s.fld with srcs := s.fld.srcs.map (fun k =>
        if k.st == .active then freshSource .off false k else freshSource k.st (k.st == .faulted) k) } }
    | .b => s
  if s.sys.running == 7 then fieldPowerHalt s else s

/-- TEMPERATURE_OUT_OF_RANGE: it keeps the module in reset or in HOLD (R131). -/
def temperatureEffect (t : TempState) (s : State) : State :=
  { s with sys := { s.sys with tempBad := (match t with
      | .outOfRange => true
      | .backInRange => false) } }

/-- POWER_ON_RESET. -/
def execPowerOnReset (s : State) : Host.Outcome State Fault Refusal := finishAlways (powerOnResetEffect s)
/-- BROWN_OUT. -/
def execBrownOut (s : State) : Host.Outcome State Fault Refusal := finishAlways (brownOutEffect s)
/-- RESETN_LOW. -/
def execResetnLow (s : State) : Host.Outcome State Fault Refusal := finishPowered s (resetnLowEffect s)
/-- SUPPLY_RETRY. -/
def execSupplyRetry (s : State) : Host.Outcome State Fault Refusal := finishPowered s (supplyRetryEffect s)
/-- STARTUP_STEP_DONE. -/
def execStartupStepDone (o : StepObs) (s : State) : Host.Outcome State Fault Refusal := finishPowered s (startupStepDoneEffect o s)
/-- STARTUP_TIMEOUT. -/
def execStartupTimeout (s : State) : Host.Outcome State Fault Refusal := finishPowered s (startupTimeoutEffect s)
/-- STANDBY_REQUEST. -/
def execStandbyRequest (s : State) : Host.Outcome State Fault Refusal := finishBus s 0x1010 (standbyRequestEffect s)
/-- HOLD_REQUEST. -/
def execHoldRequest (s : State) : Host.Outcome State Fault Refusal := finishBus s 0x1010 (holdRequestEffect s)
/-- STANDBY_ENTRY_END. -/
def execStandbyEntryEnd (s : State) : Host.Outcome State Fault Refusal := finish s (standbyEntryEndEffect s)
/-- WAKE_END. -/
def execWakeEnd (s : State) : Host.Outcome State Fault Refusal := finish s (wakeEndEffect s)
/-- MODRST. -/
def execModrst (s : State) : Host.Outcome State Fault Refusal := finishBus s 0x1014 (modrstEffect s)
/-- ISOLATED_CONVERTER_FAILURE. -/
def execIsolatedConverterFailure (l : Lane) (s : State) : Host.Outcome State Fault Refusal := finish s (isolatedConverterFailureEffect l s)
/-- TEMPERATURE_OUT_OF_RANGE. -/
def execTemperatureOutOfRange (t : TempState) (s : State) : Host.Outcome State Fault Refusal := finishPowered s (temperatureEffect t s)

end Sys2Proof.Machine
end

