-- ==== Sys2Proof/Machine/Registers.lean ====
section
/-! DEFINITION. The register map (chapter 20): what a read of every register shows, page by page, and REGISTER_WRITE, a write to a register that has
no row of its own. -/
namespace Sys2Proof.Machine

/-- Word i (32 bits) of a value of any width. -/
def regWord {w : Nat} (x : BitVec w) (i : Nat) : Nat := (x.toNat / 2 ^ (32 * i)) % 2 ^ 32

/-- A field of a register map: the value v of `width` bits at bit `lo`. -/
def fld (v lo width : Nat) : Nat := (v % 2 ^ width) * 2 ^ lo

/-- The value of an indexed register file of words of 4 bytes, from offset `base`. -/
def file (off base n : Nat) (f : Nat → Nat) : Option Nat := if base ≤ off && off < base + 4 * n then some (f ((off - base) / 4)) else none

/-- The first register that an offset hits; 0 where none does (R432). -/
def firstReg (l : List (Option Nat)) : Nat := ((l.find? (fun x => x.isSome)).bind id).getD 0

/-- Seconds left until an instant of TB, counted up to the next full second. -/
def secondsLeft (s : State) (t : BitVec 64) : Nat := (t.toNat - s.tb.toNat + 99999999) / 100000000

/-- A fuse or lifecycle command is running: it is the Hedge's turn for it (R322, R394). -/
def fuseBusy (s : State) : Bool := match s.host.outst.find? (fun o => !o.ended && hedgeOp o.op) with
  | some o => 0x0D ≤ o.op && o.op ≤ 0x0F
  | none => false

/-- SYS_CLK: REFCLK_OK stands while the link has its reference clock, which the model takes from the link state (R435; DEDUCED, log 105). -/
def clkWord (s : State) : Nat :=
  (if s.sys.answers && s.host.linkUp then setBit s.sys.clk 6 else clearBit s.sys.clk 6).toNat

/-- VDD_MV of SYS_MON: the measurement of the step while start-up runs; afterwards no command brings one, and it is free (R438; log 158). -/
def vddShown (s : State) : Nat :=
  if s.sys.vddMv == 0 then 0 else if s.sys.running != 0 then s.sys.vddMv.toNat else (Config.freeVal s.freeCnt).toNat / 256

/-- The PCI Express identity of the endpoint, the same on every variant (R6). -/
def pciVendorId : Nat := 0x1D9E
def pciDeviceId : Nat := 0x0972
/-- Its class code (R312). -/
def pciClass : Nat := 0x088000

/-- Word `off` of the PCI Express configuration space (R6, R312, R314): a type 0 header with the Vendor and Device ID, Command with Memory Space and
Bus Master Enable, the Revision ID with the class code, BAR0 of 64 KiB, the Subsystem IDs and Interrupt Pin 0; BAR1 to BAR5 and the expansion ROM
read 0. Then the capabilities: power management with D0 and D3hot and no PME, MSI-X with 32 vectors, PCI Express with a payload of 256 bytes,
function level reset, one lane at 5.0 GT/s and ASPM L1 alone, and advanced error reporting. Where they lie is the model's choice (DESIGN CHOICE,
log 157). -/
def pciWord (s : State) (off : Nat) : Nat :=
  let p := s.host.pci
  match off with
  | 0x00 | 0x2C => fld pciDeviceId 16 16 + pciVendorId
  | 0x04 => fld 0x0010 16 16 + fld (b2n s.host.busMaster) 2 1 + fld (b2n p.memEn) 1 1
  | 0x08 => fld pciClass 8 24 + sysIdrev s % 256
  | 0x10 => p.bar0.toNat
  | 0x34 => 0x40
  | 0x40 => 0x00035001
  | 0x44 => if s.host.d3 then 3 else 0
  | 0x50 => fld (b2n p.msixEn) 31 1 + fld (b2n p.msixMask) 30 1 + fld 31 16 11 + 0x6011
  | 0x54 => 0xE000
  | 0x58 => 0xF000
  | 0x60 => 0x00020010
  | 0x64 => 0x10008001
  | 0x68 => p.devCtl.toNat
  | 0x6C => 0x00000812
  | 0x70 => fld 1 20 6 + fld (if s.host.linkUp then 2 else 0) 16 4 + p.aspm.toNat
  | 0x100 => 0x00010001
  | _ => 0

/-- What a configuration read returns: none, the Retry Status, before the host island answers (R369, R432). -/
def pciConfigRead (s : State) (off : Nat) : Option (BitVec 32) :=
  if s.sys.answers then some (BitVec.ofNat 32 (pciWord s off)) else none

/-- A configuration write of a whole word: the bits of it that the host may write. Bus Master Enable, the power state and a function level reset
have rows of their own (HOST_DMA_STOP, HOST_DMA_RESUME, HOST_ISLAND_RESET). The payload and request sizes are those that R312 supports. -/
def pciSet (off : Nat) (v : BitVec 32) (p : PciSt) : PciSt := match off with
  | 0x04 => { p with memEn := v.getLsbD 1 }
  | 0x10 => { p with bar0 := v &&& 0xFFFF0000 }
  | 0x50 => { p with msixEn := v.getLsbD 31, msixMask := v.getLsbD 30 }
  | 0x68 =>
    let mps := min 1 (nbits v.toNat 7 5)
    let mrrs := min 2 (nbits v.toNat 14 12)
    { p with devCtl := BitVec.ofNat 16 (fld mrrs 12 3 + fld mps 5 3 + v.toNat % 16) }
  | 0x70 => { p with aspm := v.setWidth 2 &&& 2 }
  | _ => p

/-- A configuration write of 1 to 4 bytes within a word; a vector that may now send its pending message does so (R314). -/
def pciConfigWrite (off size : Nat) (v : BitVec 64) (s : State) : State :=
  if size == 0 || 4 < off % 4 + size then s
  else
    let base := off / 4 * 4
    let old := bytesOf (BitVec.ofNat 32 (pciWord s base)) 4
    let new := old.take (off % 4) ++ bytesOf v size ++ old.drop (off % 4 + size)
    sendAllPending { s with host := { s.host with pci := pciSet base (BitVec.ofNat 32 (leAt new 0 4)) s.host.pci } }

/-- The SYS page (R435 to R438). The temperature is a measurement without any other use. -/
def sysReg (s : State) (off : Nat) : Nat := match off with
  | 0x000 => sysIdrev s
  | 0x004 => bootWord s
  | 0x008 => s.sys.rstcause.toNat
  | 0x00C => clkWord s
  | 0x010 => fld (b2n (s.sys.entering || s.sys.wake)) 24 1 + fld (b2n s.sys.convB) 17 1 + fld (b2n s.sys.convA) 16 1 + fld s.sys.pwr 8 2
      + s.sys.pwrReq.toNat
  | 0x018 => s.sys.err.toNat
  | 0x01C => fld (b2n (alertnLow s)) 1 1 + b2n (wakenLow s)
  | 0x020 => s.sys.wakeMask.toNat
  | 0x024 => fld (vddShown s) 16 16 + (if s.sys.vddMv == 0 then 0 else fld (Config.freeVal s.freeCnt).toNat 8 8)
  | 0x028 => fld s.sys.rejCode.toNat 16 16 + fld s.sys.rejCls.toNat 8 8
  | 0x02C => s.sys.rejItem.toNat
  | _ => 0

/-- The HST page (R343, R344). -/
def hstReg (s : State) (off : Nat) : Nat :=
  let h := s.host
  if 0x040 ≤ off && off < 0x0B0 then
    let r := (off - 0x040) / 16
    let g := ringAt s r
    match (off - 0x040) % 16 with
    | 0 => regWord g.base 0
    | 4 => regWord g.base 1
    | 8 => g.size
    | _ => (if hostRing r then g.c else g.p).toNat
  else match off with
    | 0x000 => fld (b2n h.piEn) 7 1 + h.ringEn.toNat
    | 0x004 => fld h.outst.length 8 5 + fld (if h.d3 then 3 else 0) 6 2 + fld (b2n (!dmaOk s)) 5 1 + fld (b2n h.tunEn) 4 1
    | 0x008 => h.err.toNat
    | 0x00C => fld h.lostCommitted.toNat 16 16 + h.lostCancelled.toNat
    | 0x010 => regWord h.sb 0
    | 0x014 => regWord h.sb 1
    | 0x018 => regWord h.pi 0
    | 0x01C => regWord h.pi 1
    | 0x020 => h.div.toNat
    | 0x024 => h.piGen.toNat
    | 0x028 => h.tunDrop.toNat
    | 0x02C => h.reqDrop.toNat
    | 0x030 => min (s.evt.held.foldl (· + ·) 0) 0xFFFFFFFF
    | _ => 0

/-- The TTU page (R360). -/
def ttuReg (s : State) (off : Nat) : Nat :=
  let t := s.ttu
  if 0x100 ≤ off && off < 0x200 then
    let g := (off - 0x100) / 16
    let x := gtAt s g
    match off % 16 with
    | 0 => x.cfg.toNat
    | 4 => (if highHalf s g then x.staged else x.buf).toNat
    | 8 => x.cnt.toNat
    | _ => fld (b2n (frozen s g)) 2 1 + fld (b2n x.out) 1 1 + b2n x.down
  else if 0x200 ≤ off && off < 0x400 then
    let x := ccAt s ((off - 0x200) / 16)
    match off % 16 with
    | 0 => x.cfg.toNat
    | 4 => x.lo.toNat
    | 8 => x.hi.toNat
    | _ => ccStatus x
  else match off with
    | 0x000 => regWord s.tb 0
    | 0x004 => regWord s.tb 1
    | 0x008 => t.err.toNat
    | 0x00C => t.en.toNat
    | 0x010 => t.freeze.toNat
    | 0x014 => t.link.toNat
    | 0x018 => t.ccEn.toNat
    | 0x01C => (idxs 32 (fun i => (ccAt s i).past)).foldl (fun n i => n + 2 ^ i) 0
    | 0x020 => (idxs 32 (fun i => (ccAt s i).fired)).foldl (fun n i => n + 2 ^ i) 0
    | _ => 0

/-- An input and its configuration as the F(n) state shows them. -/
def shownIn (s : State) (i : Nat) : InCh := s.fld.insF.getD i InCh.reset
def shownOut (s : State) (i : Nat) : OutCh := s.fld.outsF.getD i OutCh.reset
def shownBank (s : State) (b : Nat) : BankSt := s.fld.banksF.getD b BankSt.reset
def shownSrc (s : State) (i : Nat) : SrcSt := s.fld.srcsF.getD i SrcSt.reset

/-- A register of 32 of the 96 channels of a mask. -/
def chanBits (s : State) (j : Nat) (p : Image → Nat → Bool) : Nat := match s.cfg with
  | none => 0
  | some c => regWord (mask96 (fun ch => ch < nChanOf s.sys.variant && p c ch)) j

/-- The first cause of a list, or 0. -/
def firstCause (l : List Nat) : Nat := l.headD 0

/-- FLD_ICHi (R172): the state as of F(n), the record as configured. -/
def ichReg (s : State) (i : Nat) : Nat :=
  let x := shownIn s i
  match s.cfg.bind (fun c => ownChan c i) with
  | none => fld 0x1F 23 5 + fld 0x1F 15 5
  | some r =>
    let input := 1 ≤ r.use && r.use ≤ 3
    let safe := r.use == 1 || r.use == 2
    fld (if safe then firstCause x.causes else 0) 28 4 + fld (if safe then x.foreign else 0x1F) 23 5
      + fld (if r.use == 2 then x.band else 0) 20 3 + fld (if r.tpsrc < 24 then r.tpsrc else 0x1F) 15 5
      + (if input then fld r.itype 13 2 + fld (if r.filt == 0 then 30 else r.filt) 0 10 else 0) + fld r.use 10 3

/-- FLD_OCHi and FLD_OCFGi (R204). -/
def ochReg (s : State) (i : Nat) : Nat :=
  let x := shownOut s i
  fld (firstCause (x.causes.map (fun y => y.cause))) 28 4 + fld (b2n x.overdue) 27 1 + fld (b2n x.limit) 26 1
    + fld (b2n (x.swA.therm || x.swB.therm)) 25 1 + fld (b2n x.mid) 24 1 + min x.cur 0xFFFF
def ocfgReg (s : State) (i : Nat) : Nat := match s.cfg.bind (fun c => ownChan c i) with
  | none => 0
  | some r => if r.use < 4 then 0 else
    fld r.opi 19 13 + fld r.opw 12 7 + fld r.ilim 10 2 + fld (b2n (nbit r.oflags 0)) 9 1 + fld (b2n (nbit r.oflags 1)) 8 1 + fld r.use 0 3

/-- Code of a source state and of a link state (R172, R204). -/
def srcCode : SrcState → Nat
  | .off => 0
  | .active => 1
  | .faulted => 2
  | .untested => 3
def blCode : LinkState → Nat
  | .down => 0
  | .training => 1
  | .up => 2
  | .silence => 3

/-- FLD_TPCFGi (R172): WIDTH in units of 10 µs. -/
def tpcfgReg (s : State) (i : Nat) : Nat := match s.cfg with
  | none => 0
  | some c => match ownSrc c i with
    | none => 0
    | some r => fld 1 31 1 + fld (codeOf c i) 26 5 + fld r.slotDiv 16 10 + fld (r.width / 10) 0 6

/-- Off-pulse tests of a bank in SAG are deferred, as the latest F(n) found it (R192, R204). -/
def shownDefer (s : State) (b : Nat) : Bool :=
  (shownBank s b).st == .sag && ((s.fld.outsF.drop (16 * b)).take 16).any (fun o => o.swA.deferred || o.swB.deferred)

/-- FLD_BANKb and FLD_BANKCFGb (R204). -/
def bankReg (s : State) (b : Nat) : Nat :=
  let x := shownBank s b
  fld (bankCode x.st) 29 3 + fld (if x.st == .low || x.st == .lost then x.cause else 0) 26 3 + fld (b2n (shownDefer s b)) 25 1
    + fld x.feedB 12 10 + fld x.feedA 0 10
def bankcfgReg (s : State) (b : Nat) : Nat := fld (bankWarn s b) 24 8 + fld (bankPar s b).1 16 8 + fld (bankPar s b).2 8 8

/-- The FLD page (R172, R204); registers of absent banks, channels and sources read 0 (R7). -/
def fldReg (s : State) (off : Nat) : Nat :=
  let nCh := nChanOf s.sys.variant
  let nB := nBankOf s.sys.variant
  let nS := nSrcOf s.sys.variant
  let f := s.fld
  let srcMask := fun (p : SrcSt → Bool) => (idxs nS (fun i => p (shownSrc s i))).foldl (fun n i => n + 2 ^ i) 0
  firstReg [
    file off 0x000 3 (fun j => chanBits s j (fun c ch => isSafeIn c ch && (shownIn s ch).state)),
    file off 0x00C 3 (fun j => chanBits s j (fun c ch => isSafeIn c ch && (shownIn s ch).fault)),
    file off 0x018 3 (fun j => chanBits s j (fun c ch => chanUse c ch == 3 && (shownIn s ch).stdin)),
    file off 0x024 1 (fun _ => f.idisCnt.toNat),
    file off 0x028 1 (fun _ => srcMask (fun x => x.st == .faulted)),
    file off 0x02C 1 (fun _ => srcMask (fun x => x.st == .untested)),
    file off 0x040 nS (tpcfgReg s),
    file off 0x0A0 nS (fun i => fld (srcCode (shownSrc s i).st) 30 2 + min (shownSrc s i).cur 0xFFFF),
    file off 0x100 nCh (ichReg s),
    file off 0x280 nCh (fun i => fld (min (shownIn s i).curB 0xFFFF) 16 16 + min (shownIn s i).curA 0xFFFF),
    file off 0x400 3 (fun j => regWord f.cmdF j),
    file off 0x40C 3 (fun j => chanBits s j (fun c ch => isOut c ch && (shownOut s ch).rbA)),
    file off 0x418 3 (fun j => chanBits s j (fun c ch => isOut c ch && (shownOut s ch).fault)),
    file off 0x424 3 (fun j => regWord f.stdF j),
    file off 0x430 nB (bankReg s),
    file off 0x448 nB (fun b => min (shownBank s b).cur 0xFFFF),
    file off 0x460 nB (bankcfgReg s),
    file off 0x478 1 (fun _ => fld (blCode f.blF.2) 30 2 + fld (blCode f.blF.1) 28 2 + fld (10 * tblOf s.cfg) 0 11),
    file off 0x47C 1 (fun _ => f.linkA.err.toNat),
    file off 0x480 1 (fun _ => f.linkB.err.toNat),
    file off 0x484 1 (fun _ => fld f.linkB.miss.toNat 16 16 + f.linkA.miss.toNat),
    file off 0x500 nCh (ochReg s),
    file off 0x680 nCh (ocfgReg s)]

/-- A register of axis a at AXBASE + off (R228). -/
def axReg (s : State) (a off : Nat) : Nat :=
  let x := axisAt s a
  let spd : BitVec 64 := BitVec.ofInt 64 x.spd
  let high := fun (h : PortHalf) => fld h.chg.toNat 16 16 + fld (regWord h.pos 1) 0 16
  match off with
  | 0x00 => match axisRec s a with
    | some r => fld r.ptype 30 2 + fld r.stype 28 2 + fld r.spwin 23 5 + fld r.xtime 0 10
    | none => 0
  | 0x04 => match axisRec s a with
    | some r => fld r.pprS 16 16 + fld r.pprP 0 16
    | none => 0
  | 0x08 => (match x.causes with
      | [] => 0
      | k :: _ => fld k.cause 28 4 + fld (causePorts k).toNat 26 2) + fld (b2n x.dirp) 25 1 + fld (b2n x.zseen) 24 1
  | 0x0C => regWord x.pA.pos 0
  | 0x10 => high x.pA
  | 0x14 => regWord x.sA.pos 0
  | 0x18 => high x.sA
  | 0x1C => regWord x.lat 0
  | 0x20 => regWord x.lat 1
  | 0x24 => regWord spd 0
  | 0x28 => regWord spd 1
  | 0x2C => x.xdev.toNat
  | 0x30 => x.xpeak.toNat
  | 0x34 => x.fltCnt.toNat
  | _ => 0

/-- The SMU page (R228); it reads 0 on a variant without the unit (R7). -/
def smuReg (s : State) (off : Nat) : Nat :=
  let bits := fun (p : Nat → Bool) => (idxs 4 p).foldl (fun n a => n + 2 ^ a) 0
  if !hasSmuOf s.sys.variant then 0
  else if off == 0 then fld (bits (fun a => (axisRec s a).isSome)) 4 4 + bits (fun a => !(axisAt s a).causes.isEmpty)
  else if 0x100 ≤ off && off < 0x200 then axReg s ((off - 0x100) / 0x40) (off % 0x40)
  else 0

/-- The NET page (R269). -/
def netReg (s : State) (off : Nat) : Nat :=
  let v := s.net.view
  let p1 := s.sys.variant != 3
  let addr := ownAddr s
  let mac := (addr.map (fun a => a.mac)).getD 0
  let ip : BitVec 32 := (addr.map (fun (a : AddrRec) => a.ipv4)).getD 0
  match off with
  | 0x000 => fld (b2n s.net.syncOk) 7 1 + fld (b2n v.gm) 6 1 + fld (pmodeOf s) 4 2 + (if p1 then fld v.speed1.toNat 2 2 else 0) + v.speed0.toNat
  | 0x004 => fld ((s.cfg.map (fun c => c.domain.ptpDomain)).getD 0) 24 8 + fld ((s.cfg.map (fun c => c.domain.logSync)).getD 0xFD) 16 8
      + (if p1 then fld v.ptp1.toNat 8 8 else 0) + v.ptp0.toNat
  | 0x008 => regWord mac 0
  | 0x00C => regWord mac 1
  | 0x010 => ip.toNat
  | 0x014 => regWord v.gmId 0
  | 0x018 => regWord v.gmId 1
  | 0x01C => v.offset.toNat
  | 0x020 => if v.gm then 0 else v.mpd.toNat
  | 0x024 => s.net.ptNs.toNat
  | 0x028 => regWord s.net.ptSec 0
  | 0x02C => regWord s.net.ptSec 1
  | 0x030 => s.net.rx0.toNat
  | 0x034 => if p1 then s.net.rx1.toNat else 0
  | 0x038 => s.net.errCnt.toNat
  | 0x03C => s.net.dropCnt.toNat
  | _ => 0

/-- Code of a connection state (R241). -/
def connCode : ConnState → Nat
  | .idle => 0
  | .wait => 1
  | .run => 2
  | .fault => 3

/-- KSL_PRODi (R255). -/
def prodReg (s : State) (i : Nat) : Nat := match s.ksl.prodF.find? (fun p => p.conn.index == i) with
  | some p => fld p.conn.cons 22 10 + fld (b2n p.slow) 21 1 + fld 1 20 1 + min p.pathUs 0xFFFFF
  | none => 0

/-- Word w of KSL_CONSi (R255). -/
def consReg (s : State) (i w : Nat) : Nat := match s.ksl.consF[i]? with
  | none => 0
  | some x =>
    if w == 0 then fld (connCode x.st) 30 2 + fld (if x.st == .fault then x.cause else 0) 26 4 + fld x.conn.prod 16 10 + fld x.conn.index 8 8 + x.chk.toNat
    else fld x.ageLast.toNat 16 16 + x.agePeak.toNat

/-- The KSL page (R255). -/
def kslReg (s : State) (off : Nat) : Nat :=
  let k := s.ksl
  let n := nConnOf s.sys.variant
  let inSt := fun (st : ConnState) => (k.consF.filter (fun x => x.st == st)).length
  let used := match s.cfg with
    | none => 0
    | some c => (idxs 3 (fun q => c.paths.any (fun p => (p.x == c.own || p.y == c.own) && p.carrier == q))).foldl (fun t q => t + 2 ^ q) 0
  firstReg [
    file off 0x000 1 (fun _ => fld (inSt .fault) 16 9 + fld (inSt .run) 0 9),
    file off 0x004 1 (fun _ => fld k.cons.length 16 9 + fld k.prod.length 0 9),
    file off 0x008 1 (fun _ => k.txCnt.toNat),
    file off 0x00C 1 (fun _ => k.rxCnt.toNat),
    file off 0x010 1 (fun _ => k.chkCnt.toNat),
    file off 0x014 1 (fun _ => k.oldCnt.toNat),
    file off 0x018 1 (fun _ => k.fenceCnt.toNat),
    file off 0x01C 1 (fun _ => k.foreignCnt.toNat),
    file off 0x020 1 (fun _ => used),
    file off 0x024 1 (fun _ => fld (((ownAddr s).map (fun a => a.udp)).getD 46788) 0 16),
    file off 0x028 1 (fun _ => k.slowCnt.toNat),
    file off 0x400 n (prodReg s),
    file off 0x800 (2 * n) (fun j => consReg s (j / 2) (j % 2))]

/-- Word i of a digest register file: byte 4i in bits [31:24] (R289). -/
def digReg (d : BitVec 384) (i : Nat) : Nat := beAt (digestBytes d) (4 * i) 4

/-- PLT_STATUS.STORED: the record in MRAM is valid for the plan in hand (R286, R289). -/
def recordStored (s : State) : Bool := match s.nv.accRec with
  | some b => s.plt.plan.isSome && recordStatus s b == 0
  | none => false

/-- What the own plan gives the own node, once it is computed (R282, R289). -/
def planCount (s : State) (p : Plan → Nat → Nat) : Nat := match s.plt.plan, s.cfg with
  | some q, some c => p q c.own
  | _, _ => 0

/-- The PLT page (R289). -/
def pltReg (s : State) (off : Nat) : Nat :=
  let p := s.plt
  firstReg [
    file off 0x000 1 (fun _ => fld p.err.toNat 24 8 + fld p.level 12 12 + fld (b2n (recordStored s)) 7 1 + fld (b2n p.accepted) 6 1 + p.state.toNat),
    file off 0x004 1 (fun _ => fld p.errCause.toNat 28 4 + p.errFid.toNat),
    file off 0x008 1 (fun _ => match p.errNode with
      | some n => fld 1 31 1 + fld n 0 10
      | none => 0),
    file off 0x00C 1 (fun _ => fld (p.nbrs.filter (fun n => n.joined)).length 16 11 + fld ((s.cfg.map (fun c => c.nodes.length)).getD 0) 0 11),
    file off 0x010 1 (fun _ => fld p.parent.toNat 21 11 + fld p.diam 4 12 + fld p.nbrs.length 0 4),
    file off 0x014 1 (fun _ => fld (planCount s (fun q n => (q.fns.filter (fun f => f.standby == some n)).length)) 16 11
      + fld (planCount s (fun q n => (q.fns.filter (fun f => f.host == n)).length)) 0 11),
    file off 0x018 1 (fun _ => fld (planCount s (fun q n => (q.conns.filter (fun k => k.cons == n)).length)) 16 11
      + fld (planCount s (fun q n => (q.conns.filter (fun k => k.prod == n)).length)) 0 11),
    file off 0x01C 1 (fun _ => p.time.toNat),
    file off 0x020 1 (fun _ => p.peak.toNat),
    file off 0x040 12 (digReg p.planDig),
    file off 0x070 12 (digReg p.topoDig),
    file off 0x0A0 12 (digReg p.cfgDig)]

/-- The LAN page (R52). -/
def lanReg (s : State) (off : Nat) : Nat :=
  let l := s.lan
  match off with
  | 0x000 => l.tfUnits.toNat
  | 0x004 => l.woUs.toNat
  | 0x008 => l.swarn.toNat
  | 0x00C => l.smax.toNat
  | 0x010 => fld l.fstate.toNat 6 2 + fld (b2n l.slowB) 5 1 + fld (b2n l.clkFault) 4 1 + fld (b2n l.overrun) 3 1 + fld (b2n l.skewFault) 2 1
      + fld (b2n l.skewWarn) 1 1 + b2n l.late
  | 0x018 => regWord l.frame 0
  | 0x01C => regWord l.frame 1
  | 0x020 => regWord l.fstart 0
  | 0x024 => regWord l.fstart 1
  | 0x028 => regWord l.nrun 0
  | 0x02C => regWord l.nrun 1
  | 0x030 => l.skewLast.toNat
  | 0x034 => l.skewPeak.toNat
  | 0x038 => l.cycA.toNat
  | 0x03C => l.cycB.toNat
  | 0x040 => l.cycPeak.toNat
  | 0x044 => l.emargin.toNat
  | 0x048 => l.vmargin.toNat
  | 0x04C => l.lateCnt.toNat
  | _ => 0

/-- RDL_STATUS (R126). -/
def rdlStatus (s : State) : Nat :=
  let r := s.rdl
  fld (b2n r.injDone) 9 1 + fld (b2n r.injPass) 8 1 + fld (b2n r.cmpFault) 7 1 + fld (b2n r.halfDis) 6 1 + fld (b2n r.decoyFail) 5 1
    + fld (b2n r.entryRepeat) 4 1 + fld (b2n r.injFail) 3 1 + fld (b2n r.entry) 2 1 + fld (b2n r.mismatch) 1 1 + b2n r.active

/-- The RDL page (R126). -/
def rdlReg (s : State) (off : Nat) : Nat :=
  let r := s.rdl
  match off with
  | 0x000 => rdlStatus s
  | 0x004 => r.decoyInt.toNat
  | 0x008 => r.decoyCnt.toNat
  | 0x00C => r.injResult.toNat
  | 0x010 => r.mmCnt.toNat
  | 0x014 => r.eeCnt.toNat
  | 0x018 => r.lastMm.toNat
  | 0x01C => r.lastFrame.toNat
  | 0x020 => regWord r.lastDiff 0
  | 0x024 => regWord r.lastDiff 1
  | 0x028 => regWord r.lastDiff 2
  | 0x02C => fld r.qPeak.toNat 16 7 + r.qDepth.toNat
  | 0x030 => r.waitCnt.toNat
  | 0x034 => r.devA.toNat
  | 0x038 => r.devB.toNat
  | _ => 0

/-- The FUS page (R394): fuse-derived fields read their reset values until step 3 has ended. -/
def fusReg (s : State) (off : Nat) : Nat :=
  let f := s.fus
  firstReg [
    file off 0x000 1 (fun _ => fusStatusWord s + fld (b2n (fuseBusy s)) 6 1),
    file off 0x004 1 (fun _ => f.regState.zipIdx.foldl (fun n x => n + x.1 * 16 ^ x.2) 0),
    file off 0x008 1 (fun _ => fusWeakWord s),
    file off 0x00C 1 (fun _ => f.lock.toNat),
    file off 0x010 1 (fun _ => fld (f.usable.toNat / 4) 12 4 + fld f.orev.toNat 8 4 + fld f.usable.toNat 4 2 + f.vrev.toNat),
    file off 0x014 1 (fun _ => f.dbgpol.toNat),
    file off 0x018 1 (fun _ => regWord f.serial 1),
    file off 0x01C 1 (fun _ => regWord f.serial 0),
    file off 0x020 1 (fun _ => (if f.sensed then fld Config.romLib.toNat 16 16 else 0) + f.libEff.toNat),
    file off 0x024 1 (fun _ => f.progCnt.toNat),
    file off 0x028 1 (fun _ => fld f.lastStatus.toNat 16 16 + f.lastWord.toNat),
    file off 0x02C 1 (fun _ => fld f.certLen 0 12),
    file off 0x800 512 (fun w => (f.words.getD w 0).toNat)]

/-- The LCY page (R411). -/
def lcyReg (s : State) (off : Nat) : Nat := match off with
  | 0x000 => (lcyStateWord s).toNat
  | 0x004 => if s.lcy.dbg == .auth then fld (secondsLeft s s.lcy.authEnd) 0 17 else 0
  | 0x008 => match s.lcy.chal with
    | some (_, t) => if s.tb.toNat < t.toNat then fld 1 6 1 + fld (secondsLeft s t) 0 6 else 0
    | none => 0
  | 0x00C => s.lcy.haltCnt.toNat
  | 0x010 => s.lcy.forced.length
  | 0x014 => s.lcy.authFail.toNat
  | 0x018 => fld (b2n s.lcy.refused) 8 1 + s.lcy.ir.toNat
  | _ => 0

/-- The EVT page (R439). -/
def evtReg (s : State) (off : Nat) : Nat :=
  let held := fun i => s.evt.held.getD i 0
  firstReg [
    file off 0x000 64 (fun i => (List.range 4).foldl (fun n k => n + vectorOf s (4 * i + k) * 2 ^ (8 * k)) 0),
    file off 0x100 128 (fun i => fld (min (held (2 * i + 1)) 0xFFFF) 16 16 + min (held (2 * i)) 0xFFFF),
    file off 0x300 8 (fun j => (idxs 32 (fun k => 0xFFFF < held (32 * j + k))).foldl (fun n k => n + 2 ^ k) 0),
    file off 0x320 1 (fun _ => s.evt.eseq.toNat),
    file off 0x400 256 (fun i => (s.evt.cnt.getD i 0).toNat)]

/-- The MSI-X table and the pending bit array (R440). -/
def msixReg (s : State) (off : Nat) : Nat :=
  let m := s.host.msix.getD (off / 16) MsixSt.reset
  if 0x200 ≤ off then 0
  else match off % 16 with
    | 0 => regWord m.addr 0
    | 4 => regWord m.addr 1
    | 8 => m.data.toNat
    | _ => m.ctrl.toNat

/-- What an aligned 32-bit read of BAR0 returns (R313, R432). A page that crosses to the system bus returns all ones over a stalled
crossing, and so does every page until the host island answers (R18, R432, R437). -/
def readReg (s : State) (address : Nat) : BitVec 32 :=
  let off := address % 0x1000
  let page := address / 0x1000
  if !s.sys.answers || (s.sys.hostStalled && !(page == 0 || page == 2 || page == 14 || page == 15)) then 0xFFFFFFFF
  else BitVec.ofNat 32 (match page with
    | 1 => sysReg s off
    | 2 => hstReg s off
    | 3 => ttuReg s off
    | 4 => fldReg s off
    | 5 => smuReg s off
    | 6 => netReg s off
    | 7 => kslReg s off
    | 8 => pltReg s off
    | 9 => lanReg s off
    | 10 => rdlReg s off
    | 11 => fusReg s off
    | 12 => lcyReg s off
    | 13 => evtReg s off
    | 14 => msixReg s off
    | 15 => if off == 0 then s.host.pba.toNat else 0
    | _ => 0)

/-- What a read of `size` bytes returns: one to three bytes within one 32-bit word are that word's enabled bytes; a longer read is one 32-bit read
for each word, in ascending order (R432). Reading changes no register. -/
def readSpan (s : State) (address size : Nat) : Bytes :=
  let first := address / 4
  let words := (address + size - 1) / 4 + 1 - first
  (((List.range words).flatMap (fun i => bytesOf (readReg s (4 * (first + i))) 4)).drop (address % 4)).take size

/-- SYS_PWR.REQ (R436). -/
def writePwr (v : BitVec 32) (s : State) : State :=
  if s.lan.inRun then sysErr s 3
  else match v.toNat % 4 with
    | 3 => standbyRequestEffect s
    | 1 => holdRequestEffect s
    | _ => sysErr s 1

/-- SYS_RESET (R437). -/
def writeReset (v : BitVec 32) (s : State) : State :=
  if s.lan.inRun then sysErr s 3
  else if (v >>> 16).toNat != 0xC3A5 then sysErr s 2
  else if v.getLsbD 0 then modrstEffect s else s

/-- The SYS page: in RUN every write is ignored and recorded (R435), but one to SYS_IDREV, which sets no error (R4). -/
def writeSys (off : Nat) (v : BitVec 32) (s : State) : State :=
  if off == 0 then s
  else if s.lan.inRun then sysErr s 3
  else match off with
    | 0x010 => writePwr v s
    | 0x014 => writeReset v s
    | 0x018 => { s with sys := { s.sys with err := s.sys.err &&& ~~~(v.setWidth 5) } }
    | 0x020 => { s with sys := { s.sys with wakeMask := v } }
    | _ => s

/-- HST_CTRL: the rings whose bits change, in order, then PI_EN (R316, R332). -/
def writeHstCtrl (v : BitVec 32) (s : State) : State :=
  let t := (List.range 7).foldl (fun t r => if v.getLsbD r then ringEnableEffect r t else ringDisableEffect r t) s
  piEnEffect (v.getLsbD 7) t

/-- The HST page (R313, R343, R344). -/
def writeHst (off : Nat) (v : BitVec 32) (s : State) : State := match off with
  | 0x000 => writeHstCtrl v s
  | 0x008 => { s with host := { s.host with err := s.host.err &&& ~~~(v.setWidth 7) } }
  | _ => ringSetupWriteEffect off v s

/-- The TTU page (R358, R360). -/
def writeTtu (off : Nat) (v : BitVec 32) (s : State) : State :=
  if s.lan.inRun then ttuErr s 4
  else if 0x100 ≤ off && off < 0x200 then
    let g := (off - 0x100) / 16
    if off % 16 == 0 then gtCfgWrite g v s else if off % 16 == 4 then gtBufWrite g v s else s
  else if 0x200 ≤ off && off < 0x400 then
    let c := (off - 0x200) / 16
    if off % 16 == 0 then ccCfgWrite c v s
    else if off % 16 == 4 then cmpLoWriteEffect c v s
    else if off % 16 == 8 then { s with ttu := { s.ttu with ccs := modAt s.ttu.ccs c (fun x => { x with hi := v }) } }
    else s
  else match off with
    | 0x008 => { s with ttu := { s.ttu with err := s.ttu.err &&& ~~~(v.setWidth 5) } }
    | 0x00C => timerEnableEffect v s
    | 0x010 => { s with ttu := { s.ttu with freeze := v.setWidth 16 } }
    | 0x014 => timerLinkEffect v s
    | 0x018 => { s with ttu := { s.ttu with ccEn := v } }
    | _ => s

/-- RDL_STATUS: ENTRY and MISMATCH are cleared by writing 1 (R126). -/
def writeRdl (off : Nat) (v : BitVec 32) (s : State) : State :=
  if off != 0 then s
  else { s with rdl := { s.rdl with entry := s.rdl.entry && !v.getLsbD 2, mismatch := s.rdl.mismatch && !v.getLsbD 1 } }

/-- EVT_MAP0 to EVT_MAP63, refused in RUN; the rest of the page is read-only (R435, R439). -/
def writeEvt (off : Nat) (v : BitVec 32) (s : State) : State :=
  if 0x100 ≤ off then s
  else if s.lan.inRun then sysErr s 3
  else
    let m := (List.range 4).foldl (fun l k => l.set (off / 4 * 4 + k) (BitVec.ofNat 5 (nbits v.toNat (8 * k + 4) (8 * k)))) s.evt.map
    { s with evt := { s.evt with map := m } }

/-- The MSI-X table: a vector that is unmasked sends its pending message (R314, R440). -/
def writeMsix (off : Nat) (v : BitVec 32) (s : State) : State :=
  let k := off / 16
  let set := fun (g : MsixSt → MsixSt) => { s with host := { s.host with msix := modAt s.host.msix k g } }
  if 0x200 ≤ off then s
  else match off % 16 with
    | 0 => set (fun m => { m with addr := setHalf m.addr false v })
    | 4 => set (fun m => { m with addr := setHalf m.addr true v })
    | 8 => set (fun m => { m with data := v })
    | _ => sendPending (set (fun m => { m with ctrl := v &&& 1 })) k

/-- A write of 32 or 64 aligned bits to the MSI-X table (R432, R440). -/
def writeMsixWide (off size : Nat) (v : BitVec 64) (s : State) : State :=
  if size == 4 && off % 4 == 0 then writeMsix off (v.setWidth 32) s
  else if size == 8 && off % 8 == 0 then writeMsix (off + 4) ((v >>> 32).setWidth 32) (writeMsix off (v.setWidth 32) s)
  else s

/-- The pages of the host island: doorbells, HST, the MSI-X table and the pending bit array. -/
def islandPage (page : Nat) : Bool := page == 0 || page == 2 || 14 ≤ page

/-- Is the offset in a register file of words of 4 bytes at `base`, at an index from `present` up to `all`? -/
def beyond (off base present all : Nat) : Bool := base + 4 * present ≤ off && off < base + 4 * all

/-- A register of a bank, a channel of it or a test-pulse source that the variant lacks (R7, R172, R204). -/
def absentFld (v off : Nat) : Bool :=
  beyond off 0x040 (nSrcOf v) 24 || beyond off 0x0A0 (nSrcOf v) 24
    || beyond off 0x430 (nBankOf v) 6 || beyond off 0x448 (nBankOf v) 6 || beyond off 0x460 (nBankOf v) 6
    || ([0x100, 0x280, 0x500, 0x680] : List Nat).any (fun b => beyond off b (nChanOf v) 96)
    || ([0x000, 0x00C, 0x018, 0x400, 0x40C, 0x418, 0x424] : List Nat).any (fun b => beyond off b ((nChanOf v + 31) / 32) 3)

/-- A register page, or part of one, of an absent unit, bank or port: accesses set no error (R7). -/
def absentReg (v page off : Nat) : Bool :=
  (page == 4 && absentFld v off) || (page == 5 && !hasSmuOf v) || (page == 6 && v == 3 && off / 4 == 0x034 / 4)

/-- A register whose rule says that writes to it set no error: SYS_IDREV, the read-only pages, all of RDL but RDL_STATUS, what an absent unit lacks,
and reserved offsets (R4, R7, R52, R126, R172, R204, R228, R255, R269, R289, R318, R360, R394, R411, R432, R435, R439). -/
def quietReg (v page off : Nat) : Bool :=
  (4 ≤ page && page ≤ 9) || page == 11 || page == 12 || 15 ≤ page || absentReg v page off
    || (page == 0 && 0x1C ≤ off) || (page == 1 && (off < 4 || 0x30 ≤ off)) || (page == 2 && ((0x34 ≤ off && off < 0x40) || 0xB0 ≤ off))
    || (page == 3 && ((0x24 ≤ off && off < 0x100) || 0x400 ≤ off)) || (page == 10 && 4 ≤ off)
    || (page == 13 && ((0x324 ≤ off && off < 0x400) || 0x800 ≤ off))

/-- A write that R435 refuses in RUN: to the SYS page but for SYS_IDREV (R4), or to EVT_MAP. -/
def runRefused (s : State) (page off : Nat) : Bool :=
  s.lan.inRun && ((page == 1 && 4 ≤ off) || (page == 13 && off < 0x100))

/-- A write to BAR0 by its register's access codes (R13, R313, R432). Other than 32 aligned bits, it is ignored and recorded, except where a rule
lets a write set no error; in RUN one to SYS or EVT_MAP is recorded as refused as well (R435). The MSI-X table and the pending bit array follow
PCI Express, with 64-bit accesses. Configuration space lies beyond BAR0's 64 KiB (DESIGN CHOICE, log 157). -/
def registerWriteEffect (address size : Nat) (value : BitVec 64) (s : State) : State :=
  let off := address % 0x1000
  let page := address / 0x1000
  let v : BitVec 32 := value.setWidth 32
  if page == 16 then pciConfigWrite off size value s
  else if page == 14 then writeMsixWide off size value s
  else if size != 4 || off % 4 != 0 then
    let t := if runRefused s page off then sysErr s 3 else s
    if quietReg s.sys.variant page off then t else sysErr t 4
  else if absentReg s.sys.variant page off then s
  else match page with
    | 0 => if off < 0x1C then doorbellEffect (off / 4) v s else s
    | 1 => writeSys off v s
    | 2 => writeHst off v s
    | 3 => writeTtu off v s
    | 10 => writeRdl off v s
    | 13 => writeEvt off v s
    | _ => s

/-- REGISTER_WRITE. -/
def execRegisterWrite (address size : Nat) (v : BitVec 64) (s : State) : Host.Outcome State Fault Refusal :=
  if islandPage (address / 0x1000) then finishHost s (registerWriteEffect address size v s)
  else finishBus s address (registerWriteEffect address size v s)

end Sys2Proof.Machine
end

