-- ==== Sys2Proof/Machine/Dispatch.lean ====
section
/-! DEFINITION. One arm per command: the direct call of its meaning. -/
namespace Sys2Proof.Machine

/-- The effect of a command on everything but the queue. -/
def exec (i : Instr) (s : State) : Host.Outcome State Fault Refusal :=
  match i with
  | .powerOnReset => Sys2Proof.Machine.execPowerOnReset s
  | .brownOut => Sys2Proof.Machine.execBrownOut s
  | .resetnLow => Sys2Proof.Machine.execResetnLow s
  | .supplyRetry => Sys2Proof.Machine.execSupplyRetry s
  | .startupStepDone o => Sys2Proof.Machine.execStartupStepDone o s
  | .startupTimeout => Sys2Proof.Machine.execStartupTimeout s
  | .bankQualified b => Sys2Proof.Machine.execBankQualified b s
  | .singleSwitchTestDone ch step midA pinA midB pinB => Sys2Proof.Machine.execSingleSwitchTestDone ch step midA pinA midB pinB s
  | .sswTestDue ch => Sys2Proof.Machine.execSswTestDue ch s
  | .sswOverdue ch => Sys2Proof.Machine.execSswOverdue ch s
  | .hostIslandReset k => Sys2Proof.Machine.execHostIslandReset k s
  | .hostDmaStop k => Sys2Proof.Machine.execHostDmaStop k s
  | .hostDmaResume => Sys2Proof.Machine.execHostDmaResume s
  | .frameStart o => Sys2Proof.Machine.execFrameStart o s
  | .blLatchMiss l => Sys2Proof.Machine.execBlLatchMiss l s
  | .frameEvaluation l o => Sys2Proof.Machine.execFrameEvaluation l o s
  | .checkpointWaitEnd l => Sys2Proof.Machine.execCheckpointWaitEnd l s
  | .signatureArrival h l fate err kErr => Sys2Proof.Machine.execSignatureArrival h l fate err kErr s
  | .frameOverrun l => Sys2Proof.Machine.execFrameOverrun l s
  | .commitLate h ctx => Sys2Proof.Machine.execCommitLate h ctx s
  | .commitInstant => Sys2Proof.Machine.execCommitInstant s
  | .diagDecision bistA bistB reps => Sys2Proof.Machine.execDiagDecision bistA bistB reps s
  | .laneMemoryError l => Sys2Proof.Machine.execLaneMemoryError l s
  | .fallowExpired ctx => Sys2Proof.Machine.execFallowExpired ctx s
  | .crossingStall c => Sys2Proof.Machine.execCrossingStall c s
  | .clockFault c => Sys2Proof.Machine.execClockFault c s
  | .bMark interval countB => Sys2Proof.Machine.execBMark interval countB s
  | .blPacketSend l => Sys2Proof.Machine.execBlPacketSend l s
  | .blDownlinkRx l p => Sys2Proof.Machine.execBlDownlinkRx l p s
  | .blUplinkRx l p => Sys2Proof.Machine.execBlUplinkRx l p s
  | .blSilenceSequencer l => Sys2Proof.Machine.execBlSilenceSequencer l s
  | .blFault l => Sys2Proof.Machine.execBlFault l s
  | .blTraining l answer => Sys2Proof.Machine.execBlTraining l answer s
  | .blTrainRetry => Sys2Proof.Machine.execBlTrainRetry s
  | .inputFilterAccept l ch samples => Sys2Proof.Machine.execInputFilterAccept l ch samples s
  | .bandRunFault l ch samples => Sys2Proof.Machine.execBandRunFault l ch samples s
  | .inputDisagree ch => Sys2Proof.Machine.execInputDisagree ch s
  | .inputFaultClear c => Sys2Proof.Machine.execInputFaultClear c s
  | .testPulseSlot srcs ins => Sys2Proof.Machine.execTestPulseSlot srcs ins s
  | .codeCauseFinal l ch => Sys2Proof.Machine.execCodeCauseFinal l ch s
  | .sourceOverload iIx => Sys2Proof.Machine.execSourceOverload iIx s
  | .sourceRestart iIx => Sys2Proof.Machine.execSourceRestart iIx s
  | .sourceCheck iIx a b => Sys2Proof.Machine.execSourceCheck iIx a b s
  | .readbackFault l ch => Sys2Proof.Machine.execReadbackFault l ch s
  | .midpointFault l ch => Sys2Proof.Machine.execMidpointFault l ch s
  | .gangFault ch => Sys2Proof.Machine.execGangFault ch s
  | .shortCircuit l ch => Sys2Proof.Machine.execShortCircuit l ch s
  | .thermalShutdown l ch => Sys2Proof.Machine.execThermalShutdown l ch s
  | .thermalCooled l ch => Sys2Proof.Machine.execThermalCooled l ch s
  | .outputFaultClear ch => Sys2Proof.Machine.execOutputFaultClear ch s
  | .offPulse l ch => Sys2Proof.Machine.execOffPulse l ch s
  | .offPulseJudge l ch pinOff => Sys2Proof.Machine.execOffPulseJudge l ch pinOff s
  | .offPulseRepeat l ch => Sys2Proof.Machine.execOffPulseRepeat l ch s
  | .rideThroughExpiry l b => Sys2Proof.Machine.execRideThroughExpiry l b s
  | .bankOvercurrent l b => Sys2Proof.Machine.execBankOvercurrent l b s
  | .bankMonitorFault b => Sys2Proof.Machine.execBankMonitorFault b s
  | .bankFeedRecovery b => Sys2Proof.Machine.execBankFeedRecovery b s
  | .encoderEdge ax port x inA inB => Sys2Proof.Machine.execEncoderEdge ax port x inA inB s
  | .encoderWireFault l ax port => Sys2Proof.Machine.execEncoderWireFault l ax port s
  | .xcheckFault ax => Sys2Proof.Machine.execXcheckFault ax s
  | .axisFaultClear ax c => Sys2Proof.Machine.execAxisFaultClear ax c s
  | .kslFrameRx c f => Sys2Proof.Machine.execKslFrameRx c f s
  | .connTimeout iIx => Sys2Proof.Machine.execConnTimeout iIx s
  | .connCheckFault iIx => Sys2Proof.Machine.execConnCheckFault iIx s
  | .syncRequest iIx => Sys2Proof.Machine.execSyncRequest iIx s
  | .takeover fid => Sys2Proof.Machine.execTakeover fid s
  | .reclaim fid => Sys2Proof.Machine.execReclaim fid s
  | .holdExpired fid => Sys2Proof.Machine.execHoldExpired fid s
  | .leaseLate fid => Sys2Proof.Machine.execLeaseLate fid s
  | .join node m => Sys2Proof.Machine.execJoin node m s
  | .digestLo node m => Sys2Proof.Machine.execDigestLo node m s
  | .digestHi node m => Sys2Proof.Machine.execDigestHi node m s
  | .accept node m => Sys2Proof.Machine.execAccept node m s
  | .planDone timeUs kErrs => Sys2Proof.Machine.execPlanDone timeUs kErrs s
  | .planJoin => Sys2Proof.Machine.execPlanJoin s
  | .rejoinStart => Sys2Proof.Machine.execRejoinStart s
  | .modeAnn node m => Sys2Proof.Machine.execModeAnn node m s
  | .modeCancel node m => Sys2Proof.Machine.execModeCancel node m s
  | .modeState node m => Sys2Proof.Machine.execModeState node m s
  | .modeApply => Sys2Proof.Machine.execModeApply s
  | .modeWindowEnd => Sys2Proof.Machine.execModeWindowEnd s
  | .ptpMessageRx m => Sys2Proof.Machine.execPtpMessageRx m s
  | .syncLost => Sys2Proof.Machine.execSyncLost s
  | .linkChange port up speed => Sys2Proof.Machine.execLinkChange port up speed s
  | .prpLanSilent lan => Sys2Proof.Machine.execPrpLanSilent lan s
  | .prpSupervision => Sys2Proof.Machine.execPrpSupervision s
  | .arpRequest port targetIp senderMac senderIp => Sys2Proof.Machine.execArpRequest port targetIp senderMac senderIp s
  | .netFrameDrop port why => Sys2Proof.Machine.execNetFrameDrop port why s
  | .doorbell r v => Sys2Proof.Machine.execDoorbell r v s
  | .commandFetch ring entry => Sys2Proof.Machine.execCommandFetch ring entry s
  | .completionWrite => Sys2Proof.Machine.execCompletionWrite s
  | .nop c => Sys2Proof.Machine.execNop c s
  | .loadCfg c pass1 pass2 => Sys2Proof.Machine.execLoadCfg c pass1 pass2 s
  | .verifyCfg c => Sys2Proof.Machine.execVerifyCfg c s
  | .activateCfg c => Sys2Proof.Machine.execActivateCfg c s
  | .readPlan c => Sys2Proof.Machine.execReadPlan c s
  | .acceptPlan c buf => Sys2Proof.Machine.execAcceptPlan c buf s
  | .modeReq c => Sys2Proof.Machine.execModeReq c s
  | .start c => Sys2Proof.Machine.execStart c s
  | .toHold c => Sys2Proof.Machine.execToHold c s
  | .readDiag c => Sys2Proof.Machine.execReadDiag c s
  | .clearStd c => Sys2Proof.Machine.execClearStd c s
  | .readLog c => Sys2Proof.Machine.execReadLog c s
  | .attest c => Sys2Proof.Machine.execAttest c s
  | .fuseProgProgram c buf vddStop badBits => Sys2Proof.Machine.execFuseProgProgram c buf vddStop badBits s
  | .fuseProgRepair c vddStop badBits => Sys2Proof.Machine.execFuseProgRepair c vddStop badBits s
  | .fuseProgKey c buf vddStop badBits => Sys2Proof.Machine.execFuseProgKey c buf vddStop badBits s
  | .fuseProgMarker c buf vddStop badBits => Sys2Proof.Machine.execFuseProgMarker c buf vddStop badBits s
  | .fuseLock c vddStop badBits => Sys2Proof.Machine.execFuseLock c vddStop badBits s
  | .lcyAdvance c buf vddStop badBits => Sys2Proof.Machine.execLcyAdvance c buf vddStop badBits s
  | .challenge c => Sys2Proof.Machine.execChallenge c s
  | .response c buf => Sys2Proof.Machine.execResponse c buf s
  | .close c => Sys2Proof.Machine.execClose c s
  | .tunnelCfg c => Sys2Proof.Machine.execTunnelCfg c s
  | .smuRead c => Sys2Proof.Machine.execSmuRead c s
  | .abort c => Sys2Proof.Machine.execAbort c s
  | .badOpcode c => Sys2Proof.Machine.execBadOpcode c s
  | .request entry => Sys2Proof.Machine.execRequest entry s
  | .stdout entry => Sys2Proof.Machine.execStdout entry s
  | .tunrxEntry entry => Sys2Proof.Machine.execTunrxEntry entry s
  | .evtSummaryWrite => Sys2Proof.Machine.execEvtSummaryWrite s
  | .ringEnable r => Sys2Proof.Machine.execRingEnable r s
  | .ringDisable r => Sys2Proof.Machine.execRingDisable r s
  | .piEn v => Sys2Proof.Machine.execPiEn v s
  | .ringSetupWrite off v => Sys2Proof.Machine.execRingSetupWrite off v s
  | .modrst => Sys2Proof.Machine.execModrst s
  | .standbyRequest => Sys2Proof.Machine.execStandbyRequest s
  | .holdRequest => Sys2Proof.Machine.execHoldRequest s
  | .standbyEntryEnd => Sys2Proof.Machine.execStandbyEntryEnd s
  | .wakeEnd => Sys2Proof.Machine.execWakeEnd s
  | .timerEnable v => Sys2Proof.Machine.execTimerEnable v s
  | .timerLink v => Sys2Proof.Machine.execTimerLink v s
  | .cmpLoWrite c v => Sys2Proof.Machine.execCmpLoWrite c v s
  | .gtEvent g => Sys2Proof.Machine.execGtEvent g s
  | .ccFire c => Sys2Proof.Machine.execCcFire c s
  | .registerWrite off size v => Sys2Proof.Machine.execRegisterWrite off size v s
  | .tapReset => Sys2Proof.Machine.execTapReset s
  | .extest cells => Sys2Proof.Machine.execExtest cells s
  | .idcode => Sys2Proof.Machine.execIdcode s
  | .samplePreload cells => Sys2Proof.Machine.execSamplePreload cells s
  | .dbgStatus => Sys2Proof.Machine.execDbgStatus s
  | .dbgMem lane addr => Sys2Proof.Machine.execDbgMem lane addr s
  | .dbgForce enable value target => Sys2Proof.Machine.execDbgForce enable value target s
  | .dbgHalt => Sys2Proof.Machine.execDbgHalt s
  | .dbgResume => Sys2Proof.Machine.execDbgResume s
  | .dbgStep => Sys2Proof.Machine.execDbgStep s
  | .bypass code => Sys2Proof.Machine.execBypass code s
  | .authSessionEnd => Sys2Proof.Machine.execAuthSessionEnd s
  | .challengeExpiry => Sys2Proof.Machine.execChallengeExpiry s
  | .isolatedConverterFailure l => Sys2Proof.Machine.execIsolatedConverterFailure l s
  | .temperatureOutOfRange t => Sys2Proof.Machine.execTemperatureOutOfRange t s
  | .deferredOffPulse l ch => Sys2Proof.Machine.execDeferredOffPulse l ch s
  | .syncInterval => Sys2Proof.Machine.execSyncInterval s
  | .lineForwarding port f => Sys2Proof.Machine.execLineForwarding port f s
  | .macAgeing mac => Sys2Proof.Machine.execMacAgeing mac s
  | .reqUnassignedType entry => Sys2Proof.Machine.execReqUnassignedType entry s

end Sys2Proof.Machine
end

