-- ==== Sys2Proof/Safety.lean ====
section
/-! DEFINITION. What the statements speak of: a command that completes, which parts of the state a command touches, which host command runs, and the
properties that every step keeps. -/
namespace Sys2Proof.Machine

/-- The command answers a next state, and p holds of it. -/
def Completes (c : Instr) (s : State) (p : State → Prop) : Prop := ∃ t, exec c s = .next t ∧ p t

/-- The parts of the state. `mail` is what the posted writes move: the rings, the posted writes and the pending bits of vectors; `host` is the rest of
the host island. -/
inductive Part where
  | queue
  | time
  | free
  | sys
  | evt
  | mail
  | host
  | ttu
  | lan
  | rdl
  | fns
  | fld
  | smu
  | ksl
  | cuts
  | mode
  | net
  | plt
  | fus
  | lcy
  | nv
  | cfg
deriving DecidableEq, Repr

/-- The host island apart from what posted writes move. -/
def islandCore (h : HostSt) : HostSt := { h with posted := [], rings := [], pba := 0 }

/-- A part is the same in two states. -/
def samePart (s t : State) : Part → Prop
  | .queue => t.pending = s.pending
  | .time => t.tb = s.tb ∧ t.clkB = s.clkB
  | .free => t.freeCnt = s.freeCnt
  | .sys => t.sys = s.sys
  | .evt => t.evt = s.evt
  | .mail => t.host.posted = s.host.posted ∧ t.host.rings = s.host.rings ∧ t.host.pba = s.host.pba
  | .host => islandCore t.host = islandCore s.host
  | .ttu => t.ttu = s.ttu
  | .lan => t.lan = s.lan
  | .rdl => t.rdl = s.rdl
  | .fns => t.fns = s.fns
  | .fld => t.fld = s.fld
  | .smu => t.smu = s.smu
  | .ksl => t.ksl = s.ksl
  | .cuts => t.cuts = s.cuts
  | .mode => t.mode = s.mode
  | .net => t.net = s.net
  | .plt => t.plt = s.plt
  | .fus => t.fus = s.fus
  | .lcy => t.lcy = s.lcy
  | .nv => t.nv = s.nv
  | .cfg => t.cfg = s.cfg

/-- Every part outside the list is the same. -/
def onlyTouches (l : List Part) (s t : State) : Prop := ∀ p, p ∈ l ∨ samePart s t p

/-- Every command that leaves s for a next state touches only the listed parts. -/
def Frame (l : List Part) (c : Instr) : Prop := ∀ s t, exec c s = .next t → onlyTouches l s t

/-- Every event that a command has raised has taken its place: the EVT ring or its held counter (R329, R342, R443). -/
def eventsPlaced (s : State) : Prop := s.evt.raised = []

/-- The count of events of a source has gone up by one (R443). -/
def counted (src : Nat) (s t : State) : Prop := t.evt.cnt.getD src 0 = satAdd (s.evt.cnt.getD src 0) 1

/-- Events are placed and the counters of all sources exist: what `counted` needs of the state before. -/
def evtReady (s : State) : Prop := eventsPlaced s ∧ s.evt.cnt.length = 256

/-- The rows of the host's commands: which outstanding command each names, and its buffer (R319, R323). -/
def hostRow : Instr → Option (CmdRef × (Outst → Bool) × Bytes)
  | .nop c => some (c, fun o => o.op == 0, [])
  | .loadCfg c _ _ => some (c, fun o => o.op == 1, [])
  | .verifyCfg c => some (c, fun o => o.op == 2, [])
  | .activateCfg c => some (c, fun o => o.op == 3, [])
  | .readPlan c => some (c, fun o => o.op == 4, [])
  | .acceptPlan c b => some (c, fun o => o.op == 5, b)
  | .modeReq c => some (c, fun o => o.op == 6, [])
  | .start c => some (c, fun o => o.op == 7, [])
  | .toHold c => some (c, fun o => o.op == 8, [])
  | .readDiag c => some (c, fun o => o.op == 9, [])
  | .clearStd c => some (c, fun o => o.op == 0x0A, [])
  | .readLog c => some (c, fun o => o.op == 0x0B, [])
  | .attest c => some (c, fun o => o.op == 0x0C, [])
  | .fuseProgProgram c b _ _ => some (c, fuseRow 0, b)
  | .fuseProgRepair c _ _ => some (c, fuseRow 1, [])
  | .fuseProgKey c b _ _ => some (c, fuseRow 2, b)
  | .fuseProgMarker c b _ _ => some (c, fuseRow 3, b)
  | .fuseLock c _ _ => some (c, fun o => o.op == 0x0E, [])
  | .lcyAdvance c b _ _ => some (c, fun o => o.op == 0x0F, b)
  | .challenge c => some (c, authRow 0, [])
  | .response c b => some (c, authRow 1, b)
  | .close c => some (c, authRow 2, [])
  | .tunnelCfg c => some (c, fun o => o.op == 0x11, [])
  | .smuRead c => some (c, fun o => o.op == 0x12, [])
  | .abort c => some (c, fun o => o.op == 0x13, [])
  | .badOpcode c => some (c, fun o => !opcodeKnown o.op, [])
  | _ => none

/-- The row i of a host command names the outstanding command o, it is its turn, no rule of R321 refuses it, and no event waits for its place. -/
def Starts (i : Instr) (s : State) (o : Outst) : Prop :=
  awake s = true ∧ eventsPlaced s ∧ ∃ c p buf, hostRow i = some (c, p, buf) ∧ cmdAt s c p = some o ∧ refusal s o buf = none

/-- The completion of o with this status, ITEM class and number, output length and RESULT joins those that wait; it counts as committed with OK and
with the outcomes of ABORT (R323, R341). -/
def endsWith (s t : State) (o : Outst) (status : Nat) (rej : Nat × Nat) (outlen : Nat) (result : Bytes) : Prop :=
  t.host.done = s.host.done ++ [⟨o.ring, o.tag, completionBytes o status rej outlen result, status == 0 || status == 2 || status == 3⟩]

/-- The ring registers of the host island: seven rings, each of a permitted size (R315, R343). -/
def ringSizesOk (s : State) : Prop := s.host.rings.length = 7 ∧ ∀ r, r < 7 → 16 ≤ (ringAt s r).size ∧ (ringAt s r).size ≤ ringMax r

/-- Credits of every enabled ring but CPL: never more entries than the ring has places (R317, R318, R342). -/
def creditsOk (s : State) : Prop := ∀ r, r < 7 → r ≠ 2 → ringOn s r = true → ringFill s r ≤ (ringAt s r).size

/-- The ring invariant. -/
def ringsOk (s : State) : Prop := ringSizesOk s ∧ creditsOk s

/-- The host writes a register that lies across the system bus: the host island answers and the crossing is not stalled (R18, R369, R432). -/
def busReach (s : State) : Prop := awake s = true ∧ hostReach s = true ∧ s.sys.hostStalled = false

/-- The host writes a register of the host island (R369). -/
def islandReach (s : State) : Prop := awake s = true ∧ hostReach s = true

/-- Every gate of every switch is open. -/
def allGatesOpen (t : State) : Prop := ∀ x ∈ t.fld.outs, x.swA.gate = false ∧ x.swB.gate = false

/-- A module reset with a cause bit of SYS_RSTCAUSE has been taken: step 1 runs, what needs no power is kept, every output is off (R361, R362, R399,
R435). -/
def resetTaken (bit : Nat) (s t : State) : Prop :=
  t.sys.running = 1 ∧ t.sys.step = 1 ∧ t.sys.cause = 0 ∧ t.sys.halt = false ∧ t.sys.convA = false ∧ t.sys.convB = false ∧ t.lan.inRun = false ∧
  t.sys.rstcause.getLsbD bit = true ∧ (awake s = true → t.sys.rstcause = BitVec.ofNat 4 (2 ^ bit)) ∧
  t.lcy.dbg = .closed ∧ t.tb = 0 ∧ t.cfg = none ∧ allGatesOpen t ∧ t.nv = s.nv ∧ t.pending = s.pending

/-- The sequence of start-up is at step k and may go on (R363, R367, R368). -/
def atStep (s : State) (k : Nat) : Prop :=
  s.sys.powered = true ∧ s.sys.supplyHold = false ∧ s.sys.halt = false ∧ s.sys.hedgeStalled = false ∧ s.sys.running = k

/-- The sequence has gone on to step k (R363). -/
def wentTo (k : Nat) (t : State) : Prop := t.sys.running = k ∧ t.sys.step = k ∧ t.sys.halt = false

/-- The module is in a halt with this cause: no step runs, no frames, in HOLD (R367, R368). -/
def haltedFor (cause : Nat) (t : State) : Prop :=
  t.sys.halt = true ∧ t.sys.cause = cause ∧ t.sys.running = 0 ∧ t.lan.timerOn = false ∧ t.sys.pwr = 1

/-- The frame that is evaluated, latched or committed next has its latched image. -/
def hasImage (s : State) (n : Nat) : Prop := (imgOf s n).isSome = true

/-- A module-wide fault has acted at once (R124, R130): the module is not in RUN, both lanes send ALLOFF, every gate state that a function has
released is open, and the fault is on record. -/
def faultActed (cause : Nat) (t : State) : Prop :=
  t.lan.inRun = false ∧ t.lan.allOff = true ∧ t.fld.linkA.allOff = true ∧ t.fld.linkB.allOff = true ∧ t.lan.modFault = some cause

/-- Of a fault that strikes RUN: the module is in HOLD with FSTATE 0b11, no function keeps a gate closed, and no spade is held (R130). -/
def leftRun (t : State) : Prop :=
  t.lan.fstate = 3 ∧ t.sys.pwr = 1 ∧ (∀ f ∈ t.fns, ∀ g ∈ f.gates, g.2 = (false, false)) ∧ (∀ x ∈ t.cuts.cuts, x.holder = false)

/-- The words that lane l writes for a context in frame n, as it holds them, with what a fault of the lane turns over in them (R35, R105, R110). -/
def wordsWritten (s : State) (c : Image) (img : FrameImg) (l : Lane) (flips : List WordFlip) (f : FnSt) : List W72 :=
  flipWords flips f.ctx (laneWords l (evalFn s c l f (memOf l f) (gatherIn s c img l f (imageGraph c) (graphTypes (imageGraph c)))))

/-- What lane l sends in frame n: the signature of every due context in placement order, then the frame's decoy (R108, R113, R117, R122). -/
def sentInFrame (s : State) (c : Image) (img : FrameImg) (l : Lane) (flips : List WordFlip) : List SigMsg :=
  (s.fns.filter (fun f => evaluates s l f img.n)).map (fun f => ⟨l, ctxTag l img.n false f.ctx, signature l f.ctx (wordsWritten s c img l flips f)⟩)
    ++ (s.rdl.decoyOpen.filter (fun x => x.1 == img.n)).map (fun x => ⟨l, ctxTag l img.n true x.2, decoySig l x.2⟩)

/-- C(n) of a frame of RUN in which nothing else is judged than the functions: no fault waits, no lane is marked, no decoy or queue entry is left,
no bank is off and there is no cutting (R33, R36). -/
def plainCommit (s : State) (c : Image) (n : Nat) (img : FrameImg) : Prop :=
  s.cfg = some c ∧ s.lan.halted = false ∧ imgOf s n = some img ∧ img.run = true ∧ img.off = [] ∧ s.lan.inRun = true ∧ s.lan.nrun.toNat ≤ n ∧
  s.lan.pendFault = none ∧ s.lan.memErr = none ∧ s.lan.modFault = none ∧ s.rdl.decoyOpen = [] ∧ s.rdl.q0 = [] ∧ s.rdl.q1 = [] ∧
  s.cuts.cuts = [] ∧ s.cuts.owns = [] ∧ (s.fns.map (fun f => f.ctx)).Nodup ∧ s.fns.length < 65536

/-- A context has taken its safe state at C(n) (R127 to R129, R145): gates open, fault values released under the status it has now, the next frame's
commits discarded, and a demand record with the cause in the log. -/
def tookSafe (s : State) (c : Image) (n cause : Nat) (f : FnSt) (t : State) : Prop :=
  (∃ g ∈ t.fns, g.ctx = f.ctx ∧ (∀ x ∈ g.gates, x.2 = (false, false)) ∧ g.drop = some (n + 1) ∧
    ∃ h, g.hist.head? = some h ∧ h.frame = n ∧ h.b = laneWords .b h.a ∧
      h.a = faultedWords c f g.status (ctxMode s.mode.applied s.mode.epoch.toNat)) ∧
  ∃ x ∈ t.nv.log, byteAt x.2 0 = 2 ∧ leAt x.2 2 2 = cause ∧ leAt x.2 4 4 = f.fid ∧ leAt x.2 8 2 = f.ctx

/-- The verdict record of a tag's checkpoint. -/
def verdictFor (s : State) (tag : BitVec 16) : Option VerdRec := verdOf s (tagDecoy tag) (tagFp tag) (tagCtx tag)

/-- The other queue entry of a checkpoint is the only one, whole, and of the other lane (R119). -/
def partnerWaits (s : State) (h : Half) (l : Lane) (tag : BitVec 16) (e : QEntry) : Prop :=
  (queueOf s h).filter (fun x => sameTag x.tag tag) = [e] ∧ e.good = true ∧ e.tag.getLsbD 11 = !(l == .b) ∧ e.tag.getLsbD 15 = false

/-- The field side is powered, training has handed the active configuration to both sequencers, and channel ch is of a kind p in it (R149, R174, R203,
R362). -/
def channelHere (s : State) (c : Image) (ch : Nat) (p : Image → Nat → Bool) : Prop :=
  awake s = true ∧ s.cfg = some c ∧ s.sys.convA = true ∧ s.sys.convB = true ∧ s.lan.timerOn = true ∧ s.fld.linkA.par = some c ∧ s.fld.linkB.par = some c ∧ ch < 96 ∧ p c ch = true ∧
  s.fld.seqA.length = 96 ∧ s.fld.seqB.length = 96 ∧ s.fld.ins.length = 96 ∧ s.fld.outs.length = 96

/-- A cause stands on an output channel. -/
def hasCause (t : State) (ch cause : Nat) : Prop := ∃ x ∈ (outChan t ch).causes, x.cause = cause

/-- The samples of a port have been equal for as long as the filter asks: its accepted levels are those of the last samples (R207). -/
def settled (h : PortHalf) : Prop := h.s1 = ⟨h.la, h.lb, h.lz⟩ ∧ h.s2 = ⟨h.la, h.lb, h.lz⟩

/-- A cause stands on an axis. -/
def hasAxisCause (t : State) (a cause : Nat) : Prop := ∃ x ∈ (axisAt t a).causes, x.cause = cause

/-- The first consumed connection with an ID. -/
def consWith (s : State) (id : Nat) : Option ConsSt := s.ksl.cons.find? (fun x => x.conn.id == id)

/-- A received frame fits its connection: version, type and both checks (R238). -/
def frameFits (x : ConsSt) (b : Bytes) : Prop :=
  byteAt b 0 = 1 ∧ x.conn.type = (parseKsl b).type ∧ (checkPass x.key b) = (true, true)

/-- A queue of a port (R258). -/
def egressAt (s : State) (p q : Nat) : List NetOut := (if p == 0 then s.net.egress0 else s.net.egress1).getD q []

/-- Both ports have their eight queues (R258). -/
def queuesOk (s : State) : Prop := s.net.egress0.length = 8 ∧ s.net.egress1.length = 8

/-- A PTP message of the own clock (R264, R265). -/
def ownPtp (s : State) (a : AddrRec) (kind : Nat) : NetOut :=
  .ptp topTag kind (clockIdentity a.mac) ((s.cfg.map (fun c => c.domain.ptpDomain)).getD 0) (if kind == 11 then some ⟨128, 248⟩ else none)

/-- The parts that a command can touch, for commands that stay within few of them (the two of events, always; a frame for each family). -/
def touched : Instr → Option (List Part)
  | .doorbell _ _ | .ringEnable _ | .ringDisable _ | .piEn _ | .ringSetupWrite _ _ | .commandFetch _ _ | .completionWrite | .evtSummaryWrite
  | .request _ | .stdout _ | .reqUnassignedType _ | .hostDmaStop _ | .hostDmaResume | .hostIslandReset _ => some [.host, .evt, .mail]
  | .nop _ | .badOpcode _ | .verifyCfg _ | .readPlan _ | .readDiag _ | .clearStd _ | .readLog _ | .tunnelCfg _ | .smuRead _ =>
    some [.host, .evt, .mail]
  | .modeReq _ => some [.host, .mode, .evt, .mail]
  | .start _ | .toHold _ => some [.host, .lan, .evt, .mail]
  | .loadCfg _ _ _ => some [.host, .nv, .evt, .mail]
  | .attest _ => some [.host, .free, .evt, .mail]
  | .challenge _ => some [.host, .free, .lcy, .evt, .mail]
  | .response _ _ | .close _ => some [.host, .lcy, .evt, .mail]
  | .fuseProgProgram _ _ _ _ | .fuseProgRepair _ _ _ | .fuseProgKey _ _ _ _ | .fuseProgMarker _ _ _ _ | .fuseLock _ _ _ =>
    some [.host, .fus, .nv, .free, .evt, .mail]
  | .tapReset | .extest _ | .idcode | .samplePreload _ | .dbgStatus | .dbgMem _ _ | .dbgForce _ _ _ | .bypass _ | .authSessionEnd | .challengeExpiry =>
    some [.lcy, .evt, .mail]
  | .dbgResume | .dbgStep => some [.lcy, .lan, .evt, .mail]
  | .timerEnable _ | .timerLink _ | .cmpLoWrite _ _ => some [.ttu, .sys, .evt, .mail]
  | .gtEvent _ | .ccFire _ => some [.time, .ttu, .evt, .mail]
  | .encoderEdge _ _ _ _ _ | .encoderWireFault _ _ _ | .xcheckFault _ | .axisFaultClear _ _ => some [.smu, .evt, .mail]
  | .inputFilterAccept _ _ _ | .bandRunFault _ _ _ | .inputFaultClear _ | .testPulseSlot _ _ | .codeCauseFinal _ _ | .sourceOverload _
  | .sourceRestart _ | .sourceCheck _ _ _ => some [.fld, .evt, .mail]
  | .readbackFault _ _ | .midpointFault _ _ | .gangFault _ | .shortCircuit _ _ | .thermalCooled _ _ | .outputFaultClear _ | .offPulse _ _
  | .offPulseRepeat _ _ | .deferredOffPulse _ _ | .bankQualified _ | .singleSwitchTestDone _ _ _ _ _ _ | .sswTestDue _ | .sswOverdue _
  | .rideThroughExpiry _ _ | .bankOvercurrent _ _ | .bankFeedRecovery _ => some [.fld, .evt, .mail]
  | .thermalShutdown _ _ => some [.fld, .host, .evt, .mail]
  | .connTimeout _ | .connCheckFault _ | .syncRequest _ => some [.ksl, .evt, .mail]
  | .modeAnn _ _ | .modeCancel _ _ | .modeState _ _ | .modeApply | .modeWindowEnd => some [.mode, .evt, .mail]
  | .ptpMessageRx _ | .syncLost | .syncInterval | .prpLanSilent _ | .prpSupervision | .arpRequest _ _ _ _ | .netFrameDrop _ _ | .macAgeing _ =>
    some [.net, .evt, .mail]
  | .lineForwarding _ _ => some [.net, .free, .evt, .mail]
  | .frameOverrun _ => some [.lan, .evt, .mail]
  | .temperatureOutOfRange _ => some [.sys, .evt, .mail]
  | _ => none

/-- Commands of the supply, of start-up, of the PCIe link and of the TAP, which act while the module is in reset (R361, R367, R396, R410). -/
def actsInReset : Instr → Bool
  | .powerOnReset | .brownOut | .resetnLow | .supplyRetry | .startupStepDone _ | .startupTimeout | .temperatureOutOfRange _ => true
  | .hostDmaStop _ | .hostDmaResume => true
  | .tapReset | .extest _ | .idcode | .samplePreload _ | .dbgStatus | .dbgMem _ _ | .dbgForce _ _ _ | .dbgHalt | .dbgResume | .dbgStep | .bypass _ => true
  | _ => false

end Sys2Proof.Machine
end

