-- ==== Sys2Proof/Certificates/Slice0/Obligations.lean ====
section
/-! DEFINITION. The statements for the provers. -/

open Sys2Proof Sys2Proof.Machine

/-- The step runs the command at the front of the queue with the rest of the queue. -/
def Obligations.StepRunsFrontCommand : Prop :=
  ∀ (c : Instr) (s : State) (rest : List Instr), s.pending = c :: rest → step s = exec c { s with pending := rest }

/-- POWER_ON_RESET, BROWN_OUT, RESETN_LOW and MODRST are module resets: step 1 runs, SYS_RSTCAUSE names the cause, the debug state is CLOSED, every
output is off, and fuses, MRAM and the queue are kept. -/
def Obligations.ModuleResetStartsStepOne : Prop :=
  ∀ s : State,
    Completes .powerOnReset s (resetTaken 0 s) ∧
    Completes .brownOut s (fun t => resetTaken 1 s t ∧ awake t = false) ∧
    (s.sys.powered = true → Completes .resetnLow s (resetTaken 2 s)) ∧
    (busReach s → s.lan.inRun = false → Completes .modrst s (resetTaken 3 s))

/-- STARTUP_STEP_DONE: a step of start-up that succeeds goes on to the next one, and does what R363 gives that step; step 10 takes the
configuration of the ACTIVE slot or records why not. PLAN_DONE of a node without tree neighbours ends step 11; step 12 ends at once under a stored
record that fits. That an open fuse alarm rejects whatever the ACTIVE slot holds is the model's reading (assumption 99). -/
def Obligations.StartupStepsGoOn : Prop :=
  ∀ (s : State) (o : StepObs),
    (atStep s 1 → o.ok = true → s.sys.tempBad = false → Completes (.startupStepDone o) s (fun t => wentTo 2 t ∧ t.tb = 0 ∧ t.sys.answers = true)) ∧
    (atStep s 2 → o.ok = true → Completes (.startupStepDone o) s (wentTo 3)) ∧
    (atStep s 3 → Completes (.startupStepDone o) s (fun t => wentTo 4 t ∧ t.fus.sensed = true)) ∧
    (atStep s 4 → s.fus.lcy ≠ 4 → Completes (.startupStepDone o) s (fun t => wentTo 5 t ∧ t.sys.pwr = 1)) ∧
    (atStep s 5 → o.bistA = true → o.bistB = true → Completes (.startupStepDone o) s (wentTo 6)) ∧
    (atStep s 6 → o.injErrs = [] → Completes (.startupStepDone o) s (fun t =>
      wentTo 7 t ∧ t.rdl.injPass = true ∧ t.sys.convA = true ∧ t.sys.convB = true)) ∧
    (atStep s 7 → o.ok = true → Completes (.startupStepDone o) s (fun t => wentTo 8 t ∧ t.fld.linkA.st = .up ∧ t.fld.linkB.st = .up)) ∧
    (atStep s 8 → s.fld.banks.length = 6 → Completes (.startupStepDone o) s (fun t =>
      wentTo 9 t ∧ ∀ b, b < nBankOf s.sys.variant → (bankAt t b).st = if fedAll o b then .ok else .untested)) ∧
    (atStep s 9 → s.fus.lcy = 1 ∨ s.fus.lcy = 2 → s.fld.srcs.length = 24 → Completes (.startupStepDone o) s (fun t =>
      wentTo 10 t ∧ ∀ i, i < nSrcOf s.sys.variant → bankGood (bankAt s (i / 4)) = false → (srcAt t i).st = .untested)) ∧
    (atStep s 9 → s.fus.lcy = 0 ∨ s.fus.lcy = 3 → Completes (.startupStepDone o) s (fun t => t.sys.running = 0 ∧ t.sys.noCfg = true ∧ t.cfg = none)) ∧
    (atStep s 10 → s.fus.alarmOpen = false → activeSlot s = none → Completes (.startupStepDone o) s (fun t =>
      t.sys.running = 0 ∧ t.sys.noCfg = true ∧ t.sys.cause = 0x0A ∧ t.cfg = none ∧ t.sys.rejCode = 0)) ∧
    (∀ b, atStep s 10 → s.fus.alarmOpen = false → activeSlot s = some b →
      (∀ c raw, checkImage (checkEnv s) b b.length = .ok (c, raw) → Completes (.startupStepDone o) s (fun t =>
        t.sys.running = 0 ∧ t.sys.step = 11 ∧ t.sys.halt = false ∧ t.sys.noCfg = false ∧ t.sys.rejCode = 0 ∧ t.cfg = some c ∧
        t.lan.timerOn = true ∧ t.lan.fresh = true ∧ t.plt.state = 1 ∧ t.plt.cfgDig = c.digest ∧ t.fns = [] ∧
        (o.ok = true → t.fld.linkA.st = .up ∧ t.fld.linkB.st = .up ∧ t.fld.linkA.given = some c ∧ t.fld.linkB.given = some c) ∧
        (o.ok = false → t.fld.linkA.st = .down ∧ t.fld.linkB.st = .down ∧ t.lan.blFault = true))) ∧
      (∀ j, checkImage (checkEnv s) b b.length = .error j → Completes (.startupStepDone o) s (fun t =>
        t.sys.running = 0 ∧ t.sys.noCfg = true ∧ t.sys.cause = 9 ∧ t.cfg = none ∧ t.sys.rejCode = BitVec.ofNat 16 j.code ∧
        t.sys.rejCls = BitVec.ofNat 8 j.cls ∧ t.sys.rejItem = BitVec.ofNat 32 j.item))) ∧
    (∀ b, atStep s 10 → s.fus.alarmOpen = true → activeSlot s = some b → Completes (.startupStepDone o) s (fun t =>
      t.sys.running = 0 ∧ t.sys.noCfg = true ∧ t.sys.cause = 9 ∧ t.cfg = none ∧ t.sys.rejCode = 0x103)) ∧
    (∀ c p peak us, awake s = true → s.cfg = some c → s.plt.state = 1 → s.sys.halt = false → s.sys.hedgeStalled = false →
      makePlan c = .ok (p, peak) → (c.fns.map (fun f => f.fid)).Nodup → (∀ f ∈ c.fns, f.nword ≤ 4096) → s.plt.nbrs = [] → treeDiam c = 0 →
      slowPath s c = none → Completes (.planDone us []) s (fun t => t.plt.plan = some p ∧
        (s.nv.accRec = none → t.plt.state = 3 ∧ t.sys.step = 12 ∧ t.plt.accepted = s.plt.accepted) ∧
        (∀ r, s.nv.accRec = some r → recordStatus t r ≠ 0 → t.plt.state = 3 ∧ t.sys.step = 12) ∧
        (∀ r, s.nv.accRec = some r → recordStatus t r = 0 → t.plt.state = 4 ∧ t.plt.accepted = true ∧ t.sys.step = 13 ∧ t.mode.epoch = 0)))

/-- A step of start-up that fails, a timeout and SUPPLY_RETRY lead to the outcomes of R367. That SUPPLY_RETRY clears the cause in SYS_BOOT is the
model's reading (assumption 95). -/
def Obligations.StartupFailuresHaltOrHold : Prop :=
  ∀ (s : State) (o : StepObs),
    (atStep s 1 → o.ok = false → Completes (.startupStepDone o) s (fun t => t.sys.supplyHold = true ∧ t.sys.cause = 1 ∧ awake t = false)) ∧
    (s.sys.powered = true → s.sys.supplyHold = true → s.sys.running = 1 → Completes .supplyRetry s (fun t =>
      t.sys.supplyHold = false ∧ t.sys.running = 1 ∧ t.sys.cause = 0)) ∧
    (atStep s 2 → o.ok = false → Completes (.startupStepDone o) s (haltedFor 2)) ∧
    (atStep s 4 → s.fus.lcy = 4 → Completes (.startupStepDone o) s (haltedFor 4)) ∧
    (atStep s 5 → o.bistA = false → o.bistB = true → Completes (.startupStepDone o) s (fun t => haltedFor 5 t ∧ t.lan.markA = true)) ∧
    (atStep s 5 → o.bistA = true → o.bistB = false → Completes (.startupStepDone o) s (fun t => haltedFor 6 t ∧ t.lan.markB = true)) ∧
    (∀ e : InjErr, atStep s 6 → o.injErrs = [e] → e.bits ≠ 0 → (e.path, e.index) ∈ injections → Completes (.startupStepDone o) s (fun t =>
      haltedFor 7 t ∧ t.rdl.injFail = true ∧ t.lan.fstate = 3 ∧
      t.rdl.injResult.toNat = 2 ^ 31 + (if e.half = .rh1 then 1024 else 0) + e.path * 256 + e.index)) ∧
    (atStep s 7 → o.ok = false → s.sys.trainTries < 2 → Completes (.startupStepDone o) s (fun t =>
      t.sys.running = 7 ∧ t.sys.halt = false ∧ t.sys.trainTries = s.sys.trainTries + 1)) ∧
    (atStep s 7 → o.ok = false → 2 ≤ s.sys.trainTries → Completes (.startupStepDone o) s (fun t => haltedFor 8 t ∧ t.lan.fstate = 3)) ∧
    (s.sys.powered = true → s.sys.supplyHold = false → s.sys.hedgeStalled = false → 1 ≤ s.sys.running →
      Completes .startupTimeout s (haltedFor 0x0B)) ∧
    (s.sys.powered = true → s.sys.hedgeStalled = true → (Completes (.startupStepDone o) s (fun t => t.sys = s.sys ∧ t.lan = s.lan)) ∧
      Completes .startupTimeout s (fun t => t.sys = s.sys ∧ t.lan = s.lan))

/-- FRAME_START: F(n) numbers the frame, stamps it, latches its image and opens it; in RUN both lanes get it to evaluate. Each sequencer latches its
accepted inputs; latches that agree give the input's state, latches that differ give 0, and the image holds the state with VALID or a faulted input's 0
with VALID and FAULT. Entry into RUN clears the counters of RUN. The NET page takes PTP time, a view of TB. -/
def Obligations.FrameStartOpensNextFrame : Prop :=
  ∀ (s : State) (o : FrameObs) (c : Image), awake s = true → s.cfg = some c → s.lan.timerOn = true → s.lan.halted = false →
    waitsTraining s = false → s.fld.ins.length = 96 →
    Completes (.frameStart o) s (fun t =>
      (∀ ch, ch < 96 → isSafeIn c ch = true →
        (s.fld.linkA.st = .up → (if s.lan.fresh then s.fld.linkA.given else s.fld.linkA.par) = some c →
          t.fld.linkA.latState.getLsbD ch = (seqAt s .a ch).acc) ∧
        (s.fld.linkB.st = .up → (if s.lan.fresh then s.fld.linkB.given else s.fld.linkB.par) = some c →
          t.fld.linkB.latState.getLsbD ch = (seqAt s .b ch).acc) ∧
        (t.fld.linkA.latState.getLsbD ch = t.fld.linkB.latState.getLsbD ch → (inAt t ch).fault = false →
          (inAt t ch).state = t.fld.linkA.latState.getLsbD ch) ∧
        (t.fld.linkA.latState.getLsbD ch ≠ t.fld.linkB.latState.getLsbD ch → (inAt t ch).state = false) ∧
        ((inAt t ch).fault = true → (inAt t ch).state = false) ∧
        ∀ i, t.lan.imgs.head? = some i → i.inA.inputs.getD ch 0 =
          forcedWord t ch (if (inAt t ch).fault then faultWord 0 else validWord (boolVal (inAt t ch).state))) ∧
      t.lan.frame = BitVec.ofNat 64 (nextFrameNo s) ∧ t.lan.fstart = s.tb ∧ t.lan.open_ = s.lan.open_ ++ [nextFrameNo s] ∧
      (t.lan.imgs.head?.map (fun i => (i.n, i.tb))) = some (nextFrameNo s, s.tb) ∧
      (∀ i, t.lan.imgs.head? = some i → i.inB = laneImg .b i.inA) ∧
      t.net.ptNs = BitVec.ofNat 32 ((ptAt s).toNat % 1000000000) ∧ t.net.ptSec = BitVec.ofNat 48 ((ptAt s).toNat / 1000000000) ∧
      t.host.slotLatch = t.host.slots ∧ t.lcy.forced = s.lcy.forcedNext ∧
      (s.lan.startAt = some (nextFrameNo s) → s.lan.inRun = false →
        t.lan.inRun = true ∧ t.lan.nrun = BitVec.ofNat 64 (nextFrameNo s) ∧ t.sys.pwr = 2 ∧ t.host.std = 0 ∧
        t.lan.lateCnt = 0 ∧ t.lan.late = false ∧ t.lan.skewPeak = 0 ∧ t.lan.cycPeak = 0 ∧ t.lan.emargin = 0xFFFFFFFF ∧ t.lan.vmargin = 0xFFFFFFFF ∧
        t.lan.clkFault = false ∧ t.lan.overrun = false ∧ t.lan.skewWarn = false ∧
        t.rdl.mmCnt = 0 ∧ t.rdl.eeCnt = 0 ∧ t.rdl.decoyCnt = 0 ∧ t.rdl.lastMm = 0 ∧ t.rdl.lastFrame = 0 ∧ t.rdl.lastDiff = 0 ∧ t.rdl.waitCnt = 0 ∧
        t.net.rx0 = 0 ∧ t.net.rx1 = 0 ∧ t.net.errCnt = 0 ∧ t.net.dropCnt = 0 ∧
        t.ksl.txCnt = 0 ∧ t.ksl.rxCnt = 0 ∧ t.ksl.chkCnt = 0 ∧ t.ksl.oldCnt = 0 ∧ t.ksl.fenceCnt = 0 ∧ t.ksl.foreignCnt = 0 ∧
        (∀ x ∈ t.ksl.cons, x.chk = 0) ∧ t.fld.linkA.err = 0 ∧ t.fld.linkB.err = 0 ∧ t.fld.linkA.miss = 0 ∧ t.fld.linkB.miss = 0))

/-- FRAME_EVALUATION ends the next frame of a lane: in RUN every due function's words are written into the lane's own memory, formed from what the lane
itself holds, and their signatures and the frame's decoy go to both halves; no other context changes, and in HOLD no word. CHECKPOINT_WAIT_END lets a
waiting lane go on. A block with an unusable contributing input puts its fault value with FAULT and without VALID on every output; with usable inputs
its outputs are valid and carry on what the inputs carry. Of the logic, timing and output blocks the values are stated. -/
def Obligations.LaneEvaluationProgress : Prop :=
  (∀ (s : State) (l : Lane) (cycles n : Nat) (flips : List WordFlip) (rest : List Nat) (c : Image) (img : FrameImg), awake s = true → eventsPlaced s →
    ((laneEval s l).todo = n :: rest → s.cfg = some c → (laneEval s l).waiting = false → s.lan.halted = false → imgOf s n = some img →
      Completes (.frameEvaluation l ⟨cycles, flips⟩) s (fun t =>
        (laneEval t l).finished = some n ∧ (laneEval t l).todo = rest ∧ (n, cycles) ∈ (laneEval t l).cycles ∧
        (laneEval t l.other) = laneEval s l.other ∧ (s.lan.inRun = false ∨ img.run = false → t.fns = s.fns ∧ t.rdl = s.rdl) ∧
        (s.lan.inRun = true → img.run = true →
          (s.rdl.active = false → t.rdl = s.rdl) ∧
          (s.rdl.active = true →
            t.rdl.way0 = s.rdl.way0 ++ sentInFrame s c img l flips ∧ t.rdl.way1 = s.rdl.way1 ++ sentInFrame s c img l flips) ∧
          t.fns.map (fun f => f.ctx) = s.fns.map (fun f => f.ctx) ∧
          ∀ (i : Nat) (f g : FnSt), s.fns[i]? = some f → t.fns[i]? = some g →
            (evaluates s l f n = false → g = f) ∧
            (evaluates s l f n = true → g.status = f.status ∧ g.gates = f.gates ∧ g.hist = f.hist ∧ rawMem g l.other = rawMem f l.other ∧
              (dropped f n = false ∨ stState f.status = 1 → rawMem g l = wordsWritten s c img l flips f) ∧
              (dropped f n = true → stState f.status ≠ 1 → rawMem g l = rawMem f l) ∧
              (evalRec g n).map (fun e => match l with
                | .a => (e.wordsA, e.sigA)
                | .b => (e.wordsB, e.sigB)) =
                some (some (wordsWritten s c img l flips f), signature l f.ctx (wordsWritten s c img l flips f)))) ∧
        onlyTouches [.lan, .fns, .rdl] s t)) ∧
    (s.rdl.q0.length < 64 → s.rdl.q1.length < 64 →
      Completes (.checkpointWaitEnd l) s (fun t => (laneEval t l).waiting = false ∧ (laneEval t l).todo = (laneEval s l).todo ∧ onlyTouches [.lan] s t))) ∧
  (∀ (b : BlockRec) (e : BlockEnv) (ins st : List W72), b.type ∉ [0x50, 0x51, 0x58, 0x59] →
    ((contribList b ins).all (fun x => x.1) = false → (evalBlock b e ins st).outs.length = b.nout ∧
      ∀ o, o < b.nout → wval ((evalBlock b e ins st).outs.getD o 0) = faultValue b e.ty o ∧
        (wqual ((evalBlock b e ins st).outs.getD o 0)).getLsbD 0 = false ∧ (wqual ((evalBlock b e ins st).outs.getD o 0)).getLsbD 1 = true) ∧
    ((contribList b ins).all (fun x => x.1) = true → ∀ w ∈ (evalBlock b e ins st).outs, usable w = true ∧
      ∀ x ∈ contribList b ins, ∀ k, 2 ≤ k → k < 8 → (wqual x.2).getLsbD k = true → (wqual w).getLsbD k = true)) ∧
  (∀ (b : BlockRec) (e : BlockEnv) (x y r : W72), usable x = true → usable y = true →
    (b.type = 1 → (evalBlock b e [x, y] []).outs.map wval = [boolVal (isOn (wval x) && isOn (wval y))]) ∧
    (b.type = 2 → (evalBlock b e [x, y] []).outs.map wval = [boolVal (isOn (wval x) || isOn (wval y))]) ∧
    (b.type = 3 → (evalBlock b e [x, y] []).outs.map wval = [boolVal (isOn (wval x) != isOn (wval y))]) ∧
    (b.type = 4 → (evalBlock b e [x] []).outs.map wval = [boolVal (!isOn (wval x))]) ∧
    (b.type = 8 → (evalBlock b e [x, y] [r]).outs.map wval =
      [boolVal (if isOn (wval x) && isOn (wval y) then b.parN 0 == 1 else if isOn (wval x) then true else !isOn (wval y) && isOn (wval r))]) ∧
    (b.type = 0x0A → (isOn (wval x) = false → (evalBlock b e [x] [r]).outs.map wval = [0] ∧ (evalBlock b e [x] [r]).st.map wval = [nv (b.parN 0)]) ∧
      (isOn (wval x) = true → (evalBlock b e [x] [r]).outs.map wval = [boolVal (wval r == 0)] ∧
        (evalBlock b e [x] [r]).st.map wval = [nv (decD (wval r).toNat e.d)])) ∧
    (b.type = 0x0B → (isOn (wval x) = true → (evalBlock b e [x] [r]).outs.map wval = [1] ∧ (evalBlock b e [x] [r]).st.map wval = [nv (b.parN 0)]) ∧
      (isOn (wval x) = false → (evalBlock b e [x] [r]).outs.map wval = [boolVal (wval r != 0)] ∧
        (evalBlock b e [x] [r]).st.map wval = [nv (decD (wval r).toNat e.d)]))) ∧
  (∀ (b : BlockRec) (e : BlockEnv) (ins st : List W72), b.type = 0x2E → b.nout = 3 → isOn (wval ((evalBlock b e ins st).outs.getD 0 0)) = true →
    usable (ins.getD 0 0) = true ∧ isOn (wval (ins.getD 0 0)) = true ∧ e.chok = true ∧
    (carries (ins.getD 0 0) (qTrans ||| qAged ||| qFallow) = true → isOn (wval (st.getD 0 0)) = true))

/-- The seeds of a signature, and K: lanes that hold the same words, lane B complemented, give signatures that differ by K(w), whatever the words are;
K is the sum of the powers of L, and the plan stores K(NWORD) of every function. Each half computes K(w) for w from 0 to 4,096 into its own table, RH0 in
plain form and RH1 complemented, with a parity that finds an entry of which one bit has turned over. -/
def Obligations.HealthyLanesDifferByK : Prop :=
  (∀ ctx, ctx < 1024 → signature .a ctx [] = BitVec.ofNat 72 (0xA5 * 2 ^ 64 + ctx) ∧ signature .b ctx [] = ~~~ signature .a ctx []) ∧
  signature .a 3 [] = 0xA50000000000000003 ∧ signature .b 3 [] = 0x5AFFFFFFFFFFFFFFFC ∧
  (∀ (ctx : Nat) (words : List W72), signature .a ctx words ^^^ signature .b ctx (laneWords .b words) = kOf words.length) ∧
  kOf 0 = ones72 ∧ (∀ w, kOf (w + 1) = misrL (kOf w) ^^^ ones72) ∧
  (∀ w, kOf w = (List.range (w + 1)).foldl (fun x i => x ^^^ Nat.repeat misrL i ones72) 0) ∧
  (∀ x y : W72, misrL (x ^^^ y) = misrL x ^^^ misrL y) ∧
  kOf 0 = 0xFFFFFFFFFFFFFFFFFF ∧ kOf 1 = 0x040000000002080000 ∧ kOf 2 = 0xF7FFFFFFFFFBEFFFFF ∧
  (∀ (c : Image) (p : Plan) (peak : Nat), makePlan c = .ok (p, peak) → ∀ r ∈ p.fns, ∃ f ∈ c.fns, f.fid = r.fid ∧ r.k = kOf f.nword) ∧
  (∀ k : W72, halfForm .rh0 k = k ∧ halfForm .rh1 k = ~~~ k) ∧
  (∀ (s : State) (h : Half), (kTabOf (fillKTabs s) h).length = 4097 ∧ ∀ w, w ≤ 4096 →
    kAt (fillKTabs s) h w = some (halfForm h (kOf w)) ∧ (∀ k, kAgrees (fillKTabs s) h w k = true ↔ k = kOf w) ∧
    ∀ i, i < 72 → kAt (spoilK (fillKTabs s) h w (BitVec.ofNat 72 (2 ^ i))) h w = none)

/-- A lane whose words differ from the other's in exactly one word gives a signature pair that neither half takes for equal. -/
def Obligations.OneChangedWordIsSeen : Prop :=
  ∀ (h : Half) (ctx : Nat) (before after : List W72) (x y : W72), x ≠ y →
    (compareSigs h (signature .a ctx (before ++ x :: after)) (signature .b ctx (laneWords .b (before ++ y :: after)))
      (halfForm h (kOf (before ++ x :: after).length))).1 = .ne

/-- The halves judge a pair of signatures alike, each with K in its own form: EQ of both exactly if the signatures differ by K, and the difference
vector of RH1 is the complement of that of RH0. -/
def Obligations.VerdictIsEqExactlyAtK : Prop :=
  ∀ (x y k : W72),
    (∀ h, ((compareSigs h x y (halfForm h k)).1 = .eq ↔ x ^^^ y = k) ∧ ((compareSigs h x y (halfForm h k)).1 = .ne ↔ x ^^^ y ≠ k) ∧
      (compareSigs h x y (halfForm h k)).2.2 = x ^^^ y ^^^ k) ∧
    (compareSigs .rh1 x y (halfForm .rh1 k)).2.1 = ~~~ (compareSigs .rh0 x y (halfForm .rh0 k)).2.1

/-- SIGNATURE_ARRIVAL: the oldest signature on its way from the lane to the half arrives; a first arrival is stored under its lane, a second one is
matched with K of the half's table and gives its half's verdict. One that is lost is gone. -/
def Obligations.SignatureArrivalStoresOrJudges : Prop :=
  ∀ (s : State) (h : Half) (l : Lane) (m : SigMsg) (rest : List SigMsg), awake s = true → s.rdl.active = true → (laneEval s l).waiting = false →
    firstOf l (wayOf s h) = some (m, rest) →
    ((queueOf s h).filter (fun x => sameTag x.tag m.tag) = [] → s.rdl.q0.length < 64 → s.rdl.q1.length < 64 →
      Completes (.signatureArrival h l .arrives ⟨0, 0⟩ 0) s (fun t => ∃ e : QEntry,
        queueOf t h = queueOf s h ++ [e] ∧ e.sig = m.sig ∧ e.good = true ∧ sameTag e.tag m.tag = true ∧ e.tag.getLsbD 11 = (l == .b) ∧
        t.rdl.verds = s.rdl.verds ∧ wayOf t h = rest)) ∧
    (∀ (e : QEntry) (f : FnSt) (c : Image) (k : W72), partnerWaits s h l m.tag e → s.fns.find? (fun f => f.ctx == tagCtx m.tag) = some f →
      s.cfg = some c → kAt s h (fnRecOf c f).nword = some (halfForm h k) → s.lan.lates = [] → verdictFor s e.tag = none →
      Completes (.signatureArrival h l .arrives ⟨0, 0⟩ 0) s (fun t =>
        queueOf t h = (queueOf s h).filter (fun x => !sameTag x.tag m.tag) ∧
        (verdictFor t e.tag).map (fun r => match h with
          | .rh0 => r.v0
          | .rh1 => r.v1) = some (some (if e.sig ^^^ m.sig = k then Verdict.eq else Verdict.ne)))) ∧
    Completes (.signatureArrival h l .lost ⟨0, 0⟩ 0) s (fun t => queueOf t h = queueOf s h ∧ wayOf t h = rest ∧ t.rdl.verds = s.rdl.verds)

/-- COMMIT_LATE and FRAME_OVERRUN: a function without its verdicts is late and counted; an overrun acts at the next C instant. -/
def Obligations.LateAndOverrunAreRecorded : Prop :=
  ∀ (s : State) (h : Half) (l : Lane) (ctx n : Nat) (rest : List Nat) (f : FnSt), awake s = true → s.lan.inRun = true →
    (s.lan.open_ = n :: rest → s.rdl.active = true → s.rdl.decoyOpen = [] → s.lan.halted = false →
      s.fns.find? (fun f => f.ctx == ctx && runsIn s f n && stState f.status != 3) = some f →
      verdOf s false (n % 2 == 1) ctx = none → s.lan.lates.contains (n, ctx) = false →
      Completes (.commitLate h ctx) s (fun t =>
        (n, ctx) ∈ t.lan.lates ∧ t.lan.late = true ∧ t.lan.lateCnt = satAdd s.lan.lateCnt 1 ∧ onlyTouches [.evt, .mail, .lan] s t)) ∧
    (s.lan.pendFault = none → s.lan.overrun = false → s.lan.halted = false →
      Completes (.frameOverrun l) s (fun t => t.lan.overrun = true ∧ t.lan.pendFault = some 0x20 ∧ onlyTouches [.evt, .mail, .lan] s t)) ∧
    (s.lan.halted = true → eventsPlaced s → exec (.frameOverrun l) s = .next s ∧ exec (.commitLate h ctx) s = .next s)

/-- COMMIT_INSTANT closes the oldest open frame; a halt that was asked for takes effect after it. C(n) releases a function's words only if both halves
gave EQ in time; a function without both verdicts, and one whose mismatch no fallow takes, has its safe state with its demand record; discarded commits
release nothing. The frames of KSL that are due at C(n) go out. A fault that waits for C(n) takes the module out of RUN with every gate open. -/
def Obligations.CommitInstantClosesOldestFrame : Prop :=
  ∀ (s : State) (c : Image) (n m : Nat) (rest : List Nat), awake s = true → s.cfg = some c → s.lan.open_ = n :: m :: rest → s.lan.halted = false →
    hasImage s n →
    Completes .commitInstant s (fun t =>
      t.lan.open_ = (n :: m :: rest).filter (fun k => n < k) ∧ t.host.clearReq = 0 ∧ (∀ f ∈ t.fns, f.snapA = f.memA ∧ f.snapB = f.memB) ∧
      t.lan.halted = (s.lan.haltReq || s.lan.stepReq) ∧
      t.fld.linkA.image = outImage t .a ∧ t.fld.linkB.image = outImage t .b ∧
      (∀ img, plainCommit s c n img →
        (∀ f ∈ s.fns, runsIn s f n = true → stState f.status = 0 →
          (dropped f n = true → ∃ g ∈ t.fns, g.ctx = f.ctx ∧ g.gates = f.gates ∧ g.hist = f.hist ∧ g.status = f.status) ∧
          (dropped f n = false →
            (∀ v e a b, verdOf s false (n % 2 == 1) f.ctx = some v → v.passed = true → s.lan.lates.contains (n, f.ctx) = false →
              evalRec f n = some e → e.wordsA = some a → e.wordsB = some b → badStatus a = false →
              ∃ g ∈ t.fns, g.ctx = f.ctx ∧ g.hist.head? = some ⟨n, a, b⟩ ∧ g.gates = (releaseFn c n a b f).gates ∧ g.status = wval (a.getD 0 0)) ∧
            (f.fid < 2 ^ 32 → f.ctx < 2 ^ 16 → stMm f.status ≠ 2 →
              (∀ v e, verdOf s false (n % 2 == 1) f.ctx = some v → v.failed = true → s.lan.lates.contains (n, f.ctx) = false →
                evalRec f n = some e → fallowOk c f = false → tookSafe s c n 0x11 f t) ∧
              (verdOf s false (n % 2 == 1) f.ctx = none ∨ s.lan.lates.contains (n, f.ctx) = true → tookSafe s c n 0x10 f t)))) ∧
        ((s.ksl.prod.map (fun p => p.conn.id)).Nodup → ∀ p ∈ s.ksl.prod,
          (p.conn.type = 4 ∨ (p.conn.type = 1 ∧ p.conn.sub = 1 ∧ inBench s = false) → nextSeq t p.conn.id = nextSeq s p.conn.id + 1) ∧
          (p.conn.type = 1 → inBench s = true → nextSeq t p.conn.id = nextSeq s p.conn.id) ∧
          (∀ f ∈ s.fns, p.conn.type = 1 → p.conn.sub ≠ 1 → inBench s = false → p.conn.fid = f.fid → (s.fns.map (fun f => f.fid)).Nodup →
            runsIn s f n = true → stState f.status = 0 → dropped f n = false → verdOf s false (n % 2 == 1) f.ctx = none →
            nextSeq t p.conn.id = nextSeq s p.conn.id + 1))) ∧
      (∀ k, s.lan.pendFault = some k → s.lan.inRun = true → s.lan.memErr = none → s.rdl.decoyOpen = [] → s.rdl.q0 = [] → s.rdl.q1 = [] →
        t.lan.inRun = false ∧ t.sys.pwr = 1 ∧ t.lan.fstate = (if k = 0x30 ∧ s.lan.modFault = none then 1 else 3) ∧
        ∀ f ∈ t.fns, ∀ x ∈ f.gates, x.2 = (false, false)))

/-- CLOCK_FAULT, a stalled lane or Riddle crossing and BL_FAULT are module-wide faults at once; from RUN they lead to HOLD with FSTATE 0b11. -/
def Obligations.FaultsAtOnceSendAllOff : Prop :=
  ∀ (s : State) (l : Lane), awake s = true →
    (∀ k, s.lan.halted = false ∨ (∀ x ppm, k ≠ .deviation x ppm) → Completes (.clockFault k) s (fun t =>
      faultActed 0x22 t ∧ t.lan.clkFault = true ∧ t.sys.clk.getLsbD 7 = true ∧ t.lan.needReset = true ∧ (s.lan.inRun = true → leftRun t))) ∧
    (∀ k, k = .laneAB ∨ k = .riddle ∨ k = .laneBus l → Completes (.crossingStall k) s (fun t =>
      faultActed 0x24 t ∧ t.lan.needReset = true ∧ (s.lan.inRun = true → leftRun t))) ∧
    ((linkAt s l).st = .up → Completes (.blFault l) s (fun t =>
      faultActed 0x25 t ∧ t.lan.blFault = true ∧ (linkAt t l).st = .down ∧ (s.lan.inRun = true → leftRun t)))

/-- CROSSING_STALL of the host and the Hedge is no fault of the lanes: SYS_ERR.STALL is set, or the Hedge is held up, in start-up in HOLD, until it is
cleared (which command says so is the model's choice, assumption 93); a stall toward the network costs one frame of its connection. -/
def Obligations.OtherStallsAreContained : Prop :=
  ∀ (s : State), awake s = true →
    (∀ r a, Completes (.crossingStall (.host r a)) s (fun t =>
      t.sys.hostStalled = true ∧ t.sys.err.getLsbD 0 = true ∧ onlyTouches [.evt, .mail, .sys] s t)) ∧
    (∀ tag, Completes (.crossingStall (.hedge tag)) s (fun t =>
      t.sys.hedgeStalled = true ∧ (2 ≤ s.sys.running → t.sys.pwr = 1) ∧ (s.sys.running < 2 → t.sys.pwr = s.sys.pwr) ∧
      onlyTouches [.evt, .mail, .sys] s t)) ∧
    Completes (.crossingStall .cleared) s (fun t => t.sys.hostStalled = false ∧ t.sys.hedgeStalled = false) ∧
    (∀ l (conn : BitVec 32) p, p ∈ s.ksl.prod → p.conn.id = conn.toNat → Completes (.crossingStall (.laneNet l conn)) s (fun t =>
      t.net.stalls = s.net.stalls ++ [conn.toNat] ∧ onlyTouches [.evt, .mail, .net] s t)) ∧
    (∀ (peer : Nat) (frame : Bytes), (pathTo s peer).isSome = true → beAt frame 4 4 ∈ s.net.stalls →
      (sendKsl s peer frame).host = s.host ∧ (sendKsl s peer frame).net = { s.net with stalls := s.net.stalls.erase (beAt frame 4 4) })

/-- LANE_MEMORY_ERROR waits for the next C instant in RUN and marks the lane at once outside it; a second lane's error is a fault of both lanes. -/
def Obligations.MemoryErrorMarksLane : Prop :=
  ∀ (s : State) (l : Lane), awake s = true → marked s l = false →
    (marked s l.other = false → s.lan.memErr ≠ some l.other → s.lan.inRun = true → s.lan.halted = false →
      Completes (.laneMemoryError l) s (fun t => t.lan.memErr = some l ∧ t.lan.inRun = true)) ∧
    (marked s l.other = false → s.lan.memErr ≠ some l.other → s.lan.inRun = false ∨ s.lan.halted = true →
      Completes (.laneMemoryError l) s (fun t =>
        marked t l = true ∧ t.lan.inRun = false ∧ t.lan.modFault = some 0x26 ∧ t.lan.needReset = true)) ∧
    (marked s l.other = true →
      Completes (.laneMemoryError l) s (fun t => faultActed 0x27 t ∧ (s.lan.inRun = true → leftRun t)))

/-- DIAG_DECISION, entry into FALLOW and its end: both BISTs failed, 2 ms after the diagnosis began, is a fault of both lanes; BISTs and replays that
all name one lane mark it, the functions in DIAG enter FALLOW under the other one and every other function is LOCKED; where they do not, the functions
in DIAG take their safe state. A memory error that acts at C(n) marks its lane: the functions with FALLOW_OK enter FALLOW, but for one that is late. A
function whose fallow has run out is LOCKED, with one demand record. B_MARK keeps the measured deviations, and one above 2 % is a clock fault. -/
def Obligations.DiagnosisAndFallowEnd : Prop :=
  ∀ (s : State) (c : Image), awake s = true → s.cfg = some c →
    (∀ t0 list reps, s.lan.diag = some (t0, list) → t0.toNat + 200000 ≤ s.tb.toNat → s.lan.inRun = true →
      Completes (.diagDecision false false reps) s (fun t => faultActed 0x27 t ∧ leftRun t)) ∧
    (∀ t0 list reps a b, s.lan.diag = some (t0, list) → s.tb.toNat < t0.toNat + 200000 →
      Completes (.diagDecision a b reps) s (fun t => t.lan.diag = s.lan.diag ∧ t.fns = s.fns)) ∧
    (∀ (f : FnSt) (x y : W72) (chA chB bA bB : Bool),
      (judgeReplay f true true (some (x, y, chA, chB)) = some .a ↔ x ^^^ y = f.k ∧ chA = true ∧ chB = false) ∧
      (judgeReplay f true true (some (x, y, chA, chB)) = some .b ↔ x ^^^ y = f.k ∧ chA = false ∧ chB = true) ∧
      judgeReplay f true true none = none ∧
      judgeReplay f false true none = some .a ∧ judgeReplay f true false none = some .b ∧
      judgeReplay f false true (some (x, y, chA, chB)) = (if chB then none else some .a) ∧
      judgeReplay f true false (some (x, y, chA, chB)) = (if chA then none else some .b) ∧
      (bA = false → bB = false → ∀ r, judgeReplay f bA bB r = none)) ∧
    (∀ (t0 : BitVec 64) (list : List (Nat × Nat)) (reps : List ReplayObs) (bA bB : Bool), s.lan.diag = some (t0, list) →
      t0.toNat + 200000 ≤ s.tb.toNat → s.lan.inRun = true → (s.fns.map (fun f => f.ctx)).Nodup → bA = true ∨ bB = true →
      (∃ f ∈ (beforeDecision c s).fns, holds s f = true ∧ stState f.status = 1) →
      (∀ l, marked s l.other = false →
        (∀ f ∈ (beforeDecision c s).fns, holds s f = true → stState f.status = 1 →
          judgeDiag (beforeDecision c s) c list bA bB reps f = some l) →
        Completes (.diagDecision bA bB reps) s (fun t =>
          marked t l = true ∧ t.lan.inRun = true ∧ t.lan.diag = none ∧ t.rdl.active = false ∧ t.lan.modFault = some 0x26 ∧ t.lan.needReset = true ∧
          ∀ f ∈ (beforeDecision c s).fns, holds s f = true → ∃ g ∈ t.fns, g.ctx = f.ctx ∧
            (stState f.status = 1 → g.status = mkStatus ((fnRecOf c f).tfal * 1000000) (if l = .a then 1 else 2) (stMm f.status) 2) ∧
            (stState f.status = 0 ∨ stState f.status = 2 → stState g.status = 3 ∧ ∀ x ∈ g.gates, x.2 = (false, false)))) ∧
      ((∃ f ∈ (beforeDecision c s).fns, holds s f = true ∧ stState f.status = 1 ∧ judgeDiag (beforeDecision c s) c list bA bB reps f = none) →
        Completes (.diagDecision bA bB reps) s (fun t =>
          t.lan.inRun = true ∧ (∀ l, marked t l = marked s l) ∧
          ∀ f ∈ (beforeDecision c s).fns, holds s f = true → stState f.status = 1 → ∃ g ∈ t.fns, g.ctx = f.ctx ∧ stState g.status ≠ 1 ∧
            ∀ x ∈ g.gates, x.2 = (false, false)))) ∧
    (∀ (n : Nat) (verds : List VerdRec) (l : Lane), s.lan.inRun = true → marked s l.other = false → (s.fns.map (fun f => f.ctx)).Nodup →
      marked (commitMark s c n verds l) l = true ∧ (commitMark s c n verds l).lan.memErr = none ∧ (commitMark s c n verds l).rdl.active = false ∧
      ∀ f ∈ s.fns, holds s f = true → stState f.status ≤ 2 → ∃ g ∈ (commitMark s c n verds l).fns, g.ctx = f.ctx ∧
        (fallowOk c f = true → lateIn s n verds f = false →
          g.status = mkStatus ((fnRecOf c f).tfal * 1000000) (if l = .a then 1 else 2) (stMm f.status) 2) ∧
        (fallowOk c f = false ∨ lateIn s n verds f = true → stState g.status = 3 ∧ ∀ x ∈ g.gates, x.2 = (false, false))) ∧
    (∀ (f : FnSt) (ctx n m : Nat) (rest : List Nat), s.lan.open_ = n :: m :: rest → s.fns.find? (fun f => f.ctx == ctx && inFallowHere s f) = some f →
      s.lan.inRun = true → (s.fns.map (fun f => f.ctx)).Nodup →
      (fallowOver f n (healthyLane s) = true → Completes (.fallowExpired ctx) s (fun t =>
        (∃ g ∈ t.fns, g.ctx = ctx ∧ stState g.status = 3 ∧ ∀ x ∈ g.gates, x.2 = (false, false)) ∧
        t.nv.dseq = s.nv.dseq + 1)) ∧
      (fallowOver f n (healthyLane s) = false → Completes (.fallowExpired ctx) s (fun t => t.fns = s.fns ∧ t.nv = s.nv))) ∧
    (∀ (interval countB : Nat), s.lan.halted = false → 50 * ((interval : Int) - tfTicks s).natAbs ≤ tfTicks s →
      50 * ((countB : Int) - tfTicks s).natAbs ≤ tfTicks s → eventsPlaced s →
      Completes (.bMark interval countB) s (fun t =>
        t.rdl.devA = BitVec.ofInt 32 (ppmOf interval (tfTicks s)) ∧ t.rdl.devB = BitVec.ofInt 32 (ppmOf countB (tfTicks s)) ∧
        onlyTouches [.rdl] s t)) ∧
    (∀ (interval countB : Nat), s.lan.halted = false →
      tfTicks s < 50 * ((interval : Int) - tfTicks s).natAbs ∨ tfTicks s < 50 * ((countB : Int) - tfTicks s).natAbs →
      Completes (.bMark interval countB) s (faultActed 0x22))

/-- BL_PACKET_SEND: both packets leave, numbered and sealed, and each is one that the other end takes for valid when it has seen the one before. -/
def Obligations.SentPacketsAreValid : Prop :=
  ∀ (s : State) (l : Lane), awake s = true → seqOn s l = true → (linkAt s l).seqBank.length = 6 →
    Completes (.blPacketSend l) s (fun t => ∃ dn up : Bytes,
      t.fld.sent = s.fld.sent ++ [(l, true, dn), (l, false, up)] ∧
      validPacket dn 1 ((linkAt s l).dnSend + 15) = true ∧ validPacket up 2 ((linkAt s l).upSend + 15) = true ∧
      slice dn 2 12 = beBytes 12 (linkAt s l).image.toNat ∧ nbit (byteAt dn 1) 1 = sendsAllOff s l ∧ nbit (byteAt up 1) 1 = (linkAt s l).safe ∧
      (linkAt t l).dnSend = ((linkAt s l).dnSend + 1) % 16 ∧ (linkAt t l).upSend = ((linkAt s l).upSend + 1) % 16)

/-- BL_DOWNLINK_RX: a valid packet sets the gates, an invalid one is counted and the second in a row opens every safety gate. BL_SILENCE_SEQUENCER
opens them too. That a sound packet out of sequence sets the SEQ from which the next is judged is the model's reading of R199 (assumption 45); that
packets and silence count on a link that is down is assumption 57. -/
def Obligations.DownlinkPacketSetsGates : Prop :=
  ∀ (s : State) (l : Lane) (c : Image) (p : Bytes) (ch : Nat), channelHere s c ch isSafeOut → seqOn s l = true →
    (validPacket p 1 (linkAt s l).dnLast = true → nbit (byteAt p 1) 2 = false → (linkAt s l).st = .up → (linkAt s l).safe = false →
      Completes (.blDownlinkRx l p) s (fun t =>
        (linkAt t l).dnLast = byteAt p 0 % 16 ∧ (linkAt t l).badRun = 0 ∧
        (swAt (outChan t ch) l).gate =
          (nbit (beAt p 2 12) ch && !nbit (byteAt p 1) 1 && (bankAt s (ch / 16)).st != .untested))) ∧
    (validPacket p 1 (linkAt s l).dnLast = false →
      Completes (.blDownlinkRx l p) s (fun t =>
        (linkAt t l).err = satAdd (linkAt s l).err 1 ∧ (linkAt t l).rxErr = true ∧
        (linkAt t l).dnLast = (if soundPacket p 1 then byteAt p 0 % 16 else (linkAt s l).dnLast) ∧
        (1 ≤ (linkAt s l).badRun → (swAt (outChan t ch) l).gate = false))) ∧
    Completes (.blSilenceSequencer l) s (fun t => (linkAt t l).safe = true ∧ (swAt (outChan t ch) l).gate = false)

/-- BL_UPLINK_RX: a valid packet with SAFE is a fault at once, an invalid one is counted, and a latch packet in time gives the frame's latch.
BL_LATCH_MISS: a missed latch has every STATE bit 0 and the FAULT and BANK bytes of the frame before. The model's readings: a sound packet out of
sequence sets the SEQ from which the next is judged (assumption 45), and a miss is counted on a link that is down too (assumption 57). -/
def Obligations.UplinkLatchOrMiss : Prop :=
  ∀ (s : State) (l : Lane) (p : Bytes), awake s = true →
    (validPacket p 2 (linkAt s l).upLast = false → eventsPlaced s →
      exec (.blUplinkRx l p) s = .next (modLink s l (fun k => { k with err := satAdd k.err 1, upLast := seqAfter p 2 k.upLast }))) ∧
    ((linkAt s l).st ≠ .up → s.lan.timerOn = true → (linkAt s l).latOk = false → (linkAt s l).missed = false → Completes (.blLatchMiss l) s (fun t =>
      (linkAt t l).miss = satAdd (linkAt s l).miss 1 ∧ (linkAt t l).missed = true ∧ onlyTouches [.fld, .evt, .mail] s t)) ∧
    ((linkAt s l).st = .up → s.lan.timerOn = true →
      (validPacket p 2 (linkAt s l).upLast = true → nbit (byteAt p 1) 1 = true → Completes (.blUplinkRx l p) s (fun t =>
        faultActed 0x25 t ∧ (linkAt t l).st = .silence)) ∧
      (validPacket p 2 (linkAt s l).upLast = true → nbit (byteAt p 1) 1 = false → nbit (byteAt p 1) 0 = true →
        (linkAt s l).latOk = false → (linkAt s l).missed = false → (s.tb - s.lan.fstart).toNat ≤ 800 → Completes (.blUplinkRx l p) s (fun t =>
        (linkAt t l).latOk = true ∧ (linkAt t l).latState.toNat = beAt p 2 12 ∧ (linkAt t l).latFault.toNat = beAt p 14 12)) ∧
      ((linkAt s l).latOk = false → (linkAt s l).missed = false → (linkAt s l).missRun < 2 → Completes (.blLatchMiss l) s (fun t =>
        (linkAt t l).latState = 0 ∧ (linkAt t l).latFault = (linkAt s l).prevFault ∧ (linkAt t l).latBank = (linkAt s l).prevBank ∧
        (linkAt t l).miss = satAdd (linkAt s l).miss 1 ∧ (linkAt t l).missed = true)) ∧
      ((linkAt s l).latOk = false → (linkAt s l).missed = false → 2 ≤ (linkAt s l).missRun → Completes (.blLatchMiss l) s (faultActed 0x25)))

/-- BL_TRAIN_RETRY and BL_TRAINING: in HOLD both links train with every gate open; the answer that agrees brings the link up and out of its safe state,
with the parameters handed over, those of the configuration or in the first steps of a start-up the default ones; another one does not. -/
def Obligations.TrainingBringsLinksUp : Prop :=
  ∀ (s : State) (l : Lane), awake s = true → s.lan.inRun = false →
    (s.sys.halt = false → s.sys.running = 0 → s.sys.entering = false → s.sys.pwr = 1 → s.sys.convA = true → s.sys.convB = true →
      (s.lan.blFault = true ∨ s.fld.linkA.st ≠ .up ∨ s.fld.linkB.st ≠ .up) →
      Completes .blTrainRetry s (fun t => t.fld.linkA.st = .training ∧ t.fld.linkB.st = .training ∧
        t.fld.linkA.safe = s.fld.linkA.safe ∧ t.fld.linkB.safe = s.fld.linkB.safe ∧
        allGatesOpen t)) ∧
    (seqOn s l = true → (linkAt s l).st = .training →
      (∀ answer : Bytes, answer.take 4 = paramCrc (trainCfg s) → Completes (.blTraining l answer) s (fun t =>
        (linkAt t l).st = .up ∧ (linkAt t l).given = trainCfg s ∧ (linkAt t l).safe = false ∧ ((linkAt s l.other).st = .up → t.lan.blFault = false))) ∧
      (∀ answer : Bytes, answer.take 4 ≠ paramCrc (trainCfg s) → Completes (.blTraining l answer) s (fun t =>
        (linkAt t l).st = .down ∧ (linkAt t l).given = (linkAt s l).given ∧ (linkAt t l).safe = (linkAt s l).safe ∧ t.lan.blFault = s.lan.blFault)))

/-- The comparator of an input and the filter over its samples, band runs of a monitored input, a disagreement, the clearing of each cause, and the
final cause of a code fault: each changes what R153 to R170 name, and nothing else of the channel. Test-pulse sources: a second slot error in 24 slots,
an overload and a failed check fault the source; restart, 24 good slots and a passed check put it back; a slot has one pulse, placed by its code. -/
def Obligations.InputAndSourceCommands : Prop :=
  (∀ (c : Image) (l : Lane) (ch : Nat) (was : Bool) (mv : Int), (mv ≤ 5000 → comparator c l ch was mv = false) ∧
      (15000 ≤ mv → comparator c l ch was mv = true) ∧ (chanType c ch ≠ 1 → 11000 ≤ mv → comparator c l ch was mv = true)) ∧
  (∀ (s : State) (l : Lane) (c : Image) (ch : Nat), channelHere s c ch isSafeIn → eventsPlaced s →
      (∀ xs, exec (.inputFilterAccept l ch xs) s = .next (modSeq s l ch (fun q =>
        if (chanSrc c ch).isNone then forgetCmps (xs.foldl (takeSample s c l ch) q) s.tb else xs.foldl (takeSample s c l ch) q))) ∧
      (∀ x raw, chanUse c ch = 1 → (chanSrc c ch).any (sourceOn s) = false → comparator c l ch (cmpAt (seqAt s l ch) x.tb) x.mv = raw →
        Completes (.inputFilterAccept l ch [x]) s (fun t =>
          (raw = (seqAt s l ch).acc → (seqAt t l ch).acc = (seqAt s l ch).acc ∧ (seqAt t l ch).pend = none) ∧
          (raw ≠ (seqAt s l ch).acc → (seqAt s l ch).pend = none → (seqAt t l ch).acc = (seqAt s l ch).acc ∧ (seqAt t l ch).pend = some x.tb) ∧
          (∀ t0, raw ≠ (seqAt s l ch).acc → (seqAt s l ch).pend = some t0 →
            (seqAt t l ch).acc = if filtTicks c ch ≤ (x.tb - t0).toNat then raw else (seqAt s l ch).acc))) ∧
      (chanUse c ch ≠ 2 → ∀ xs, exec (.bandRunFault l ch xs) s = .next s) ∧
      (∀ x y, chanUse c ch = 2 → (chanSrc c ch).any (sourceOn s) = false → x.ua < 400 → bandSuspended s c ch x.feed = false →
        bandSuspended s c ch y.feed = false → filtTicks c ch ≤ (y.tb - x.tb).toNat → (seqAt s l ch).run = none → (seqAt s l ch).bandFaults = [] →
        (y.ua < 400 → Completes (.bandRunFault l ch [x, y]) s (fun t => (seqAt t l ch).bandFaults = [1] ∧ onlyTouches [.fld] s t)) ∧
        ((400 ≤ y.ua ∧ y.ua < 550) ∨ (1500 < y.ua ∧ y.ua < 2000) → Completes (.bandRunFault l ch [x, y]) s (fun t =>
          (seqAt t l ch).bandFaults = [2] ∧ onlyTouches [.fld] s t))) ∧
      (∀ x, chanUse c ch = 2 → bandSuspended s c ch x.feed = true → Completes (.bandRunFault l ch [x]) s (fun t =>
        (seqAt t l ch).run = none ∧ (seqAt t l ch).bandFaults = (seqAt s l ch).bandFaults)) ∧
      (3 ≤ (inAt s ch).differ → s.fld.insPrev.length = 96 → s.lan.imgs ≠ [] → Completes (.inputDisagree ch) s (fun t =>
        (inAt t ch).dis = true ∧ (inAt t ch).fault = true ∧ (inAt t ch).state = false ∧ 5 ∈ (inAt t ch).causes)) ∧
      (∀ cause, Completes (.inputFaultClear ⟨ch, cause⟩) s (fun t =>
        (cause = 5 → (inAt s ch).differ = 0 → absentFor s (inAt s ch).disTb (clrTicks s c ch) = true → (inAt t ch).dis = false) ∧
        (cause = 6 → sourceBad s c ch = false → absentFor s (inAt s ch).srcTb (clrTicks s c ch) = true → (inAt t ch).srcBad = false) ∧
        (cause = 1 ∨ cause = 2 → sourceBad s c ch = false → (seqAt s l ch).run = none →
          absentFor s (if cause = 1 then (seqAt s l ch).breakTb else (seqAt s l ch).indetTb) (clrTicks s c ch) = true →
          ∀ x, x ∈ (seqAt t l ch).bandFaults ↔ x ∈ (seqAt s l ch).bandFaults ∧ x ≠ cause) ∧
        (seqAt t l ch).codeFault = (seqAt s l ch).codeFault ∧ onlyTouches [.fld] s t)) ∧
      (∀ i, chanSrc c ch = some i → (seqAt s l ch).codeFault.isSome = true → (seqAt s l ch).final = false →
        (seqAt s l ch).firstMis + 24 ≤ slotNow s c i →
        Completes (.codeCauseFinal l ch) s (fun t => (seqAt t l ch).final = true ∧ onlyTouches [.fld] s t ∧
          ((∀ x ∈ (seqAt s l ch).judged, x.2 = true) → (seqAt t l ch).codeFault = some 3 ∧ (seqAt t l ch).foreign = 0x1F) ∧
          (∀ x ∈ (seqAt s l ch).judged, x.2 = false → (seqAt s l ch).firstMis ≤ x.1 → x.1 < (seqAt s l ch).firstMis + 24 →
            (seqAt t l ch).codeFault = some 4))) ∧
      (∀ i p low (t0 t1 t2 : BitVec 64), t0.toNat < t1.toNat → t1.toNat < t2.toNat → chanSrc c ch = some i → chanUse c ch = 1 → (srcAt s i).st = .active → sourceBad s c ch = false → s.lan.halted = false →
        endedPulse s c i = some p → (low ≤ 5000 ∨ 15000 ≤ low) → Completes (.testPulseSlot [] [⟨l, ch, ⟨t0, 24000, 0⟩, ⟨t1, low, 0⟩, ⟨t2, 24000, 0⟩⟩]) s
          (fun t =>
          (seqAt t l ch).judged = ((p.slot, decide (15000 ≤ low)) :: (seqAt s l ch).judged).take 48))) ∧
  (∀ (s : State) (c : Image) (i : Nat), awake s = true → s.cfg = some c → i < nSrcOf s.sys.variant → s.fld.srcs.length = 24 →
      (sourceOn s i = true → Completes (.sourceOverload i) s (fun t =>
        (srcAt t i).st = .faulted ∧ (srcAt t i).stopped = true ∧ onlyTouches [.evt, .mail, .fld] s t)) ∧
      ((srcAt s i).st = .faulted → (srcAt s i).stopped = true → s.sys.convA = true → (ownSrc c i).isSome = true →
        Completes (.sourceRestart i) s (fun t => (srcAt t i).st = .faulted ∧ (srcAt t i).stopped = false ∧ (srcAt t i).good = 0)) ∧
      (ownSrc c i = none → eventsPlaced s → exec (.sourceRestart i) s = .next s) ∧
      (∀ r a b, (srcAt s i).st = .untested → bankGood (bankAt s (i / 4)) = true → ownSrc c i = some r → s.sys.convA = true →
        Completes (.sourceCheck i a b) s (fun t =>
          (srcAt t i).st = if checkBad s i (r.width * 100) a || checkBad s i (r.width * 100) b then .faulted else .active)) ∧
      (∀ w lo hi late, lo ≤ 2000 → vlp (bankAt s (i / 4)) * 100 ≤ hi + 1000 →
        checkBad s i w ⟨some ⟨w, lo⟩, some ⟨w, lo⟩, hi⟩ = false ∧ checkBad s i w ⟨none, late, hi⟩ = true ∧
        checkBad s i w ⟨some ⟨w + 2001, lo⟩, late, hi⟩ = true ∧ checkBad s i w ⟨late, some ⟨w, 2001⟩, hi⟩ = true) ∧
      (s.lan.timerOn = true → s.fld.linkA.par = some c → s.lan.halted = false → s.sys.convA = true → s.sys.convB = true →
        (∀ p a b, endedPulse s c i = some p → (srcAt s i).st = .active → (srcAt s i).errA = [true] → (srcAt s i).errB = [false] →
          Completes (.testPulseSlot [⟨i, a, b⟩] []) s (fun t => (srcAt t i).st = if slotError s i p a then .faulted else .active)) ∧
        (∀ p a b, endedPulse s c i = some p → (srcAt s i).st = .faulted → (srcAt s i).stopped = false → (srcAt s i).good = 23 →
          slotError s i p a = false → slotError s i p b = false →
          Completes (.testPulseSlot [⟨i, a, b⟩] []) s (fun t => (srcAt t i).st = .active)) ∧
        (∀ n r, slotBegins s c i = some n → ownSrc c i = some r → sourceOn s i = true → Completes (.testPulseSlot [] []) s (fun t =>
          (srcAt t i).placed = some ⟨n, codeBit (codeOf c i) (n % 24),
            s.lan.fstart + BitVec.ofNat 64 (r.slotDiv * tfTicks s * (if codeBit (codeOf c i) (n % 24) then 1 else 3) / 4), r.width * 100⟩))))

/-- The fault commands of an output channel set the OCAUSE that R187 gives them; SHORT and THERMAL also open the switch. Faults clear as R180 and R187
say: THERMAL when both switches are cool, the others after the channel has been off, GANG on both channels of the pair and only when both are off. -/
def Obligations.OutputFaultsSetAndClear : Prop :=
  (∀ (s : State) (l : Lane) (c : Image) (ch : Nat), channelHere s c ch isOut →
      Completes (.readbackFault l ch) s (fun t =>
        hasCause t ch (if bothOn (outChan s ch) then 1 else 2) ∧ onlyTouches [.evt, .mail, .fld] s t) ∧
      (bothOpen (outChan s ch) = true → Completes (.midpointFault l ch) s (fun t => hasCause t ch 6)) ∧
      (∀ m, gangMate c ch = some m → m < 96 → Completes (.gangFault ch) s (fun t => hasCause t ch 8 ∧ hasCause t m 8)) ∧
      Completes (.shortCircuit l ch) s (fun t => hasCause t ch 4 ∧ (outChan t ch).swA.opened = true ∧ (outChan t ch).swB.opened = true) ∧
      Completes (.thermalShutdown l ch) s (fun t =>
        hasCause t ch 5 ∧ (swAt (outChan t ch) l).opened = true ∧ (swAt (outChan t ch) l).therm = true ∧
        (isSafeOut c ch = true → (swAt (outChan s ch) l).gate = true → (swAt (outChan t ch) l).held = true) ∧
        (chanUse c ch = 6 → thermLatch c ch = true → t.host.stdLatch.getLsbD ch = true ∧ (swAt (outChan t ch) l).held = true))) ∧
  (∀ (s : State) (l : Lane) (c : Image) (ch : Nat), channelHere s c ch isOut → eventsPlaced s →
      ((swAt (outChan s ch) l.other).therm = false → Completes (.thermalCooled l ch) s (fun t =>
        ¬ hasCause t ch 5 ∧ (swAt (outChan t ch) l).therm = false ∧ (∀ x, x ≠ 5 → (hasCause t ch x ↔ hasCause s ch x)) ∧
        ((swAt (outChan s ch) l).held = true → (swAt (outChan t ch) l).opened = true) ∧
        ((swAt (outChan s ch) l).held = false → ¬ hasCause s ch 4 → (swAt (outChan t ch) l).opened = false) ∧ onlyTouches [.fld] s t)) ∧
      (bothOn (outChan s ch) = false → Completes (.outputFaultClear ch) s (fun t =>
        ¬ hasCause t ch 1 ∧ ¬ hasCause t ch 2 ∧ ¬ hasCause t ch 3 ∧ ¬ hasCause t ch 4 ∧
        (∀ x, 5 ≤ x → x ≠ 8 → (hasCause t ch x ↔ hasCause s ch x)) ∧
        (∀ k, k ≠ ch → ∀ x, x ≠ 8 → (hasCause t k x ↔ hasCause s k x)) ∧
        ((∀ k ∈ pairOf s ch, bothOn (outChan s k) = false) →
          (∀ k ∈ pairOf s ch, ¬ hasCause t k 8) ∧ ∀ k, k ∉ pairOf s ch → outChan t k = outChan s k) ∧
        ((∃ k ∈ pairOf s ch, bothOn (outChan s k) = true) →
          (∀ k, hasCause t k 8 ↔ hasCause s k 8) ∧ ∀ k, k ≠ ch → outChan t k = outChan s k) ∧
        onlyTouches [.fld] s t)))

/-- Off-pulses: one that falls due starts on a channel that is on and on its gang partner, waits in a sag, while the other switch is pulsed and near a
frame marker, and only the second failed pulse in a row sets PULSE. Single-switch tests: both steps run, each sets the fault it finds, and only a test of
which both have passed clears SSW_A and SSW_B; the test that falls due and the one that is overdue. -/
def Obligations.OutputTestsRun : Prop :=
  (∀ (s : State) (l : Lane) (c : Image) (ch : Nat), channelHere s c ch isSafeOut → eventsPlaced s →
      (bothOn (outChan s ch) = true → testsRest s = false →
        ((∀ k ∈ pairOf s ch, (swAt (outChan s k) l.other).pulsing = false) → nearMarker s = false →
          ((bankAt s (ch / 16)).st = .ok → Completes (.offPulse l ch) s (fun t =>
            (∀ k ∈ pairOf s ch, bothOn (outChan s k) = true → (swAt (outChan t k) l).pulsing = true) ∧ onlyTouches [.fld] s t)) ∧
          ((swAt (outChan s ch) l).deferred = true → Completes (.deferredOffPulse l ch) s (fun t =>
            (swAt (outChan t ch) l).pulsing = true ∧ (swAt (outChan t ch) l).deferred = false)) ∧
          ((swAt (outChan s ch) l).failed = true → (bankAt s (ch / 16)).st = .ok → Completes (.offPulseRepeat l ch) s (fun t =>
            (swAt (outChan t ch) l).pulsing = true ∧ (swAt (outChan t ch) l).failed = true))) ∧
        ((∀ k ∈ pairOf s ch, (swAt (outChan s k) l.other).pulsing = false) → nearMarker s = true → (bankAt s (ch / 16)).st = .ok →
          Completes (.offPulse l ch) s (fun t =>
            (swAt (outChan t ch) l).shifted = true ∧ (swAt (outChan t ch) l).pulsing = (swAt (outChan s ch) l).pulsing)) ∧
        ((bankAt s (ch / 16)).st = .sag ∨ (swAt (outChan s ch) l.other).pulsing = true → Completes (.offPulse l ch) s (fun t =>
          (swAt (outChan t ch) l).deferred = true ∧ (swAt (outChan t ch) l).pulsing = (swAt (outChan s ch) l).pulsing))) ∧
      ((swAt (outChan s ch) l).pulsing = true →
        Completes (.offPulseJudge l ch true) s (fun t =>
          (swAt (outChan t ch) l).pulsing = false ∧ (swAt (outChan t ch) l).failed = false ∧ (outChan t ch).causes = (outChan s ch).causes) ∧
        ((swAt (outChan s ch) l).failed = false → Completes (.offPulseJudge l ch false) s (fun t =>
          (swAt (outChan t ch) l).failed = true ∧ (outChan t ch).causes = (outChan s ch).causes)) ∧
        ((swAt (outChan s ch) l).failed = true → Completes (.offPulseJudge l ch false) s (fun t => hasCause t ch 3)))) ∧
  (∀ (s : State) (c : Image) (ch : Nat), channelHere s c ch isOut →
      ((∀ k ∈ pairOf s ch, bothOpen (outChan s k) = true) → testsRest s = false → Completes (.sswTestDue ch) s (fun t =>
        ∀ k ∈ pairOf s ch, (outChan t k).test = 1)) ∧
      ((∃ k ∈ pairOf s ch, bothOpen (outChan s k) = false) ∨ testsRest s = true → Completes (.sswTestDue ch) s (fun t =>
        (outChan t ch).testDue = true ∧ (outChan t ch).test = (outChan s ch).test)) ∧
      ((outChan s ch).overdue = false → Completes (.sswOverdue ch) s (fun t =>
        (outChan t ch).overdue = true ∧ (outChan t ch).causes = (outChan s ch).causes ∧ onlyTouches [.evt, .mail, .fld] s t)) ∧
      (bothOpen (outChan s ch) = true → testsRest s = false → ∀ midA pinA midB pinB,
        ((outChan s ch).test = 1 → Completes (.singleSwitchTestDone ch 1 midA pinA midB pinB) s (fun t =>
          (outChan t ch).test = 2 ∧ (5000 ≤ midA ∨ 5000 ≤ midB → hasCause t ch 6) ∧ (5000 ≤ pinA ∨ 5000 ≤ pinB → hasCause t ch 2) ∧
          ((outChan t ch).testBad = false ↔ midA < 5000 ∧ pinA < 5000 ∧ midB < 5000 ∧ pinB < 5000) ∧
          (∀ x, hasCause s ch x → hasCause t ch x))) ∧
        ((outChan s ch).test = 2 → 8000 ≤ midA → pinA < 5000 → 8000 ≤ midB → pinB < 5000 →
          ((outChan s ch).testBad = false → Completes (.singleSwitchTestDone ch 2 midA pinA midB pinB) s (fun t =>
            (outChan t ch).test = 0 ∧ (outChan t ch).tested = true ∧ ¬ hasCause t ch 6 ∧ ¬ hasCause t ch 7)) ∧
          ((outChan s ch).testBad = true → Completes (.singleSwitchTestDone ch 2 midA pinA midB pinB) s (fun t =>
            (outChan t ch).test = 0 ∧ (outChan t ch).tested = (outChan s ch).tested ∧ (outChan t ch).causes = (outChan s ch).causes))) ∧
        ((outChan s ch).test = 2 → midA < 8000 ∨ midB < 8000 ∨ 5000 ≤ pinA ∨ 5000 ≤ pinB →
          Completes (.singleSwitchTestDone ch 2 midA pinA midB pinB) s (fun t =>
            (outChan t ch).test = 0 ∧ (outChan t ch).tested = (outChan s ch).tested ∧ hasCause t ch 7))))

/-- Bank commands: what a sequencer reports is held for the latch, a completed MONITOR run makes the bank LOW, a fed bank is tested; the latch of a
frame takes every bank through the transitions of its state. That a bank whose tests have run while no frames do is OK at once is the model's reading
(assumption 60). -/
def Obligations.BankCommandsActOnTheirBank : Prop :=
  ∀ (s : State) (b : Nat), awake s = true → s.sys.convA = true → s.sys.convB = true → b < nBankOf s.sys.variant → s.fld.banks.length = 6 →
    s.fld.outs.length = 96 → eventsPlaced s →
    exec (.rideThroughExpiry .a b) s = .next (modBank s b (fun k => { k with expA := true })) ∧
    exec (.rideThroughExpiry .b b) s = .next (modBank s b (fun k => { k with expB := true })) ∧
    exec (.bankOvercurrent .a b) s = .next (modBank s b (fun k => { k with ocA := true })) ∧
    exec (.bankOvercurrent .b b) s = .next (modBank s b (fun k => { k with ocB := true })) ∧
    ((bankAt s b).st = .sag ∨ (bankAt s b).st = .low → exec (.bankFeedRecovery b) s = .next (modBank s b (fun k => { k with recovered := true }))) ∧
    (∀ t0, (bankAt s b).st = .ok → (bankAt s b).monSince = some t0 → 1000000 ≤ (s.lan.fstart - t0).toNat → s.fld.linkA.latBank.getD b 0 < 96 →
      s.fld.linkB.latBank.getD b 0 < 96 → s.fld.banksPrev.length = 6 → (s.fld.banksPrev.getD b BankSt.reset).recovered = false →
      Completes (.bankMonitorFault b) s (fun t => (bankAt t b).st = .low ∧ (bankAt t b).cause = 4 ∧ onlyTouches [.evt, .mail, .fld, .lan] s t)) ∧
    ((bankAt s b).monSince = none → exec (.bankMonitorFault b) s = .next s) ∧
    ((bankAt s b).st = .untested → s.lan.timerOn = true → Completes (.bankQualified b) s (fun t =>
      (bankAt t b).testing = true ∧ (bankAt t b).st = .untested ∧
      ∀ i, i < 16 → outputHere s (16 * b + i) = true → (∀ k ∈ pairOf s (16 * b + i), bothOpen (outChan s k) = true) → testsRest s = false →
        (outChan t (16 * b + i)).test = 1)) ∧
    ((bankAt s b).st = .untested → s.lan.timerOn = false → s.fld.outs = List.replicate 96 OutCh.reset → testsRest s = false →
      Completes (.bankQualified b) s (fun t => (bankAt t b).st = .untested ∧ (bankAt t b).testing = true ∧
        ∀ i, i < 16 → (outChan t (16 * b + i)).test = 1)) ∧
    (∀ ch midA pinA midB pinB, ch / 16 = b → (bankAt s b).testing = true → s.lan.timerOn = false → testsRest s = false → (outChan s ch).test = 2 →
      bothOpen (outChan s ch) = true → (∀ i, i < 16 → 16 * b + i ≠ ch → testOpen (outChan s (16 * b + i)) = false) →
      Completes (.singleSwitchTestDone ch 2 midA pinA midB pinB) s (fun t => (bankAt t b).st = .ok)) ∧
    (∀ c o, s.cfg = some c → s.lan.timerOn = true → s.lan.halted = false → waitsTraining s = false → Completes (.frameStart o) s (fun t =>
      (bankAt t b).st = (judgeBank t b (t.fld.banksPrev.getD b BankSt.reset)).1.st)) ∧
    ∀ (p : BankSt) (rode loss heavy : Bool),
      rode = (decide (96 ≤ s.fld.linkA.latBank.getD b 0 % 256) || decide (96 ≤ s.fld.linkB.latBank.getD b 0 % 256)) →
      loss = (decide (128 ≤ s.fld.linkA.latBank.getD b 0) || decide (128 ≤ s.fld.linkB.latBank.getD b 0)) →
      heavy = (nbit (s.fld.linkA.latBank.getD b 0) 4 || nbit (s.fld.linkB.latBank.getD b 0) 4) →
      p.feedA ≤ p.feedB + 10 → p.feedB ≤ p.feedA + 10 →
      (p.st = .ok ∨ p.st = .sag ∨ p.st = .low → rode = true → loss = true → (judgeBank s b p).1.st = .lost ∧ (judgeBank s b p).1.cause = 2) ∧
      (p.st = .ok ∨ p.st = .sag → rode = true → loss = false → (judgeBank s b p).1.st = .low ∧ (judgeBank s b p).1.cause = 1) ∧
      (p.st = .ok ∨ p.st = .sag → rode = false → heavy = true → (judgeBank s b p).1.st = .low ∧ (judgeBank s b p).1.cause = 3) ∧
      (p.st = .ok → rode = false → heavy = false → (judgeBank s b p).1.st = if vlp p < bankWarn s b then .sag else .ok) ∧
      (p.st = .sag → rode = false → heavy = false → (judgeBank s b p).1.st = if p.recovered = true ∧ bankWarn s b ≤ vlp p then .ok else .sag) ∧
      (p.st = .low → rode = false ∨ loss = false → (judgeBank s b p).1.st = if p.recovered = true ∧ bankWarn s b < vlp p then .ok else .low) ∧
      (p.st = .lost → (judgeBank s b p).1.st = if 90 < vlp p then .untested else .lost) ∧
      (p.st = .untested → (judgeBank s b p).1.st = if p.testsRun = true ∧ bankWarn s b < vlp p then .ok else .untested)

/-- ENCODER_EDGE: each half counts what its own receivers have accepted, a level after three equal samples: an edge of a quadrature port counts one up
or down, an unchanged pair and a glitch nothing, a pickup counts rising edges up, and both levels changing at once is ILLEGAL on a configured axis, of
the half that found it. F(n) latches count and speed: the larger of the two halves' estimates of each port, and of primary and secondary. That a port
without a record counts as a quadrature port is the model's reading (assumption 62). -/
def Obligations.EncoderEdgeCountsInBothHalves : Prop :=
  (∀ (s : State) (ax : Nat) (x : Levels), awake s = true → hasSmuOf s.sys.variant = true → ax < 4 → s.smu.length = 4 →
    (settled (axisAt s ax).pA → (∀ r, axisRec s ax = some r → r.ptype ≠ 3) →
      ((x.a ≠ (axisAt s ax).pA.la ↔ x.b = (axisAt s ax).pA.lb) →
        (Completes (.encoderEdge ax 0 [x, x, x] true false) s (fun t =>
          ∃ d : BitVec 48, (d = 1 ∨ d = -1) ∧ (axisAt t ax).pA.pos = (axisAt s ax).pA.pos + d ∧ (axisAt t ax).pA.t1 = s.tb ∧
            (axisAt t ax).pB = (axisAt s ax).pB ∧ (axisAt t ax).sA = (axisAt s ax).sA)) ∧
        (settled (axisAt s ax).pB → (axisAt s ax).pB.la = (axisAt s ax).pA.la → (axisAt s ax).pB.lb = (axisAt s ax).pA.lb →
          Completes (.encoderEdge ax 0 [x, x, x] true true) s (fun t =>
            ∃ d : BitVec 48, (d = 1 ∨ d = -1) ∧ (axisAt t ax).pA.pos = (axisAt s ax).pA.pos + d ∧ (axisAt t ax).pB.pos = (axisAt s ax).pB.pos + d ∧
              (axisAt t ax).pA.t1 = s.tb ∧ (axisAt t ax).pB.t1 = s.clkB ∧ (axisAt t ax).sA = (axisAt s ax).sA))) ∧
      (x.a = (axisAt s ax).pA.la → x.b = (axisAt s ax).pA.lb → Completes (.encoderEdge ax 0 [x, x, x] true false) s (fun t =>
        (axisAt t ax).pA.pos = (axisAt s ax).pA.pos ∧ (axisAt t ax).pB = (axisAt s ax).pB)) ∧
      Completes (.encoderEdge ax 0 [x, x, ⟨(axisAt s ax).pA.la, (axisAt s ax).pA.lb, (axisAt s ax).pA.lz⟩] true false) s (fun t =>
        (axisAt t ax).pA.pos = (axisAt s ax).pA.pos ∧ (axisAt t ax).pA.la = (axisAt s ax).pA.la ∧ (axisAt t ax).pA.lb = (axisAt s ax).pA.lb ∧
        (axisAt t ax).causes = (axisAt s ax).causes)) ∧
    Completes (.encoderEdge ax 0 [x, x, x] false true) s (fun t => (axisAt t ax).pA = (axisAt s ax).pA) ∧
    (∀ r inB, axisRec s ax = some r → settled (axisAt s ax).sA →
      (r.stype = 3 → Completes (.encoderEdge ax 1 [x, x, x] true inB) s (fun t =>
        (axisAt t ax).sA.pos = (axisAt s ax).sA.pos + (if x.a = true ∧ (axisAt s ax).sA.la = false then 1 else 0) ∧
        (axisAt t ax).pA = (axisAt s ax).pA)) ∧
      (r.stype ≠ 3 → (x.a ≠ (axisAt s ax).sA.la ↔ x.b = (axisAt s ax).sA.lb) → Completes (.encoderEdge ax 1 [x, x, x] true inB) s (fun t =>
        ∃ d : BitVec 48, (d = 1 ∨ d = -1) ∧ (axisAt t ax).sA.pos = (axisAt s ax).sA.pos + d ∧ (axisAt t ax).pA = (axisAt s ax).pA))) ∧
    (∀ r, axisRec s ax = some r → r.ptype ≠ 3 → settled (axisAt s ax).pA → x.a ≠ (axisAt s ax).pA.la → x.b ≠ (axisAt s ax).pA.lb →
      (axisAt s ax).causes = [] → Completes (.encoderEdge ax 0 [x, x, x] true false) s (fun t =>
        (axisAt t ax).causes.head? = some ⟨1, 1, 0⟩ ∧ (axisAt t ax).pA.pos = (axisAt s ax).pA.pos)) ∧
    (∀ c o, s.cfg = some c → s.lan.timerOn = true → s.lan.halted = false → waitsTraining s = false → s.lan.startAt = none →
      Completes (.frameStart o) s (fun t =>
        (axisAt t ax).lat = (axisAt s ax).pA.pos ∧
        (axisAt t ax).pA.past.head? = some ((axisAt s ax).pA.pos, (axisAt s ax).pA.t1) ∧
        (axisAt t ax).sB.past.head? = some ((axisAt s ax).sB.pos, (axisAt s ax).sB.t1) ∧
        (axisRec s ax = none → (axisAt t ax).spd = 0) ∧
        ∀ r, axisRec s ax = some r → (axisAt t ax).spd = (axisJudge r
          (largerSpeed (halfSpeed (axisAt s ax).pA r.spwin s.tb false) (halfSpeed (axisAt s ax).pB r.spwin (s.clkB + BitVec.ofNat 64 o.lagB) false))
          (largerSpeed (halfSpeed (axisAt s ax).sA r.spwin s.tb (r.stype == 3))
            (halfSpeed (axisAt s ax).sB r.spwin (s.clkB + BitVec.ofNat 64 o.lagB) (r.stype == 3)))).v))) ∧
  (∀ (h : PortHalf) (spwin : Nat) (now : BitVec 64) (pickup : Bool),
    (h.counted = false → halfSpeed h spwin now pickup = 0) ∧
    (h.counted = true → (h.pos - (h.past.getD (spwin - 1) (0, 0)).1).toInt ≠ 0 → h.t1 ≠ (h.past.getD (spwin - 1) (0, 0)).2 →
      halfSpeed h spwin now false = ((h.pos - (h.past.getD (spwin - 1) (0, 0)).1).toInt * (100000000 * 2 ^ 32)).tdiv
        (h.t1 - (h.past.getD (spwin - 1) (0, 0)).2).toNat) ∧
    (h.pos = (h.past.getD (spwin - 1) (0, 0)).1 → (halfSpeed h spwin now pickup).natAbs ≤ h.v.natAbs)) ∧
  (∀ (x y : Int), x.natAbs ≤ (largerSpeed x y).natAbs ∧ y.natAbs ≤ (largerSpeed x y).natAbs ∧ (largerSpeed x y = x ∨ largerSpeed x y = y)) ∧
  (∀ (r : AxisRec) (vP vS : Int), vP.natAbs ≤ (axisJudge r vP vS).v.natAbs ∧ ((vS * r.ratio) / 2 ^ 32).natAbs ≤ (axisJudge r vP vS).v.natAbs)

/-- Axis faults: a wire fault of an RS-422 port, a speed disagreement that has outlasted XTIME, and a cause that has been absent from a port and
clears there; XCHECK clears once the deviation is within its tolerance, DECODE does not clear. -/
def Obligations.AxisFaultsSetAndClear : Prop :=
  ∀ (s : State) (l : Lane) (ax port : Nat) (r : AxisRec), awake s = true → hasSmuOf s.sys.variant = true → ax < 4 → port < 2 → s.smu.length = 4 →
    axisRec s ax = some r →
    (portType r port = 2 → Completes (.encoderWireFault l ax port) s (fun t => hasAxisCause t ax 2 ∧ onlyTouches [.evt, .mail, .smu] s t)) ∧
    (r.xtime * 100000 < (axisAt s ax).xt → Completes (.xcheckFault ax) s (fun t =>
      hasAxisCause t ax 4 ∧ (axisAt t ax).pA = (axisAt s ax).pA ∧ onlyTouches [.evt, .mail, .smu] s t)) ∧
    (∀ cause, cause ≠ 3 → cause ≠ 4 → (∀ k ∈ (axisAt s ax).causes, k.cause = cause → causePorts k = BitVec.ofNat 2 (port + 1)) →
      Completes (.axisFaultClear ax ⟨port, cause⟩) s (fun t =>
        ¬ hasAxisCause t ax cause ∧ (∀ x, x ≠ cause → (hasAxisCause t ax x ↔ hasAxisCause s ax x)))) ∧
    (∀ cause, cause ≠ 3 → cause ≠ 4 → (∃ k ∈ (axisAt s ax).causes, k.cause = cause ∧ causePorts k = 3) →
      Completes (.axisFaultClear ax ⟨port, cause⟩) s (fun t => hasAxisCause t ax cause)) ∧
    ((axisAt s ax).xt = 0 → Completes (.axisFaultClear ax ⟨port, 4⟩) s (fun t => ¬ hasAxisCause t ax 4)) ∧
    (eventsPlaced s → exec (.axisFaultClear ax ⟨port, 3⟩) s = .next s ∧ ((axisAt s ax).xt ≠ 0 → exec (.axisFaultClear ax ⟨port, 4⟩) s = .next s))

/-- KSL_FRAME_RX: a frame is foreign, fails its checks, is old, is fenced, or is accepted, in this order; each is counted and only the last is taken.
From a port it must be addressed to the node on a port that carries KSL, and of two copies of a doubly-attached node one passes. -/
def Obligations.ReceivedFramesAreSorted : Prop :=
  ∀ (s : State) (b : Bytes), awake s = true →
    (carriedBy s b 2 = true →
      (consWith s (parseKsl b).connId = none → Completes (.kslFrameRx .tunnel b) s (fun t =>
        t.ksl.foreignCnt = satAdd s.ksl.foreignCnt 1 ∧ t.ksl.cons = s.ksl.cons ∧ t.ksl.rxCnt = s.ksl.rxCnt)) ∧
      (∀ x, consWith s (parseKsl b).connId = some x → byteAt b 0 = 1 → x.conn.type = (parseKsl b).type → checkPass x.key b ≠ (true, true) →
        Completes (.kslFrameRx .tunnel b) s (fun t =>
          t.ksl.chkCnt = satAdd s.ksl.chkCnt 1 ∧ t.ksl.rxCnt = s.ksl.rxCnt ∧
          (consWith t x.conn.id).map (fun y => (y.newest, y.lastSeq, y.st, y.chk)) = some (x.newest, x.lastSeq, x.st, satAdd x.chk 1))) ∧
      (∀ x, consWith s (parseKsl b).connId = some x → frameFits x b → (parseKsl b).sync = false → (parseKsl b).seq ≤ x.lastSeq →
        Completes (.kslFrameRx .tunnel b) s (fun t => t.ksl.oldCnt = satAdd s.ksl.oldCnt 1 ∧ t.ksl.cons = s.ksl.cons ∧ t.ksl.rxCnt = s.ksl.rxCnt)) ∧
      (∀ x, consWith s (parseKsl b).connId = some x → frameFits x b → (parseKsl b).sync = false → x.lastSeq < (parseKsl b).seq →
        (leaseConn x.conn = true → hasCutting s x.conn.fid = true → (parseKsl b).leaseEpoch.toNat < (knownEpoch s x.conn.fid).toNat →
          Completes (.kslFrameRx .tunnel b) s (fun t => t.ksl.fenceCnt = satAdd s.ksl.fenceCnt 1 ∧ t.ksl.rxCnt = s.ksl.rxCnt ∧
            (consWith t x.conn.id).map (fun y => (y.newest, y.lastSeq)) = some (x.newest, x.lastSeq))) ∧
        (leaseConn x.conn = false ∨ hasCutting s x.conn.fid = false ∨ (knownEpoch s x.conn.fid).toNat ≤ (parseKsl b).leaseEpoch.toNat →
          Completes (.kslFrameRx .tunnel b) s (fun t =>
            t.ksl.rxCnt = satAdd s.ksl.rxCnt 1 ∧
            (leaseConn x.conn = true → hasCutting s x.conn.fid = true → (knownEpoch t x.conn.fid) = (parseKsl b).leaseEpoch) ∧
            (consWith t x.conn.id).map (fun y => (y.newest, y.lastSeq)) = some (some (parseKsl b, s.tb, s.clkB), (parseKsl b).seq))))) ∧
    (∀ p dst src, carriesKsl s p = false → p < 2 → Completes (.kslFrameRx (.raw p dst src) b) s (fun t =>
      t.ksl = s.ksl ∧ onlyTouches [.evt, .mail, .net] s t)) ∧
    (∀ p a src, carriesKsl s p = true → p < 2 → ownAddr s = some a → src ≠ a.mac → carriedBy s b 0 = true →
      (pmodeOf s ≠ 2 → exec (.kslFrameRx (.raw p a.mac src) b) s = finish s (receiveKsl (countRx s p) (b.take 96))) ∧
      (∀ seq lan t0, pmodeOf s = 2 → trailerOf b = some (seq, lan) → (src, seq, t0) ∈ s.net.prpSeen → (s.tb - t0).toNat < 40000000 →
        Completes (.kslFrameRx (.raw p a.mac src) b) s (fun t => t.ksl = s.ksl)))

/-- A frame that a node releases on a connection, the same in both lanes, passes both checks of a receiver with the connection's key. -/
def Obligations.ReleasedFramesPassChecks : Prop :=
  ∀ (k : BitVec 32) (f : KFrame), f.type < 8 → f.nw < 256 → f.echoIdx < 256 → f.connId < 2 ^ 32 → f.seq < 2 ^ 48 → f.ts < 2 ^ 48 →
    f.echoHold < 2 ^ 16 → f.payload.length = 48 →
    checkPass (bothKeys k) (kslBytes (bothKeys k) f f) = (true, true) ∧ (kslBytes (bothKeys k) f f).length = 96 ∧
    parseKsl (kslBytes (bothKeys k) f f) = f

/-- CONN_TIMEOUT, CONN_CHECK_FAULT and SYNC_REQUEST: a connection in RUN goes to FAULT with its cause and asks for SYNC; one in WAIT or FAULT asks
again once its request is TE old, and not before. -/
def Obligations.ConnectionFaultsAskForSync : Prop :=
  ∀ (s : State) (i : Nat) (x : ConsSt), awake s = true → consSlot s i = some x →
    (x.st = .run →
      (x.te < agedNow s x → Completes (.connTimeout i) s (fun t =>
        (consSlot t i).map (fun y => (y.st, y.cause, y.reqDue, y.synced)) = some (.fault, 1, true, false))) ∧
      (8 ≤ (recentFails s x).length → Completes (.connCheckFault i) s (fun t =>
        (consSlot t i).map (fun y => (y.st, y.cause, y.reqDue, y.synced)) = some (.fault, 2, true, false)))) ∧
    (x.st = .wait ∨ x.st = .fault → askDue s x = true → Completes (.syncRequest i) s (fun t =>
      (consSlot t i).map (fun y => (y.st, y.reqDue, y.nonce)) = some (x.st, true, some (s.tb.setWidth 32, s.tb)))) ∧
    (∀ n t0, eventsPlaced s → x.nonce = some (n, t0) → (s.tb - t0).toNat < x.te → exec (.syncRequest i) s = .next s)

/-- The spade: the standby takes it under the next even epoch, the host claims it under the next odd one, and an owner's hold ends with its
channels off in both lanes. A return that keeps no hold ends the host's wait, as one that is too old does (log 66). -/
def Obligations.SpadeMovesUnderHigherEpochs : Prop :=
  ∀ (s : State) (c : Image) (fid : Nat), awake s = true → s.cfg = some c → (knownEpoch s fid).toNat + 2 < 2 ^ 32 →
    (∀ x m k f, cutOf s fid = some x → x.host = false → x.holder = false → x.set = some m → m.epoch = knownEpoch s fid →
      (knownEpoch s fid).getLsbD 0 = true → s.lan.inRun = true → s.lan.markA = false → s.lan.markB = false → inBench s = false →
      k ∈ mirrorCons s fid → k.latched = some f → f.leaseEpoch = knownEpoch s fid → mirrorHold f = false →
      Completes (.takeover fid) s (fun t =>
        (cutOf t fid).map (fun y => (y.holder, y.takeover, y.epoch, y.silent)) = some (true, true, knownEpoch s fid + 1, m.locked) ∧
        knownEpoch t fid = knownEpoch s fid + 1)) ∧
    (∀ x k f, cutOf s fid = some x → x.host = true → x.holder = false → s.lan.inRun = true → inBench s = false →
      k ∈ mirrorCons s fid → k.latched = some f → mirrorHold f = false ∨ leaseTicks s (cutNodes s fid).2 (cutNodes s fid).1 < k.age →
      Completes (.reclaim fid) s (fun t =>
        (cutOf t fid).map (fun y => (y.holder, y.epoch)) = some (true, knownEpoch t fid) ∧ (knownEpoch t fid).getLsbD 0 = true ∧
        (knownEpoch s fid).toNat < (knownEpoch t fid).toNat)) ∧
    (∀ x, cutOf s fid = some x → eventsPlaced s →
      (mayTake s x = false → exec (.takeover fid) s = .next s) ∧ (mayClaim s x = false → exec (.reclaim fid) s = .next s)) ∧
    (∀ x, cutOf s fid = some x → x.host = true → x.holder = false → s.lan.inRun = true → inBench s = false →
      (∃ k ∈ mirrorCons s fid, k.latched = none) → leaseTicks s (cutNodes s fid).2 (cutNodes s fid).1 < (s.tb - x.setUp).toNat →
      Completes (.reclaim fid) s (fun t => (cutOf t fid).map (fun y => y.holder) = some true)) ∧
    (∀ o, s.cuts.owns.find? (fun o => o.fid == fid) = some o → hasCutting s fid = true → o.seen = true → o.expired = false →
      holdTime s c fid < (s.tb - o.stamp).toNat → Completes (.holdExpired fid) s (fun t =>
        (t.cuts.owns.find? (fun o => o.fid == fid)).map (fun y => (y.expired, y.a, y.b)) = some (true, ⟨[], fnChans c fid⟩, ⟨[], fnChans c fid⟩))) ∧
    (∀ x, cutOf s fid = some x → leaseOld s x = true → Completes (.leaseLate fid) s (fun t =>
      (cutOf t fid).map (fun y => y.lateWarned) = some true ∧ onlyTouches [.evt, .mail, .cuts] s t))

/-- PLAN_DONE: a plan that cannot be made, or whose K a half disputes by its own table, is a final error; otherwise plan and digest stand. PLAN_JOIN is
not final. What a plan error does to START and RUN is log 74. -/
def Obligations.PlanDoneTakesOrRejectsPlan : Prop :=
  ∀ (s : State) (c : Image) (timeUs : Nat), awake s = true → s.cfg = some c → s.sys.halt = false →
    (s.plt.state = 1 → s.sys.hedgeStalled = false →
      (∀ e, makePlan c = .error e → e.code < 256 → ∀ k, Completes (.planDone timeUs k) s (fun t =>
        t.plt.state = 5 ∧ t.plt.err.toNat = e.code ∧ t.plt.accepted = false ∧ t.sys.cause = 0x0C)) ∧
      (∀ p peak, makePlan c = .ok (p, peak) → (c.fns.map (fun f => f.fid)).Nodup → (∀ f ∈ c.fns, f.nword ≤ 4096) →
        (∀ h bits, ∀ x ∈ p.fns, ∀ f ∈ c.fns, bits ≠ 0 → f.fid = x.fid → x.host = c.own → Completes (.planDone timeUs [(h, f.nword, bits)]) s (fun t =>
          t.plt.state = 5 ∧ t.plt.err = 7)) ∧
        Completes (.planDone timeUs []) s (fun t =>
          t.plt.plan = some p ∧ t.plt.planDig = sha384 (planBytes c.nodes.length p) ∧ t.plt.cfgDig = c.digest ∧
          t.plt.time = BitVec.ofNat 32 timeUs ∧ t.plt.state ≠ 1))) ∧
    (s.plt.state = 2 → Completes .planJoin s (fun t => t.plt.state = 2 ∧ t.plt.err = 2 ∧ onlyTouches [.evt, .mail, .plt] s t)) ∧
    (s.plt.rejoin = true → s.plt.accepted = true → startStatus s = none → eventsPlaced s →
      Completes .rejoinStart s (fun t => t.lan.startAt = some (nextFrameNo s) ∧ onlyTouches [.lan] s t))

/-- JOIN, DIGEST_LO, DIGEST_HI and ACCEPT of a tree neighbour: what fits is noted, a configuration or digest that differs is a final plan error, in RUN
too for a digest, which then leaves RUN (log 74); the last fragment of a record that passes its checks accepts the plan. -/
def Obligations.PeerMessagesJoinAndAgree : Prop :=
  ∀ (s : State) (c : Image) (node : Nat) (m : Bytes) (n : NbrSt), awake s = true → s.cfg = some c → nbrOf s node = some n →
    (s.plt.state = 2 → byteAt m 0 = 1 →
      (joinFits s c node m = true → Completes (.join node m) s (fun t => (nbrOf t node).map (fun x => x.joined) = some true)) ∧
      (joinFits s c node m = false → Completes (.join node m) s (fun t =>
        t.plt.state = 5 ∧ t.plt.err = 1 ∧ t.plt.errNode = some node ∧ t.sys.cause = 0x0C))) ∧
    (s.plt.state = 2 → byteAt m 0 = 2 → slice m 1 24 = digestPart s.plt.planDig 0 24 → Completes (.digestLo node m) s (fun t =>
      (nbrOf t node).map (fun x => (x.levelLo, x.run)) = some (some (beAt m 25 2), nbit (byteAt m 27) 1))) ∧
    (s.plt.state = 2 → byteAt m 0 = 3 → slice m 1 24 = digestPart s.plt.planDig 24 24 → Completes (.digestHi node m) s (fun t =>
      (nbrOf t node).map (fun x => (x.levelHi, x.run)) = some (some (beAt m 25 2), nbit (byteAt m 27) 1))) ∧
    (s.plt.state = 2 ∨ s.plt.state = 3 ∨ s.plt.state = 4 →
      (byteAt m 0 = 2 → slice m 1 24 ≠ digestPart s.plt.planDig 0 24 → Completes (.digestLo node m) s (fun t =>
        t.plt.state = 5 ∧ t.plt.err = 8 ∧ t.plt.accepted = false ∧ t.lan.startAt = none ∧
        (s.lan.inRun = true → s.lan.pendFault = none → t.lan.pendFault = some 0x30))) ∧
      (byteAt m 0 = 3 → slice m 1 24 ≠ digestPart s.plt.planDig 24 24 → Completes (.digestHi node m) s (fun t =>
        t.plt.state = 5 ∧ t.plt.err = 8 ∧ t.plt.accepted = false ∧ t.lan.startAt = none ∧
        (s.lan.inRun = true → s.lan.pendFault = none → t.lan.pendFault = some 0x30)))) ∧
    (byteAt m 0 = 4 → byteAt m 1 ≤ 6 →
      (s.plt.state = 2 → Completes (.accept node m) s (fun t =>
        (nbrOf t node).map (fun x => x.frags.head?) = some (some (byteAt m 1, slice m 2 40)) ∧ t.plt.accepted = s.plt.accepted)) ∧
      (∀ b p, s.plt.state = 3 → s.plt.plan = some p → recordStatus s b = 0 →
        joinFrags ((byteAt m 1, slice m 2 40) :: n.frags.filter (fun x => x.1 != byteAt m 1)) = some b → Completes (.accept node m) s (fun t =>
          t.plt.accepted = true ∧ t.nv.accRec = some b ∧ t.nv.epochs = [])))

/-- Mode messages: an announcement with a newer epoch waits for the latch, a cancel drops its change, a state is noted; the latch takes an announcement
with healthy time and cancels it without; an applied change moves mode and epoch together at its instant, and one without healthy time is late. -/
def Obligations.ModeChangesFollowTheirEpoch : Prop :=
  ∀ (s : State) (node : Nat) (m : Bytes), awake s = true →
    (fromNbr s node = true → byteAt m 0 = 0x10 → newerEpoch (parseAnn m).epoch s.mode.epoch = true → isCut s (parseAnn m).epoch = false →
      parseAnn m ∉ s.mode.arrived → Completes (.modeAnn node m) s (fun t =>
        t.mode.arrived = s.mode.arrived ++ [parseAnn m] ∧ t.mode.applied = s.mode.applied ∧ t.mode.pending = s.mode.pending)) ∧
    (∀ e, e = BitVec.ofNat 16 (beAt m 1 2) → fromNbr s node = true → byteAt m 0 = 0x12 → isCut s e = false → Completes (.modeCancel node m) s (fun t =>
      t.mode.pending = s.mode.pending.filter (fun x => x.ann.epoch != e) ∧ t.mode.arrived = s.mode.arrived.filter (fun a => a.epoch != e) ∧
      t.mode.cancels = s.mode.cancels ++ [⟨e, heldAnn s e⟩] ∧ t.mode.applied = s.mode.applied)) ∧
    (fromNbr s node = true → byteAt m 0 = 0x11 → Completes (.modeState node m) s (fun t =>
      (node, nbit (byteAt m 4) 0, byteAt m 3, BitVec.ofNat 16 (beAt m 1 2)) ∈ t.mode.nbrs ∧ t.mode.applied = s.mode.applied)) ∧
    (∀ a, s.mode.arrived = [a] → s.mode.pending = [] → isCut s a.epoch = false → ptNow s < a.instant →
      (modeLatch s).mode.pending = (if s.net.syncOk then [⟨a, false⟩] else []) ∧ isCut (modeLatch s) a.epoch = !s.net.syncOk) ∧
    (∀ a b, s.mode.arrived = [a] → s.mode.pending = [⟨b, false⟩] → a ≠ b → a.epoch = b.epoch → isCut s a.epoch = false →
      (modeLatch s).mode.pending = [] ∧ isCut (modeLatch s) a.epoch = true ∧ (modeLatch s).mode.applied = s.mode.applied) ∧
    (∀ a, s.mode.pending = [⟨a, false⟩] →
      (s.net.syncOk = true → a.instant ≤ ptNow s → Completes .modeApply s (fun t =>
        t.mode.applied = a.new ∧ t.mode.epoch = a.epoch ∧ t.mode.prevEpoch = s.mode.epoch ∧ t.mode.pending = [] ∧ t.mode.window = some a ∧
        onlyTouches [.evt, .mail, .mode] s t)) ∧
      (s.net.syncOk = false → a.instant ≤ ptNow s → Completes .modeApply s (fun t =>
        t.mode.applied = s.mode.applied ∧ t.mode.pending = [⟨a, true⟩])) ∧
      (ptNow s < a.instant → eventsPlaced s → exec .modeApply s = .next s)) ∧
    (eventsPlaced s → exec .modeWindowEnd s = .next (if windowNow s then s else { s with mode := { s.mode with window := none } }))

/-- Messages of the PTP clock: each leaves the ports as the best master clock decision has them (log 153), a Sync of the master followed is stamped, its
measurement is taken and steers PT within 500 ppm, stepping it only above 1 ms and never TB, a Delay_Req at a MASTER port is answered, the sync interval
sends by the state of each port, a clock that hears no other becomes grandmaster only where it may, and without a Sync for four intervals a slave is no
longer healthy. -/
def Obligations.PtpClockFollowsMessages : Prop :=
  ∀ (s : State) (a : AddrRec), awake s = true → ownAddr s = some a → queuesOk s →
    (∀ (m : PtpMsg) (d : State), hasPort s m.port = true → ptpForUs s m = true → d = decideMaster (if m.kind == 11 then noteAnnounce s m else s) →
      Completes (.ptpMessageRx m) s (fun t =>
        t.net.gm = d.net.gm ∧ t.net.gmId = d.net.gmId ∧ t.net.parent = d.net.parent ∧ t.net.foreign = d.net.foreign ∧ t.tb = s.tb ∧
        (gmCapable s = false → t.net.gm = false ∧ ∀ p, portState t p ≠ 6) ∧
        (m.kind = 1 → m.offset = none → portState d m.port = 6 → egressAt t m.port 7 = egressAt s m.port 7 ++ [ownPtp s a 9]) ∧
        (fromMaster d m = false → t.net.ptRate = s.net.ptRate ∧ ptAt t = ptAt s ∧ t.net.lastSync = s.net.lastSync ∧
          ∀ p, portState t p = portState d p) ∧
        (fromMaster d m = true →
          (m.kind = 0 → t.net.lastSync = s.tb ∧ t.net.syncSeen = true) ∧
          (∀ v, m.offset = some v → t.net.offset = BitVec.ofInt 32 v ∧ t.net.mpd = BitVec.ofNat 32 m.mpd ∧ portState t m.port = 9 ∧
            -500000 ≤ t.net.ptRate ∧ t.net.ptRate ≤ 500000 ∧ t.net.ptTb = s.tb ∧ (v.natAbs ≤ 1000000 → 0 ≤ ptAt s → ptAt t = ptAt s))))) ∧
    (∀ m : PtpMsg, hasPort s m.port = true → ptpForUs s m = false → Completes (.ptpMessageRx m) s (fun t =>
      t.net.gmId = s.net.gmId ∧ t.net.offset = s.net.offset ∧ (∀ p, portState t p = portState s p) ∧ t.net.foreign = s.net.foreign)) ∧
    Completes .syncInterval s (fun t => t.net.ticks = s.net.ticks + 1 ∧ ∀ p, p < 2 → carriesKsl s p = true →
      portState t p = portState (decideMaster s) p ∧
      (portState t p = 6 → egressAt t p 7 = egressAt s p 7 ++ [ownPtp s a 0, ownPtp s a 8] ++ (if (s.net.ticks + 1) % 4 = 0 then [ownPtp s a 11] else [])) ∧
      (portState t p = 9 → egressAt t p 7 = egressAt s p 7 ++ [ownPtp s a 1]) ∧
      (portState t p ≠ 6 → portState t p ≠ 9 → egressAt t p 7 = egressAt s p 7) ∧
      (portState s p = 1 → portState t p = 4) ∧
      (s.net.foreign = [] → gmCapable s = true → portState s p ≠ 1 → listens s p = false →
        portState t p = 6 ∧ t.net.gm = true ∧ t.net.gmId = clockIdentity a.mac ∧ t.net.offset = 0)) ∧
    (s.net.gm = false → Completes .syncLost s (fun t => t.net.healthy = false ∧ t.net.syncSeen = false))

/-- Frames and ports of the network island: links, drops, ARP, PRP supervision, line forwarding, the ageing of learned addresses, and the strict
priority of a port's eight queues. A port that the part does not have does nothing, and one that is slow sends no frame
of KSL or PTP. The EtherType of PAUSE is log 132, what the queues keep log 140. -/
def Obligations.NetworkIslandSwitches : Prop :=
  ∀ (s : State) (p : Nat), awake s = true → p < 2 → queuesOk s →
    (hasPort s p = true →
      (∀ speed, 1 ≤ speed → speed ≤ 3 → (p = 1 → pmodeOf s ≠ 0) → Completes (.linkChange p true speed) s (fun t => portSpeed t p = speed)) ∧
      (p = 1 → pmodeOf s = 0 → ∀ up speed, Completes (.linkChange p up speed) s (fun t => portSpeed t p = 0)) ∧
      (∀ speed, Completes (.linkChange p false speed) s (fun t => portSpeed t p = 0)) ∧
      (∀ a mac ip, ownAddr s = some a → a.ipv4 ≠ 0 → mac ≠ a.mac → ip ≠ a.ipv4 → Completes (.arpRequest p a.ipv4 mac ip) s (fun t =>
        egressAt t p 0 = egressAt s p 0 ++ [.arp mac ip])) ∧
      Completes (.netFrameDrop p .notForUs) s (fun t => t.net.dropCnt = satAdd s.net.dropCnt 1) ∧
      Completes (.netFrameDrop p .overflow) s (fun t => t.net.dropCnt = satAdd s.net.dropCnt 1) ∧
      Completes (.netFrameDrop p .badFrame) s (fun t => t.net.errCnt = satAdd s.net.errCnt 1 ∧ t.net.rx0 = s.net.rx0 ∧ t.net.rx1 = s.net.rx1) ∧
      Completes (.netFrameDrop p .ownAddress) s (fun t => t.net.dropCnt = s.net.dropCnt) ∧
      Completes (.netFrameDrop p .prpDuplicate) s (fun t => t.net.dropCnt = s.net.dropCnt ∧ t.net.errCnt = s.net.errCnt) ∧
      (∀ (f : EthFrame), 1522 < wireSize f → Completes (.lineForwarding p f) s (fun t =>
        t.net.errCnt = satAdd s.net.errCnt 1 ∧ t.net.egress0 = s.net.egress0 ∧ t.net.egress1 = s.net.egress1)) ∧
      (∀ a c (f : EthFrame), ownAddr s = some a → s.cfg = some c → pmodeOf s = 1 → wireSize f ≤ 1522 → fromOwn a f.src (wireSrcIp f) = false →
        f.dst ≠ a.mac →
        (etherType f = 0x8808 → Completes (.lineForwarding p f) s (fun t => t.net.egress0 = s.net.egress0 ∧ t.net.egress1 = s.net.egress1)) ∧
        (etherType f ≠ 0x8808 → etherType f ≠ 0x88F7 → fastTraffic c f = false ∨ (carriesKsl s 0 = true ∧ carriesKsl s 1 = true) →
          Completes (.lineForwarding p f) s (fun t => t.net.macs.head? = some (f.src, p) ∧
            egressAt t (1 - p) (f.tag.elim 0 (fun x => x.1 % 8)) = egressAt s (1 - p) (f.tag.elim 0 (fun x => x.1 % 8)) ++ [.forward f])) ∧
        (etherType f = 0x88B5 → carriesKsl s (1 - p) = false → Completes (.lineForwarding p f) s (fun t =>
          t.net.egress0 = s.net.egress0 ∧ t.net.egress1 = s.net.egress1)))) ∧
    (hasPort s p = false → eventsPlaced s → ∀ why ip mac up speed, exec (.netFrameDrop p why) s = .next s ∧ exec (.arpRequest p ip mac ip) s = .next s ∧
      exec (.linkChange p up speed) s = .next s) ∧
    (∀ a, ownAddr s = some a → a.pmode = 2 → s.sys.variant ≠ 3 →
      Completes .prpSupervision s (fun t => ∀ k, k < 2 → egressAt t k 0 = egressAt s k 0 ++ [.supervision a.mac]) ∧
      (evtReady s → ∀ lan, lan < 2 → Completes (.prpLanSilent lan) s (fun t => counted (148 + lan) s t ∧ onlyTouches [.evt, .mail] s t))) ∧
    (∀ mac, eventsPlaced s → exec (.macAgeing mac) s = .next { s with net := { s.net with macs := s.net.macs.filter (fun x => x.1 != mac) } }) ∧
    (∀ q x rest, portSpeed s p ≠ 0 → egressAt s p q = x :: rest → mayLeave s p x = true → (∀ r, q < r → egressAt s p r = []) →
      (servePort s p).net.out = s.net.out ++ [(p, x)] ∧ egressAt (servePort s p) p q = rest.filter (mayLeave s p)) ∧
    ((∀ q, ∀ x ∈ egressAt s p q, mayLeave s p x = false) → (servePort s p).net.out = s.net.out) ∧
    (portSpeed s p = 0 → servePort s p = s)

/-- STANDBY_REQUEST, STANDBY_ENTRY_END, HOLD_REQUEST and WAKE_END: the way into STANDBY and out of it; in RUN and in a halt a request is refused and
recorded. ISOLATED_CONVERTER_FAILURE opens every switch of its sequencer, in step 7 it ends start-up; TEMPERATURE_OUT_OF_RANGE only notes the
temperature, which step 1 and START judge (log 96). What the way into STANDBY drops and keeps is log 98. -/
def Obligations.StandbyAndPowerLoss : Prop :=
  (∀ s : State, busReach s →
      (s.lan.inRun = true →
        Completes .standbyRequest s (fun t => t.sys.err.getLsbD 3 = true ∧ t.sys.entering = s.sys.entering ∧ onlyTouches [.sys, .evt, .mail] s t) ∧
        Completes .holdRequest s (fun t => t.sys.err.getLsbD 3 = true ∧ t.sys.pwr = s.sys.pwr ∧ onlyTouches [.sys, .evt, .mail] s t)) ∧
      (s.lan.inRun = false → s.sys.entering = false → s.sys.pwr ≠ 3 →
        (s.sys.halt = false → s.sys.running = 0 → s.plt.state ≠ 1 → Completes .standbyRequest s (fun t =>
          t.sys.entering = true ∧ t.sys.pwrReq = 3 ∧ t.lan.allOff = true ∧ t.lan.startAt = none)) ∧
        (s.sys.halt = true ∨ s.sys.running ≠ 0 ∨ s.plt.state = 1 → Completes .standbyRequest s (fun t =>
          t.sys.err.getLsbD 1 = true ∧ t.sys.entering = false ∧ onlyTouches [.sys, .evt, .mail] s t))) ∧
      (s.sys.entering = true → s.sys.wakeReq = false → Completes .standbyEntryEnd s (fun t =>
        t.sys.pwr = 3 ∧ t.sys.entering = false ∧ t.sys.convA = false ∧ t.sys.convB = false ∧ t.lan.timerOn = false ∧ t.fns = [] ∧ t.cfg = s.cfg)) ∧
      (s.lan.inRun = false → s.sys.entering = true → Completes .holdRequest s (fun t => t.sys.wakeReq = true ∧ t.sys.pwrReq = 1)) ∧
      (s.lan.inRun = false → s.sys.entering = false → s.sys.pwr = 3 → Completes .holdRequest s (fun t =>
        t.sys.wake = true ∧ t.sys.running = 5 ∧ t.sys.pwr = 1)) ∧
      (s.sys.wake = true → s.sys.running = 0 → s.plt.state ≠ 1 → evtReady s → Completes .wakeEnd s (fun t =>
        t.sys.wake = false ∧ counted 254 s t ∧ onlyTouches [.sys, .evt, .mail] s t))) ∧
  (∀ s : State,
      (awake s = true → s.sys.running ≠ 7 →
        Completes (.isolatedConverterFailure .a) s (fun t =>
          t.sys.convA = false ∧ t.sys.convB = s.sys.convB ∧ (∀ x ∈ t.fld.outs, x.swA.gate = false) ∧ t.fld.outs.map (·.swB) = s.fld.outs.map (·.swB)) ∧
        Completes (.isolatedConverterFailure .b) s (fun t =>
          t.sys.convB = false ∧ t.sys.convA = s.sys.convA ∧ (∀ x ∈ t.fld.outs, x.swB.gate = false) ∧ t.fld.outs.map (·.swA) = s.fld.outs.map (·.swA))) ∧
      (awake s = true → s.sys.running = 7 → ∀ l, Completes (.isolatedConverterFailure l) s (haltedFor 8)) ∧
      (s.sys.powered = true →
        Completes (.temperatureOutOfRange .outOfRange) s (fun t => t.sys.tempBad = true ∧ t.sys.pwr = s.sys.pwr ∧ t.lan = s.lan) ∧
        Completes (.temperatureOutOfRange .backInRange) s (fun t => t.sys.tempBad = false ∧ t.sys.pwr = s.sys.pwr ∧ t.lan = s.lan)) ∧
      (s.sys.tempBad = true → startStatus s ≠ none))

/-- The lifecycle is the highest step marker that is set; step 3 of start-up takes it, and step 4 halts a SCRAPPED module and no other. -/
def Obligations.LifecycleIsHighestMarker : Prop :=
  ∀ (s : State) (o : StepObs),
    lifecycleOf s ≤ 4 ∧ (∀ i, 1 ≤ i → i ≤ 4 → markerSet s (193 + i) = true → i ≤ lifecycleOf s) ∧
    (lifecycleOf s ≠ 0 → markerSet s (193 + lifecycleOf s) = true) ∧
    (atStep s 3 → Completes (.startupStepDone o) s (fun t => t.fus.lcy = lifecycleOf s ∧ wentTo 4 t)) ∧
    (atStep s 4 → s.fus.lcy = 4 → Completes (.startupStepDone o) s (haltedFor 4)) ∧
    (atStep s 4 → s.fus.lcy ≠ 4 → Completes (.startupStepDone o) s (wentTo 5))

/-- Setting up the rings: sizes, bases and the status block, enabling and disabling, and a disabled ring is not fetched from. A write sets a bit for each
reason that refuses it. -/
def Obligations.RingSetUpFollowsRules : Prop :=
  ∀ (s : State) (r : Nat) (v : BitVec 32), islandReach s → eventsPlaced s → r < 7 → s.host.rings.length = 7 →
    (ringOn s r = false → ringSizeOk r (v.toNat % 2 ^ 17) = true → Completes (.ringSetupWrite (0x48 + 16 * r) v) s (fun t =>
      ringAt t r = { ringAt s r with size := v.toNat % 2 ^ 17 })) ∧
    (ringOn s r = false → ringSizeOk r (v.toNat % 2 ^ 17) = false → Completes (.ringSetupWrite (0x48 + 16 * r) v) s (fun t =>
      t.host.err.getLsbD 0 = true ∧ (ringAt t r).size = (ringAt s r).size)) ∧
    (∀ n, ringSizeOk r n = true ↔ (∃ k, n = 2 ^ k) ∧ 16 ≤ n ∧ n ≤ ringMax r) ∧
    (ringOn s r = false → v.toNat % 64 = 0 → Completes (.ringSetupWrite (0x40 + 16 * r) v) s (fun t =>
      ringAt t r = { ringAt s r with base := (ringAt s r).base &&& 0xFFFFFFFF00000000 ||| v.setWidth 64 })) ∧
    (ringOn s r = false → Completes (.ringSetupWrite (0x44 + 16 * r) v) s (fun t =>
      ringAt t r = { ringAt s r with base := (ringAt s r).base &&& 0xFFFFFFFF ||| v.setWidth 64 <<< 32 })) ∧
    (ringOn s r = false → v.toNat % 64 ≠ 0 → Completes (.ringSetupWrite (0x40 + 16 * r) v) s (fun t =>
      t.host.err.getLsbD 1 = true ∧ (ringAt t r).base = (ringAt s r).base)) ∧
    (ringOn s r = true → ∀ f ∈ [0, 4, 8], Completes (.ringSetupWrite (0x40 + 16 * r + f) v) s (fun t =>
      t.host.err.getLsbD 3 = true ∧ (ringAt t r).base = (ringAt s r).base ∧ (ringAt t r).size = (ringAt s r).size)) ∧
    (ringOn s r = true → ringSizeOk r (v.toNat % 2 ^ 17) = false → Completes (.ringSetupWrite (0x48 + 16 * r) v) s (fun t =>
      t.host.err.getLsbD 3 = true ∧ t.host.err.getLsbD 0 = true)) ∧
    (ringOn s r = true → v.toNat % 64 ≠ 0 → Completes (.ringSetupWrite (0x40 + 16 * r) v) s (fun t =>
      t.host.err.getLsbD 3 = true ∧ t.host.err.getLsbD 1 = true)) ∧
    (s.host.ringEn ≠ 0 → ∀ off ∈ [0x10, 0x14], Completes (.ringSetupWrite off v) s (fun t =>
      t.host.err.getLsbD 3 = true ∧ t.host.sb = s.host.sb)) ∧
    (s.host.ringEn = 0 → v.toNat % 64 ≠ 0 → Completes (.ringSetupWrite 0x10 v) s (fun t => t.host.err.getLsbD 1 = true ∧ t.host.sb = s.host.sb)) ∧
    (s.host.ringEn = 0 → v.toNat % 64 = 0 → Completes (.ringSetupWrite 0x10 v) s (fun t =>
      t.host.sb = s.host.sb &&& 0xFFFFFFFF00000000 ||| v.setWidth 64)) ∧
    (ringOn s r = false → r ≠ 3 ∨ heldSources s = [] →
      Completes (.ringEnable r) s (fun t => ringOn t r = true ∧ ringAt t r = { ringAt s r with p := 0, c := 0 } ∧ onlyTouches [.host, .mail] s t ∧
        (dmaOk s = true → ∃ b : Bytes, t.host.posted = s.host.posted ++ [.statusBlock s.host.sb.toNat b] ∧ b.length = 64 ∧ leAt b (4 * r) 4 = 0 ∧
          (∀ q, q < 7 → q ≠ r → leAt b (4 * q) 4 = (if hostRing q = true then (ringAt s q).c else (ringAt s q).p).toNat) ∧
          (∀ i, 28 ≤ i → i < 64 → byteAt b i = 0)) ∧
        (dmaOk s = false → t.host.posted = s.host.posted))) ∧
    (ringOn s r = true → 2 < r ∨ s.host.outst = [] →
      Completes (.ringDisable r) s (fun t => ringOn t r = false ∧ ringAt t r = ringAt s r ∧ onlyTouches [.host] s t)) ∧
    (ringOn s r = true → r ≤ 2 → s.host.outst ≠ [] →
      Completes (.ringDisable r) s (fun t => ringOn t r = true ∧ t.host.err.getLsbD 4 = true)) ∧
    (ringOn s r = false → ∀ e, exec (.commandFetch r e) s = .next s)

/-- DOORBELL: a new count is taken if the credits allow it; every other value, and a write to a disabled ring, is ignored and recorded. The page
reads 0, and its other offsets take nothing. -/
def Obligations.DoorbellsFollowCredits : Prop :=
  ∀ (s : State) (r : Nat) (v : BitVec 32), islandReach s → evtReady s → r < 7 → s.host.rings.length = 7 →
    exec (.registerWrite (4 * r) 4 (v.setWidth 64)) s = exec (.doorbell r v) s ∧
    (∀ a, a < 0x1000 → readReg s a = 0) ∧
    (∀ a x, 0x1C ≤ a → a < 0x1000 → a % 4 = 0 → exec (.registerWrite a 4 x) s = .next s) ∧
    (ringOn s r = true → hostRing r = true → (v - (ringAt s r).c).toNat ≤ (ringAt s r).size → (v - (ringAt s r).p).toNat ≤ (ringAt s r).size →
      Completes (.doorbell r v) s (fun t =>
        ringAt t r = { ringAt s r with p := v } ∧ (∀ q, q ≠ r → ringAt t q = ringAt s q) ∧ onlyTouches [.mail] s t)) ∧
    (ringOn s r = true → hostRing r = false → (v - (ringAt s r).c).toNat ≤ ((ringAt s r).p - (ringAt s r).c).toNat →
      Completes (.doorbell r v) s (fun t =>
        ringAt t r = { ringAt s r with c := v } ∧ (∀ q, q ≠ r → ringAt t q = ringAt s q) ∧ onlyTouches [.mail] s t)) ∧
    (ringOn s r = false ∨
      (hostRing r = true ∧ ((ringAt s r).size < (v - (ringAt s r).c).toNat ∨ (ringAt s r).size < (v - (ringAt s r).p).toNat)) ∨
      (hostRing r = false ∧ ((ringAt s r).p - (ringAt s r).c).toNat < (v - (ringAt s r).c).toNat) →
      Completes (.doorbell r v) s (fun t =>
        t.host.err.getLsbD 2 = true ∧ counted 188 s t ∧ (ringAt t r).c = (ringAt s r).c ∧ (r ≠ 3 → ringAt t r = ringAt s r) ∧
        onlyTouches [.host, .evt, .mail] s t))

/-- COMMAND_FETCH takes an entry and frees its place, or disables the ring when its read fails (log 88), COMPLETION_WRITE writes the oldest completion,
EVT_SUMMARY_WRITE reports the held events. -/
def Obligations.CommandsAreFetchedAndCompleted : Prop :=
  ∀ s : State, awake s = true → eventsPlaced s → s.host.rings.length = 7 →
    (∀ (r : Nat) (e : Bytes), mayFetch s r = true → e.length < 64 → r < 7 → Completes (.commandFetch r e) s (fun t =>
      ringOn t r = false ∧ t.host.err.getLsbD 6 = true ∧ t.host.outst = s.host.outst ∧ (ringAt t r).c = (ringAt s r).c)) ∧
    (∀ (r : Nat) (e : Bytes), mayFetch s r = true → e.length = 64 →
      (s.host.outst.any (fun x => x.ring == r && x.tag == BitVec.ofNat 16 (leAt e 2 2)) = false → Completes (.commandFetch r e) s (fun t =>
        t.host.outst = s.host.outst ++ [⟨r, BitVec.ofNat 16 (leAt e 2 2), e, false, false⟩] ∧
        ringAt t r = { ringAt s r with c := (ringAt s r).c + 1 } ∧
        t.host.posted = s.host.posted ++ [.status r (s.host.sb.toNat + 4 * r) ((ringAt s r).c + 1)] ∧ t.host.done = s.host.done)) ∧
      (s.host.outst.any (fun x => x.ring == r && x.tag == BitVec.ofNat 16 (leAt e 2 2)) = true → hedgeOp (byteAt e 0) = false →
        Completes (.commandFetch r e) s (fun t => ∃ o : Outst, o.ring = r ∧ o.entry = e ∧ endsWith s t o 0x0A (0, 0) 0 []))) ∧
    (∀ (r : Nat) (e : Bytes), mayFetch s r = false → exec (.commandFetch r e) s = .next s) ∧
    (∀ d rest, dmaOk s = true → ringOn s 2 = true → s.host.done = d :: rest → evtReady s → Completes .completionWrite s (fun t =>
      t.host.done = rest ∧ t.host.outst = dropEnded d.ring d.tag s.host.outst ∧ ringAt t 2 = { ringAt s 2 with p := (ringAt s 2).p + 1 } ∧
      (∃ more, t.host.posted = s.host.posted ++
        .entry 2 ((ringAt s 2).base.toNat + (ringAt s 2).p.toNat % (ringAt s 2).size * 32) d.entry :: more) ∧ counted 184 s t)) ∧
    (dmaOk s = false → exec .completionWrite s = .next s) ∧
    (evtRoom s = true → heldSources s ≠ [] → (heldSources s).length ≤ 6 → Completes .evtSummaryWrite s (fun t =>
      heldSources t = [] ∧ ringAt t 3 = { ringAt s 3 with p := (ringAt s 3).p + 1 } ∧ onlyTouches [.evt, .mail] s t)) ∧
    (evtRoom s = false → exec .evtSummaryWrite s = .next s)

/-- REQUEST, STDOUT, entries of an unassigned type and TUNRX entries are consumed; what the rules do not take is dropped and counted, and an entry whose
read fails disables its ring (log 88). -/
def Obligations.RingEntriesAreTaken : Prop :=
  ∀ (s : State) (e : Bytes), awake s = true → eventsPlaced s → s.host.rings.length = 7 →
    (mayConsume s 6 = true → e.length < 16 → ∀ i ∈ [.request e, .stdout e, .reqUnassignedType e], Completes i s (fun t =>
      ringOn t 6 = false ∧ t.host.err.getLsbD 6 = true ∧ t.host.slots = s.host.slots ∧ t.host.std = s.host.std)) ∧
    (mayConsume s 5 = true → e.length < 128 → Completes (.tunrxEntry e) s (fun t => ringOn t 5 = false ∧ t.host.err.getLsbD 6 = true ∧ t.ksl = s.ksl)) ∧
    (∀ g, mayConsume s 6 = true → e.length = 16 → byteAt e 0 = 1 → s.host.slots.length = 256 → reqSlot s (byteAt e 1) = some g → (g.type = 0 → leAt e 8 8 ≤ 1) →
      Completes (.request e) s (fun t =>
        t.host.slots = s.host.slots.set (byteAt e 1) (some ⟨BitVec.ofNat 64 (leAt e 8 8), s.tb⟩) ∧
        ringAt t 6 = { ringAt s 6 with c := (ringAt s 6).c + 1 } ∧ t.host.reqDrop = s.host.reqDrop ∧ onlyTouches [.host, .evt, .mail] s t)) ∧
    (mayConsume s 6 = true → e.length = 16 → byteAt e 0 = 1 → reqSlot s (byteAt e 1) = none → Completes (.request e) s (fun t =>
      t.host.slots = s.host.slots ∧ t.host.reqDrop = satAdd s.host.reqDrop 1 ∧ t.host.err.getLsbD 5 = true)) ∧
    (∀ c, mayConsume s 6 = true → e.length = 16 → byteAt e 0 = 2 → s.cfg = some c → s.lan.inRun = true → Completes (.stdout e) s (fun t =>
      (∀ ch, ch < 96 → t.host.std.getLsbD ch =
        (if ch / 32 = byteAt e 1 ∧ nbit (leAt e 4 4) (ch % 32) = true ∧ chanUse c ch = 6 then nbit (leAt e 8 8) (ch % 32) else s.host.std.getLsbD ch)) ∧
      ringAt t 6 = { ringAt s 6 with c := (ringAt s 6).c + 1 } ∧ onlyTouches [.host, .evt, .mail] s t)) ∧
    (mayConsume s 6 = true → e.length = 16 → byteAt e 0 = 2 → s.lan.inRun = false → Completes (.stdout e) s (fun t =>
      t.host.std = s.host.std ∧ t.host.reqDrop = satAdd s.host.reqDrop 1 ∧ t.host.err.getLsbD 5 = true)) ∧
    (mayConsume s 6 = true → e.length = 16 → byteAt e 0 ≠ 1 → byteAt e 0 ≠ 2 → Completes (.reqUnassignedType e) s (fun t =>
      ringAt t 6 = { ringAt s 6 with c := (ringAt s 6).c + 1 } ∧ t.host.slots = s.host.slots ∧ t.host.std = s.host.std ∧
      t.host.reqDrop = satAdd s.host.reqDrop 1 ∧ t.host.err.getLsbD 5 = true)) ∧
    (mayConsume s 5 = true → e.length = 128 → Completes (.tunrxEntry e) s (fun t =>
      ringAt t 5 = { ringAt s 5 with c := (ringAt s 5).c + 1 } ∧
      (consWith s (parseKsl (slice e 0x10 96)).connId = none → t.ksl.foreignCnt = satAdd s.ksl.foreignCnt 1))) ∧
    (mayConsume s 6 = false → exec (.request e) s = .next s ∧ exec (.stdout e) s = .next s)

/-- PI_EN, HOST_DMA_STOP, HOST_DMA_RESUME and HOST_ISLAND_RESET: the process image is switched on and off, DMA stops and resumes, and a reset of the
island loses the outstanding commands, which HST_LOST counts as committed if they had passed their commit point, else as cancelled. What holds DMA
back and what a resume writes first is in log 89. -/
def Obligations.HostPowerAndIslandReset : Prop :=
  ∀ s : State, eventsPlaced s →
    (s.sys.powered = true → ∀ k, Completes (.hostDmaStop k) s (fun t => dmaOk t = false ∧ (k = .linkDown → t.host.linkUp = false) ∧ onlyTouches [.host] s t)) ∧
    (s.sys.powered = true → Completes .hostDmaResume s (fun t => dmaOk t = true)) ∧
    (awake s = true → ringOn s 2 = true → s.host.done.length ≤ 16 → Completes .hostDmaResume s (fun t => t.host.done = [])) ∧
    (awake s = true → ∀ k, Completes (.hostIslandReset k) s (fun t =>
      t.host.outst = [] ∧ t.host.done = [] ∧ t.host.ringEn = 0 ∧ t.host.piEn = false ∧ t.host.err = 0 ∧ t.host.tunEn = false ∧ t.host.d3 = false ∧
      t.host.lostCommitted = BitVec.ofNat 16 (s.host.done.filter (fun c => c.committed)).length ∧
      t.host.lostCancelled = BitVec.ofNat 16 (s.host.outst.length - (s.host.done.filter (fun c => c.committed)).length) ∧
      (∀ r, r ≠ 3 → ringAt t r = RingSt.reset) ∧ t.host.slots = s.host.slots ∧ t.host.std = s.host.std)) ∧
    (islandReach s → ∀ b, Completes (.piEn b) s (fun t =>
      t.host.piEn = b ∧ t.host.piGen = s.host.piGen ∧ (b = true → s.host.piEn = false → t.host.piCnt = 0) ∧
      (b = false ∨ s.host.piEn = true → t.host.piCnt = s.host.piCnt) ∧ onlyTouches [.host] s t))

/-- A host command that a rule refuses ends with that status and does nothing else, but for the event of a RESPONSE (log 101); the rules apply in the
order of R321. A command that is not at its turn waits. -/
def Obligations.RefusedCommandsEndInOrder : Prop :=
  (∀ (i : Instr) (c : CmdRef) (p : Outst → Bool) (buf : Bytes) (s : State), hostRow i = some (c, p, buf) → awake s = true → eventsPlaced s →
    (∀ o status r, cmdAt s c p = some o → refusal s o buf = some (status, r) →
      Completes i s (fun t => endsWith s t o status (0, 0) 0 r ∧ onlyTouches [.host, .fus, .evt, .mail] s t ∧
        ((∀ b, i ≠ .response c b) ∨ o.opnd 0 ≠ 1 → onlyTouches [.host, .fus] s t) ∧
        (∀ b, i = .response c b → o.opnd 0 = 1 → s.evt.cnt.length = 256 → counted 249 s t))) ∧
    (cmdAt s c p = none → exec i s = .next s)) ∧
  (∀ (s : State) (o : Outst) (buf : Bytes),
    (tagBusy s o = true → refusal s o buf = some (0x0A, [])) ∧
    (tagBusy s o = false → 0x13 < o.op → refusal s o buf = some (8, [])) ∧
    (tagBusy s o = false → o.op ≤ 0x13 →
      (s.sys.halt = true → o.op = 7 → refusal s o buf = some (6, [])) ∧
      (s.sys.halt = true → o.op ∉ [0, 7, 9, 0x0B, 0x0C, 0x0D, 0x0E, 0x0F, 0x10] → refusal s o buf = some (5, [])) ∧
      (s.sys.halt = false → s.sys.running ≠ 0 → o.op ∉ [0, 9, 0x0B, 0x0C] → refusal s o buf = some (5, [])) ∧
      (gateStatus s o.op = none → ∀ st, ownStatus s o buf = some st → refusal s o buf = some (st, [])) ∧
      (gateStatus s o.op = none → ownStatus s o buf = none → reservedBad o = true → refusal s o buf = some (9, [])) ∧
      (gateStatus s o.op = none → ownStatus s o buf = none → reservedBad o = false → opndBad s o = false → unitAbsent s o = true →
        refusal s o buf = some (4, [])) ∧
      (gateStatus s o.op = none → ownStatus s o buf = none → reservedBad o = false → opndBad s o = false → unitAbsent s o = false →
        hedgeOp o.op = true → s.sys.hedgeStalled = true → refusal s o buf = some (7, []))))

/-- NOP, BAD_OPCODE, TUNNEL_CFG, START, TO_HOLD, READ_DIAG, CLEAR_STD and ABORT: what each commits and its completion. READ_DIAG without frames is log
85, the commands that ABORT comes too late for are log 84. -/
def Obligations.OrderlyCommandsEnd : Prop :=
  ∀ (s : State) (c : CmdRef) (o : Outst),
    (Starts (.nop c) s o → Completes (.nop c) s (fun t => endsWith s t o 0 (0, 0) 0 [])) ∧
    (awake s = true → cmdAt s c (fun o => !opcodeKnown o.op) = some o → tagBusy s o = false →
      Completes (.badOpcode c) s (fun t => endsWith s t o 8 (0, 0) 0 [])) ∧
    (Starts (.tunnelCfg c) s o → Completes (.tunnelCfg c) s (fun t => t.host.tunEn = (o.opnd 0 == 1) ∧ endsWith s t o 0 (0, 0) 0 [])) ∧
    (Starts (.start c) s o → Completes (.start c) s (fun t =>
      t.lan.startAt = some (nextFrameNo s) ∧ t.lan.inRun = s.lan.inRun ∧ endsWith s t o 0 (0, 0) 0 (leBytes 8 (nextFrameNo s)))) ∧
    (Starts (.toHold c) s o → Completes (.toHold c) s (fun t =>
      endsWith s t o 0 (0, 0) 0 [] ∧ (s.lan.inRun = true → s.lan.pendFault = none → t.lan.pendFault = some 0x30) ∧
      (s.lan.inRun = false → t.lan = s.lan))) ∧
    (Starts (.readDiag c) s o → s.lan.timerOn = true → Completes (.readDiag c) s (fun t =>
      t.host.done = s.host.done ∧ t.host.outst = s.host.outst.map (fun x => if sameCmd o x then { x with waiting := true } else x))) ∧
    (Starts (.readDiag c) s o → s.lan.timerOn = false → dmaOk s = true → (diagSnapshot s s.lan.frame.toNat).length ≤ o.len →
      Completes (.readDiag c) s (fun t =>
        t.host.posted = s.host.posted ++ [.buffer o.addr (diagSnapshot s s.lan.frame.toNat)] ∧
        ∃ r, endsWith s t o 0 (0, 0) (diagSnapshot s s.lan.frame.toNat).length r)) ∧
    (Starts (.clearStd c) s o → Completes (.clearStd c) s (fun t =>
      (∀ ch, ch < 96 → t.host.clearReq.getLsbD ch =
        (s.host.clearReq.getLsbD ch || (nbit (o.opndLe 0 12) ch && s.host.stdLatch.getLsbD ch && !stdCause s ch))) ∧
      t.host.stdLatch = s.host.stdLatch ∧ ∃ r, endsWith s t o 0 (0, 0) 0 r)) ∧
    (Starts (.abort c) s o →
      (o.opnd 2 = o.ring → BitVec.ofNat 16 (o.opndLe 0 2) = o.tag → Completes (.abort c) s (fun t => endsWith s t o 2 (0, 0) 0 [])) ∧
      (¬ (o.opnd 2 = o.ring ∧ BitVec.ofNat 16 (o.opndLe 0 2) = o.tag) →
        (∀ x, (s.host.outst.takeWhile (fun x => !sameCmd o x)).find? (fun x => x.ring == o.opnd 2 && x.tag == BitVec.ofNat 16 (o.opndLe 0 2)) = some x →
          (x.ended = true ∨ commitsAtFetch x = true → Completes (.abort c) s (fun t => endsWith s t o 2 (0, 0) 0 [])) ∧
          (x.ended = false → commitsAtFetch x = false → Completes (.abort c) s (fun t =>
            t.host.done = s.host.done ++ [⟨x.ring, x.tag, completionBytes x 1 (0, 0) 0 [], false⟩, ⟨o.ring, o.tag, completionBytes o 0 (0, 0) 0 [], true⟩]))) ∧
        ((s.host.outst.takeWhile (fun x => !sameCmd o x)).find? (fun x => x.ring == o.opnd 2 && x.tag == BitVec.ofNat 16 (o.opndLe 0 2)) = none →
          Completes (.abort c) s (fun t =>
            endsWith s t o 3 (0, 0) 0 [if s.host.seen.contains (o.opnd 2, BitVec.ofNat 16 (o.opndLe 0 2)) then 0 else 1]))))

/-- LOAD_CFG, VERIFY_CFG and ACTIVATE_CFG: a slot is loaded from two equal passes, checked, and made ACTIVE; a rejection names status, class and item
and changes nothing, a second pass that differs empties the slot, and one that cannot be read (log 88) leaves it as it was. An activation starts the
frame timer; START waits for the training (log 138). -/
def Obligations.ConfigurationCommandsRun : Prop :=
  ∀ (s : State) (c : CmdRef) (o : Outst), s.nv.slots.length = 2 →
    (∀ p1 p2, Starts (.loadCfg c p1 p2) s o →
      ((s.nv.slots.getD (o.opnd 0) .empty).isActive = true → Completes (.loadCfg c p1 p2) s (fun t => endsWith s t o 0x10 (0, 0) 0 [] ∧ t.nv = s.nv)) ∧
      ((s.nv.slots.getD (o.opnd 0) .empty).isActive = false → dmaOk s = false → 128 ≤ o.len → Completes (.loadCfg c p1 p2) s (fun t =>
        endsWith s t o 0x0B (0, 0) 0 [] ∧ t.nv = s.nv)) ∧
      ((s.nv.slots.getD (o.opnd 0) .empty).isActive = false → passFails s p1 o.len = false →
        (∀ j, checkImage (checkEnv s) p1 o.len = .error j → Completes (.loadCfg c p1 p2) s (fun t =>
          endsWith s t o j.code (j.cls, j.item) 0 [] ∧ t.nv = s.nv)) ∧
        (∀ img b, checkImage (checkEnv s) p1 o.len = .ok (img, b) →
          (dmaOk s = true → p2.take b.length = b → Completes (.loadCfg c p1 p2) s (fun t =>
            endsWith s t o 0 (0, 0) 0 [] ∧ t.nv = { s.nv with slots := s.nv.slots.set (o.opnd 0) (.loaded b) } ∧ t.cfg = s.cfg)) ∧
          (dmaOk s = true → b.length ≤ p2.length → p2.take b.length ≠ b → Completes (.loadCfg c p1 p2) s (fun t =>
            endsWith s t o 0x11 (0, 0) 0 [] ∧ t.nv = { s.nv with slots := s.nv.slots.set (o.opnd 0) .empty })) ∧
          (p2.length < b.length → Completes (.loadCfg c p1 p2) s (fun t =>
            endsWith s t o 0x0B (0, 0) 0 [] ∧ t.nv = s.nv ∧ (dmaOk s = true → t.host.err.getLsbD 6 = true)))))) ∧
    (Starts (.verifyCfg c) s o →
      (∀ j, checkSlot s (o.opnd 0) = .error j → Completes (.verifyCfg c) s (fun t => endsWith s t o j.code (j.cls, j.item) 0 [] ∧ t.nv = s.nv)) ∧
      (∀ img, checkSlot s (o.opnd 0) = .ok img → Completes (.verifyCfg c) s (fun t => endsWith s t o 0 (0, 0) 0 [] ∧ t.nv = s.nv ∧ t.cfg = s.cfg))) ∧
    (Starts (.activateCfg c) s o →
      (∀ j, checkSlot s (o.opnd 0) = .error j → Completes (.activateCfg c) s (fun t =>
        endsWith s t o j.code (j.cls, j.item) 0 [] ∧ t.nv = s.nv ∧ t.cfg = s.cfg)) ∧
      (∀ img, checkSlot s (o.opnd 0) = .ok img → Completes (.activateCfg c) s (fun t =>
        endsWith s t o 0 (0, 0) 0 [] ∧ t.cfg = some img ∧ t.plt.state = 1 ∧ t.lan.timerOn = true ∧ t.lan.fresh = true ∧ t.fns = [] ∧
        (∀ l, seqOn s l = true → (linkAt t l).st = .training ∧ (linkAt t l).given = (linkAt s l).given ∧ (linkAt t l).par = (linkAt s l).par) ∧
        t.nv.slots.getD (o.opnd 0) .empty = .active (s.nv.slots.getD (o.opnd 0) .empty).bytes ∧
        (s.nv.slots.getD (1 - o.opnd 0) .empty).bytes = (t.nv.slots.getD (1 - o.opnd 0) .empty).bytes ∧
        ((s.nv.slots.getD (o.opnd 0) .empty).isActive = false → t.nv.accRec = none))))

/-- READ_PLAN, ACCEPT_PLAN and MODE_REQ. -/
def Obligations.PlanAndModeCommandsRun : Prop :=
  ∀ (s : State) (c : CmdRef) (o : Outst),
    (∀ p img, Starts (.readPlan c) s o → s.plt.plan = some p → s.cfg = some img → planBytes img.nodes.length p ≠ [] → dmaOk s = true →
      Completes (.readPlan c) s (fun t =>
        t.host.posted = s.host.posted ++ [.buffer o.addr (planBytes img.nodes.length p)] ∧
        endsWith s t o 0 (0, 0) (planBytes img.nodes.length p).length (leBytes 4 (planBytes img.nodes.length p).length))) ∧
    (∀ p img buf, Starts (.acceptPlan c buf) s o → dmaOk s = true → 256 ≤ buf.length → s.plt.state = 3 → s.plt.plan = some p → s.cfg = some img →
      (recordStatus s (buf.take 256) = 0 → Completes (.acceptPlan c buf) s (fun t =>
        endsWith s t o 0 (0, 0) 0 [] ∧ t.plt.state = 4 ∧ t.plt.accepted = true ∧ t.nv.accRec = some (buf.take 256) ∧ t.mode.epoch = 0 ∧
        t.sys.step = 13)) ∧
      (recordStatus s (buf.take 256) ≠ 0 → Completes (.acceptPlan c buf) s (fun t =>
        endsWith s t o (recordStatus s (buf.take 256)) (0, 0) 0 [] ∧ t.plt = s.plt ∧ t.nv = s.nv))) ∧
    (∀ img, Starts (.modeReq c) s o → s.cfg = some img →
      (img.mode.any (fun m => o.opnd 0 < m.nmode && m.allow.getLsbD (8 * s.mode.applied + o.opnd 0)) = false →
        Completes (.modeReq c) s (fun t => endsWith s t o 0x14 (0, 0) 0 [] ∧ t.mode = s.mode)) ∧
      (img.mode.any (fun m => o.opnd 0 < m.nmode && m.allow.getLsbD (8 * s.mode.applied + o.opnd 0)) = true →
        (s.net.syncOk = false → Completes (.modeReq c) s (fun t => endsWith s t o 0x15 (0, 0) 0 [] ∧ t.mode = s.mode)) ∧
        (s.net.syncOk = true → s.mode.pending ≠ [] ∨ s.mode.arrived ≠ [] → Completes (.modeReq c) s (fun t => endsWith s t o 0x16 (0, 0) 0 [] ∧ t.mode = s.mode)) ∧
        (s.net.syncOk = true → s.mode.pending = [] → s.mode.arrived = [] → Completes (.modeReq c) s (fun t =>
          t.mode.pending = [⟨originate s img (o.opnd 0), false⟩] ∧ (originate s img (o.opnd 0)).epoch = s.mode.highest + 1 ∧
          t.mode.highest = s.mode.highest + 1 ∧ t.mode.applied = s.mode.applied ∧ ∃ r, endsWith s t o 0 (0, 0) 0 r))))

/-- READ_LOG, SMU_READ and ATTEST write what they read into the command's buffer; while DMA is stopped they end with DMA_ERROR (log 88) and write
nothing. -/
def Obligations.ReadingCommandsAnswer : Prop :=
  ∀ (s : State) (c : CmdRef) (o : Outst),
    (Starts (.readLog c) s o →
      (dmaOk s = true → Completes (.readLog c) s (fun t => ∃ rs : List (Nat × Bytes),
        rs = s.nv.log.filter (fun r => (r.1 + 2 ^ 32 - o.opndLe 0 4) % 2 ^ 32 < o.opndLe 4 4) ∧ t.nv = s.nv ∧
        (rs.flatMap (fun r => r.2) ≠ [] → t.host.posted = s.host.posted ++ [.buffer o.addr (rs.flatMap (fun r => r.2))]) ∧
        ∃ r, endsWith s t o 0 (0, 0) (rs.flatMap (fun r => r.2)).length r)) ∧
      (∀ d : Bytes, d = (s.nv.log.filter (fun r => (r.1 + 2 ^ 32 - o.opndLe 0 4) % 2 ^ 32 < o.opndLe 4 4)).flatMap (fun r => r.2) → dmaOk s = false →
        (d ≠ [] → Completes (.readLog c) s (fun t => endsWith s t o 0x0B (0, 0) 0 [] ∧ t.host.posted = s.host.posted)) ∧
        (d = [] → Completes (.readLog c) s (fun t => t.host.posted = s.host.posted ∧ ∃ r, endsWith s t o 0 (0, 0) 0 r)))) ∧
    (Starts (.smuRead c) s o → dmaOk s = false → (axesOf (o.opnd 0)) ≠ [] → Completes (.smuRead c) s (fun t =>
      endsWith s t o 0x0B (0, 0) 0 [] ∧ t.host.posted = s.host.posted ∧ t.smu = s.smu)) ∧
    (Starts (.smuRead c) s o → dmaOk s = true → (axesOf (o.opnd 0)) ≠ [] → Completes (.smuRead c) s (fun t =>
      t.host.posted = s.host.posted ++ [.buffer o.addr ((axesOf (o.opnd 0)).flatMap (smuRecord s))] ∧ t.smu = s.smu ∧
      endsWith s t o 0 (0, 0) ((axesOf (o.opnd 0)).flatMap (smuRecord s)).length (leBytes 4 (axesOf (o.opnd 0)).length))) ∧
    (Starts (.attest c) s o →
      (s.fus.sensed = true → s.fus.idUsable = true → dmaOk s = true → Completes (.attest c) s (fun t => ∃ sig : Bytes,
        sig = ecdsaSign s.fus.devKey (Config.attestNonce s.freeCnt) (sha384 (attestHead s (slice o.entry 0x18 32))) ∧
        t.host.posted = s.host.posted ++
          [.buffer o.addr (attestHead s (slice o.entry 0x18 32) ++ sig ++ leBytes 2 (validCert s).length ++ validCert s)] ∧
        ∃ n, endsWith s t o 0 (0, 0) n (leBytes 4 (attestLen s)))) ∧
      (s.fus.sensed = true → s.fus.idUsable = true → dmaOk s = false → Completes (.attest c) s (fun t =>
        endsWith s t o 0x0B (0, 0) 0 [] ∧ t.host.posted = s.host.posted)) ∧
      (s.fus.idUsable = false → Completes (.attest c) s (fun t => endsWith s t o 0x26 (0, 0) 0 [] ∧ t.host.posted = s.host.posted)))

/-- FUSE_PROG in its four modes, FUSE_LOCK and LCY_ADVANCE, while VDD stays high and no bit fails: the words read what was asked for, and the rules of
keys, locks and lifecycle refuse the rest without blowing a bit, a SCRAPPED module all of them. -/
def Obligations.FuseCommandsBlow : Prop :=
  ∀ (s : State) (c : CmdRef) (o : Outst) (buf : Bytes), s.nv.fuse.length = 512 → s.nv.keys.length = 6 → dmaOk s = true →
    (s.fus.lcy = 4 → ∀ i ∈ [.fuseProgProgram c buf none [], .fuseProgRepair c none [], .fuseProgKey c buf none [], .fuseProgMarker c buf none [],
      .fuseLock c none [], .lcyAdvance c buf none []], Starts i s o → Completes i s (fun t => t.nv = s.nv ∧ endsWith s t o 0x21 (0, 0) 0 [])) ∧
    (s.fus.lcy ≠ 4 → (
    (Starts (.fuseProgProgram c buf none []) s o → 4 * o.opndLe 2 2 ≤ buf.length →
      (∀ i, i < o.opndLe 2 2 → fuseVal s (o.opndLe 0 2 + i) &&& ~~~ BitVec.ofNat 32 (leAt buf (4 * i) 4) = 0) →
      ((∀ i, i < o.opndLe 2 2 → programmable s (o.opndLe 0 2 + i) = true) → Completes (.fuseProgProgram c buf none []) s (fun t =>
        (∀ i, i < o.opndLe 2 2 → fuseVal t (o.opndLe 0 2 + i) = BitVec.ofNat 32 (leAt buf (4 * i) 4)) ∧
        (∀ w, w < o.opndLe 0 2 ∨ o.opndLe 0 2 + o.opndLe 2 2 ≤ w → fuseAt t w = fuseAt s w) ∧ ∃ r, endsWith s t o 0 (0, 0) 0 r)) ∧
      ((∃ i, i < o.opndLe 2 2 ∧ programmable s (o.opndLe 0 2 + i) = false) → Completes (.fuseProgProgram c buf none []) s (fun t =>
        t.nv = s.nv ∧ endsWith s t o 0x21 (0, 0) 0 (leBytes 4 0)))) ∧
    (Starts (.fuseProgRepair c none []) s o → o.opndLe 0 2 + o.opndLe 2 2 ≤ 216 → Completes (.fuseProgRepair c none []) s (fun t =>
      (∀ w, fuseVal t w = fuseVal s w) ∧
      (∀ w, o.opndLe 0 2 ≤ w → w < o.opndLe 0 2 + o.opndLe 2 2 → fuseVal s w &&& ~~~ (fuseAt t w).program = 0) ∧ ∃ r, endsWith s t o 0 (0, 0) 0 r)) ∧
    (∀ k, Starts (.fuseProgKey c buf none []) s o → 97 ≤ buf.length → byteAt buf 0 = 4 → k = slotOfWord (o.opndLe 0 2) →
      (keyHash s k = digestWords (sha384 (buf.take 97)) ∨
        (lockSet s (if k < 2 then 2 else 3) = false ∧ (if k < 2 then s.fus.lcy = 0 else s.fus.lcy ≤ 1) ∧
          ∀ i, i < 12 → fuseVal s (keyWord k + i) &&& ~~~ (digestWords (sha384 (buf.take 97))).getD i 0 = 0) →
        Completes (.fuseProgKey c buf none []) s (fun t =>
          keyHash t k = digestWords (sha384 (buf.take 97)) ∧ t.nv.keys.getD k none = some (buf.take 97) ∧ ∃ r, endsWith s t o 0 (0, 0) 0 r)) ∧
      (keyHash s k ≠ digestWords (sha384 (buf.take 97)) → lockSet s (if k < 2 then 2 else 3) = true →
        Completes (.fuseProgKey c buf none []) s (fun t => t.nv = s.nv ∧ endsWith s t o 0x21 (0, 0) 0 (leBytes 4 0)))) ∧
    (∀ k, Starts (.fuseProgMarker c buf none []) s o → 128 ≤ buf.length → k = (if o.opndLe 0 2 < 128 then o.opndLe 0 2 - 121 else 2 + (o.opndLe 0 2 - 177)) →
      (authOk s buf (if k < 2 then 1 else 2) (if k < 2 then k else k - 2) = false → Completes (.fuseProgMarker c buf none []) s (fun t =>
        t.nv = s.nv ∧ endsWith s t o 0x24 (0, 0) 0 (leBytes 4 0))) ∧
      (authOk s buf (if k < 2 then 1 else 2) (if k < 2 then k else k - 2) = true → (k < 2 ∨ inUse s (k - 2) = false) → otherUsable s k = true →
        Completes (.fuseProgMarker c buf none []) s (fun t => markerSet t (o.opndLe 0 2) = true ∧ ∃ r, endsWith s t o 0 (0, 0) 0 r))) ∧
    (Starts (.fuseLock c none []) s o →
      (lockSet s (o.opnd 0) = true → Completes (.fuseLock c none []) s (fun t => t.nv = s.nv ∧ endsWith s t o 0 (0, 0) 0 [])) ∧
      (lockSet s (o.opnd 0) = false → o.opnd 0 ≠ 6 → lockableIn (o.opnd 0) s.fus.lcy = true ∨ (o.flags = 1 ∧ s.fus.lcy = 3) →
        (regionState s (o.opnd 0) = 2 ∨ o.flags = 1 → Completes (.fuseLock c none []) s (fun t =>
          lockSet t (o.opnd 0) = true ∧ endsWith s t o 0 (0, 0) 0 [])) ∧
        (regionState s (o.opnd 0) ≠ 2 → o.flags = 0 → Completes (.fuseLock c none []) s (fun t =>
          t.nv = s.nv ∧ endsWith s t o 0x22 (0, 0) 0 [])))) ∧
    (Starts (.lcyAdvance c buf none []) s o → (o.opnd 0 = 3 → 128 ≤ buf.length) →
      (advanceOk s (o.opnd 0) = false → Completes (.lcyAdvance c buf none []) s (fun t => t.nv = s.nv ∧ endsWith s t o 0x27 (0, 0) 0 [])) ∧
      (advanceOk s (o.opnd 0) = true → o.opnd 0 ≠ 3 → Completes (.lcyAdvance c buf none []) s (fun t =>
        markerSet t (193 + o.opnd 0) = true ∧ t.fus.lcy = s.fus.lcy ∧ endsWith s t o 0 (0, 0) 0 [])) ∧
      (o.opnd 0 = 3 → authOk s buf 3 0 = true → fuseVal s 196 ≠ 0xFFFFFFFF → Completes (.lcyAdvance c buf none []) s (fun t =>
        markerSet t 196 = true ∧ t.nv.slots = [.empty, .empty] ∧ t.nv.accRec = none ∧ t.nv.epochs = [] ∧ t.fus.advanced = true)))))

/-- CHALLENGE, RESPONSE, CLOSE, AUTH_SESSION_END and CHALLENGE_EXPIRY: a challenge is spent by every response, and a record that is refused raises
LCY_AUTHFAIL. One in a wrong state raises the event alone (log 101). A SCRAPPED module denies all three, and the two limits act when they have passed. -/
def Obligations.DebugAuthorisationRuns : Prop :=
  ∀ (s : State) (c : CmdRef) (o : Outst) (buf : Bytes),
    (s.fus.lcy = 4 →
      (Starts (.challenge c) s o → Completes (.challenge c) s (fun t => endsWith s t o 0x28 (0, 0) 0 [] ∧ t.lcy = s.lcy)) ∧
      (Starts (.response c buf) s o → dmaOk s = true → buf.length = 160 → byteAt buf 4 ≠ 1 ∨ s.lan.inRun = false → Completes (.response c buf) s (fun t =>
        endsWith s t o 0x28 (0, 0) 0 [] ∧ t.lcy.dbg = s.lcy.dbg ∧ t.lcy.chal = none ∧ t.lcy.authFail = satAdd s.lcy.authFail 1)) ∧
      (Starts (.close c) s o → Completes (.close c) s (fun t => endsWith s t o 0x28 (0, 0) 0 [] ∧ t.lcy = s.lcy))) ∧
    (Starts (.challenge c) s o → s.fus.lcy ≠ 4 → dmaOk s = true → Completes (.challenge c) s (fun t => ∃ b : Bytes,
      b.length = 32 ∧ t.lcy.chal = some (b, s.tb + 6000000000) ∧ t.host.posted = s.host.posted ++ [.buffer o.addr b] ∧
      endsWith s t o 0 (0, 0) 32 [])) ∧
    (Starts (.response c buf) s o → dmaOk s = true → byteAt buf 4 = 1 → s.lan.inRun = false → buf.length = 160 → s.fus.lcy ≠ 4 →
      (s.fus.dbgpol.getLsbD 0 = true → Completes (.response c buf) s (fun t =>
        endsWith s t o 0x28 (0, 0) 0 [] ∧ t.lcy.dbg = s.lcy.dbg ∧ t.lcy.chal = none ∧ t.lcy.authFail = satAdd s.lcy.authFail 1)) ∧
      (s.fus.dbgpol.getLsbD 0 = false →
        (validChal s ≠ some (slice buf 0x20 32) → Completes (.response c buf) s (fun t =>
          endsWith s t o 0x29 (0, 0) 0 [] ∧ t.lcy.dbg = s.lcy.dbg ∧ t.lcy.chal = none ∧ t.lcy.authFail = satAdd s.lcy.authFail 1)) ∧
        (validChal s = some (slice buf 0x20 32) → debugRecordOk s buf = false → Completes (.response c buf) s (fun t =>
          endsWith s t o 0x2A (0, 0) 0 [] ∧ t.lcy.dbg = s.lcy.dbg ∧ t.lcy.chal = none ∧ t.lcy.authFail = satAdd s.lcy.authFail 1)) ∧
        (validChal s = some (slice buf 0x20 32) → debugRecordOk s buf = true → s.lcy.dbg ≠ .bench → Completes (.response c buf) s (fun t =>
          endsWith s t o 0 (0, 0) 0 [] ∧ t.lcy.dbg = .bench ∧ t.lcy.chal = none ∧ t.lcy.authFail = s.lcy.authFail)) ∧
        (validChal s = some (slice buf 0x20 32) → debugRecordOk s buf = true → s.lcy.dbg = .bench → Completes (.response c buf) s (fun t =>
          endsWith s t o 5 (0, 0) 0 [] ∧ t.lcy.dbg = .bench ∧ t.lcy.chal = none ∧ t.lcy.authFail = s.lcy.authFail ∧
          (s.evt.cnt.length = 256 → counted 249 s t))))) ∧
    (Starts (.response c buf) s o → dmaOk s = false → Completes (.response c buf) s (fun t =>
      endsWith s t o 0x0B (0, 0) 0 [] ∧ t.lcy.dbg = s.lcy.dbg ∧ t.lcy.chal = none)) ∧
    (Starts (.response c buf) s o → dmaOk s = true → byteAt buf 4 = 1 → s.lan.inRun = true → buf.length = 160 → Completes (.response c buf) s (fun t =>
      endsWith s t o 5 (0, 0) 0 [] ∧ t.lcy.dbg = s.lcy.dbg ∧ t.lcy.chal = none ∧ t.lcy.authFail = s.lcy.authFail ∧
      (s.evt.cnt.length = 256 → counted 249 s t))) ∧
    (Starts (.response c buf) s o → dmaOk s = true → byteAt buf 4 = 2 → buf.length = 160 → s.fus.lcy ≠ 4 → s.fus.dbgpol.getLsbD 1 = false →
      validChal s = some (slice buf 0x20 32) → debugRecordOk s buf = true → s.lcy.dbg ≠ .bench → Completes (.response c buf) s (fun t =>
        endsWith s t o 0 (0, 0) 0 [] ∧ t.lcy.dbg = .auth ∧ t.lcy.chal = none ∧
        t.lcy.authEnd = s.tb + BitVec.ofNat 64 (leAt buf 6 2 * 6000000000))) ∧
    (Starts (.close c) s o → s.fus.lcy ≠ 4 → Completes (.close c) s (fun t =>
      endsWith s t o 0 (0, 0) 0 [] ∧ (s.lcy.dbg = .auth → t.lcy.dbg = .closed) ∧ (s.lcy.dbg ≠ .auth → t.lcy = s.lcy))) ∧
    (awake s = true → s.lcy.dbg = .auth → s.lcy.authEnd.toNat ≤ s.tb.toNat → Completes .authSessionEnd s (fun t => t.lcy.dbg = .closed ∧ t.lcy.signer = 0xF)) ∧
    (awake s = true → eventsPlaced s → s.lcy.dbg = .closed ∨ s.tb.toNat < s.lcy.authEnd.toNat → exec .authSessionEnd s = .next s) ∧
    (awake s = true → validChal s = none → Completes .challengeExpiry s (fun t => t.lcy.chal = none ∧ t.lcy.dbg = s.lcy.dbg)) ∧
    (awake s = true → eventsPlaced s → validChal s ≠ none → exec .challengeExpiry s = .next s)

/-- The instructions of the TAP: the debug state, the debug policy and the mode decide which are permitted; every other one is BYPASS. What STANDBY
refuses is log 100, a DBG_HALT without frames log 101. -/
def Obligations.TapInstructionsRun : Prop :=
  ∀ s : State, s.sys.powered = true →
    Completes .tapReset s (fun t =>
      t.lcy.ir = 1 ∧ t.lcy.dr = (BitVec.ofNat 32 (s.sys.revMaj * 2 ^ 28 + 0x9720B3)).setWidth 72 ∧ t.lcy.driving = false ∧ t.sys = s.sys) ∧
    Completes .idcode s (fun t => t.lcy.ir = 1 ∧ t.lcy.irOut = 1 ∧ t.lcy.dr = (BitVec.ofNat 32 (s.sys.revMaj * 2 ^ 28 + 0x9720B3)).setWidth 72) ∧
    (∀ code, Completes (.bypass code) s (fun t => t.lcy.ir = 0x3F ∧ t.lcy.dr = 0 ∧ t.lcy.driving = false)) ∧
    (∀ cells,
      ((sampled28 s cells).getLsbD 2 = !wakeOn s ∧ (sampled28 s cells).getLsbD 3 = !alertOn s ∧
        (∀ i, i ≠ 2 → i ≠ 3 → (sampled28 s cells).getLsbD i = (scanCells s cells).getLsbD i) ∧
        (hasSmuOf s.sys.variant = true → scanCells s cells = cells) ∧
        (hasSmuOf s.sys.variant = false → ∀ i, 4 ≤ i → (scanCells s cells).getLsbD i = false)) ∧
      (s.fus.dbgpol.getLsbD 2 = false →
        Completes (.samplePreload cells) s (fun t =>
          t.lcy.ir = 2 ∧ t.lcy.cells = sampled28 s cells ∧ t.lcy.dr = (sampled28 s cells).setWidth 72 ∧ t.lcy.driving = false) ∧
        (s.lan.inRun = false → Completes (.extest cells) s (fun t => t.lcy.ir = 0 ∧ t.lcy.cells = scanCells s cells ∧ t.lcy.driving = true ∧
          wakenLow t = !cells.getLsbD 2 ∧ alertnLow t = !cells.getLsbD 3)) ∧
        (s.lan.inRun = true → Completes (.extest cells) s (fun t => t.lcy.ir = 0x3F ∧ t.lcy.driving = false ∧ t.lcy.refused = true))) ∧
      (s.fus.dbgpol.getLsbD 2 = true →
        Completes (.samplePreload cells) s (fun t => t.lcy.ir = 0x3F ∧ t.lcy.cells = s.lcy.cells ∧ t.lcy.refused = true) ∧
        Completes (.extest cells) s (fun t => t.lcy.ir = 0x3F ∧ t.lcy.driving = false ∧ t.lcy.refused = true))) ∧
    (∀ lane addr en v tgt, debugOpen s = false → ∀ i ∈ [.dbgStatus, .dbgMem lane addr, .dbgForce en v tgt, .dbgHalt, .dbgResume, .dbgStep],
      Completes i s (fun t => t.lcy.ir = 0x3F ∧ t.lcy.dr = 0 ∧ t.lcy.refused = true ∧ t.lan = s.lan ∧ t.lcy.forcedNext = s.lcy.forcedNext)) ∧
    (∀ lane addr, debugOpen s = true →
      Completes .dbgStatus s (fun t => t.lcy.ir = 0x10 ∧ t.lcy.dr = (lcyStateWord s).setWidth 72) ∧
      Completes (.dbgMem lane addr) s (fun t => t.lcy.ir = 0x11 ∧ t.lcy.dr = memWord s lane addr)) ∧
    (debugOpen s = true → s.lcy.dbg = .bench →
      (∀ v tgt, forceTarget s tgt = true →
        Completes (.dbgForce true v tgt) s (fun t => (tgt, v) ∈ t.lcy.forcedNext ∧ t.lcy.forced = s.lcy.forced) ∧
        Completes (.dbgForce false v tgt) s (fun t => ∀ x ∈ t.lcy.forcedNext, x.1 ≠ tgt)) ∧
      (s.lan.halted = false → s.lan.timerOn = true → Completes .dbgHalt s (fun t => t.lan.haltReq = true ∧ t.lan.halted = false)) ∧
      (s.lan.halted = false → s.lan.timerOn = false → Completes .dbgHalt s (fun t => t.lan.halted = true ∧ t.lcy.haltCnt = satAdd s.lcy.haltCnt 1)) ∧
      (s.lan.halted = true →
        Completes .dbgResume s (fun t => t.lan.halted = false ∧ t.lan.haltReq = false ∧ t.lan.stepReq = false) ∧
        (s.lan.timerOn = true → Completes .dbgStep s (fun t => t.lan.halted = false ∧ t.lan.stepReq = true))))

/-- DBG_HALT in AUTH is LANE_FAULT_BOTH, which only a module reset leaves and with which START is refused; in CLOSED it loads BYPASS and has no
effect. -/
def Obligations.HaltOutsideBenchIsLaneFault : Prop :=
  (∀ s : State, s.sys.powered = true → s.sys.pwr ≠ 3 →
    (s.lcy.dbg = .auth → Completes .dbgHalt s (fun t =>
      faultActed 0x27 t ∧ t.lan.needReset = true ∧ startStatus t ≠ none ∧ (s.lan.inRun = true → leftRun t))) ∧
    (s.lcy.dbg = .closed → Completes .dbgHalt s (fun t => t.lcy.ir = 0x3F ∧ onlyTouches [.lcy, .evt, .mail] s t))) ∧
  (∀ (i : Instr) (s t : State), s.lan.needReset = true → exec i s = .next t →
    (t.lan.needReset = true ∧ startStatus t ≠ none) ∨ (t.sys.running = 1 ∧ t.sys.step = 1))

/-- TIMER_ENABLE outside RUN: a timer whose bit is set starts from its load, one whose bit is cleared stops and holds its values; CNT takes no write. A start
in a freeze waits for its end (log 159); the tick of an idle step is log 1. -/
def Obligations.TimersStartAndStop : Prop :=
  ∀ (s : State) (v : BitVec 32) (g : Nat), busReach s → eventsPlaced s → s.lan.inRun = false → s.ttu.gts.length = 16 → g < 16 →
    (v.getLsbD g = true → s.ttu.en.getLsbD g = false → highHalf s g = false → frozen s g = true → Completes (.timerEnable v) s (fun t =>
      t.ttu.en.getLsbD g = true ∧ gtAt t g = { gtAt s g with due := true })) ∧
    (v.getLsbD g = true → s.ttu.en.getLsbD g = false → highHalf s g = false → frozen s g = false → Completes (.timerEnable v) s (fun t =>
      t.ttu.en.getLsbD g = true ∧ (gtAt t g).out = false ∧ (gtAt t g).presc = 0 ∧
      ((gtAt s g).mode = 0 → gtCount t g = gtBuf s g ∧ (gtAt t g).down = true) ∧
      ((gtAt s g).mode = 1 → linked s g = false → (gtAt t g).cnt = 0 ∧ (gtAt t g).down = false))) ∧
    (v.getLsbD g = false → highHalf s g = false → Completes (.timerEnable v) s (fun t =>
      t.ttu.en.getLsbD g = false ∧ (gtAt t g).cnt = (gtAt s g).cnt ∧ (gtAt t g).out = (gtAt s g).out ∧ (gtAt t g).down = (gtAt s g).down)) ∧
    (s.ttu.en.getLsbD g = false → highHalf s g = false →
      ∃ t, step { s with pending := [] } = .next t ∧
        (gtAt t g).cnt = (gtAt s g).cnt ∧ (gtAt t g).out = (gtAt s g).out ∧ (gtAt t g).down = (gtAt s g).down) ∧
    ∀ x, exec (.registerWrite (0x3108 + 16 * g) 4 x) s = .next s

/-- Writes in RUN, TIMER_LINK, CMP_LO_WRITE, and GT_EVENT and CC_FIRE, the ticks in which a timer or a channel reaches its event; and one tick of the time base on an empty queue, which is the model's choice
(log 1). The TTU's copy of TB has no lag (log 133). -/
def Obligations.TimersAndChannelsRun : Prop :=
  ∀ s : State, s.ttu.gts.length = 16 → s.ttu.ccs.length = 32 →
    (s.pending = [] → awake s = true → ∃ t, step s = .next t ∧ t.tb = s.tb + 1 ∧ t.clkB = s.clkB + 1 ∧ onlyTouches [.time, .ttu, .evt, .mail, .net] s t) ∧
    (s.pending = [] → awake s = false → step s = .next s) ∧
    (busReach s → s.lan.inRun = true → ∀ v c,
      Completes (.timerEnable v) s (fun t => t.ttu = { s.ttu with err := s.ttu.err ||| 16 }) ∧
      Completes (.timerLink v) s (fun t => t.ttu = { s.ttu with err := s.ttu.err ||| 16 }) ∧
      Completes (.cmpLoWrite c v) s (fun t => t.ttu = { s.ttu with err := s.ttu.err ||| 16 })) ∧
    (busReach s → s.lan.inRun = false →
      (∀ v, (∀ m, m < 8 → (gtAt s (2 * m)).mode ≠ 1) → s.ttu.en = 0 → s.ttu.ccEn = 0 →
        Completes (.timerLink v) s (fun t => t.ttu.link = v.setWidth 8 ∧ t.ttu.en = s.ttu.en)) ∧
      (∀ v m, m < 8 → v.getLsbD m = true → s.ttu.link.getLsbD m = false → (gtAt s (2 * m)).mode = 1 →
        Completes (.timerLink v) s (fun t => t.ttu = { s.ttu with err := s.ttu.err ||| 1 })) ∧
      (∀ c v, c < 32 → (ccAt s c).tgt = 16 → Completes (.cmpLoWrite c v) s (fun t =>
        (ccAt t c).v = (ccAt s c).hi ++ v ∧ (ccAt t c).armed = true ∧ (ccAt t c).fired = false ∧
        (ccAt t c).past = decide ((ccAt s c).hi ++ v ≤ s.tb) ∧ (∀ d, d ≠ c → ccAt t d = ccAt s d) ∧ t.ttu.gts = s.ttu.gts))) ∧
    (awake s = true → evtReady s → ∀ g, g < 16 → linked s g = false → (gtAt s g).mode ≠ 1 →
      (s.ttu.en.getLsbD g = true → frozen s g = false → (gtAt s g).due = false → (gtAt s g).cnt = 0 →
        ((gtAt s g).smode = 1 → (gtAt s (gtAt s g).msrc).out = true) → ((gtAt s g).smode = 2 → (gtAt s (gtAt s g).msrc).ev = false) →
        ((gtAt s g).src = 0 ∧ ((gtAt s g).presc + 1) % 2 ^ (gtAt s g).psc = 0) ∨ ((gtAt s g).src = 1 ∧ (s.tb + 1).toNat % 2 ^ (gtAt s g).psc = 0) ∨
          (2 ≤ (gtAt s g).src ∧ (gtAt s (gtAt s g).csrc).ev = true) →
        Completes (.gtEvent g) s (fun t => t.tb = s.tb + 1 ∧
          (gtAt t g).cnt = (gtAt s g).buf ∧ (gtAt t g).out = !(gtAt s g).out ∧ (gtAt t g).ev = true ∧ counted (192 + g) s t)) ∧
      ((gtAt s g).cnt ≠ 0 ∨ s.ttu.en.getLsbD g = false ∨ frozen s g = true → exec (.gtEvent g) s = .next s)) ∧
    (awake s = true → evtReady s → ∀ c, c < 32 →
      (ccReady s c = true → (ccAt s c).tgt = 16 → (ccAt s c).v = s.tb + 1 → Completes (.ccFire c) s (fun t =>
        t.tb = s.tb + 1 ∧ (ccAt t c).fired = true ∧ (ccAt t c).armed = !(ccAt s c).oneshot ∧ counted (208 + c) s t)) ∧
      (ccReaches s (busTick s) c = true → Completes (.ccFire c) s (fun t =>
        (ccAt t c).fired = true ∧ (ccAt t c).armed = !(ccAt s c).oneshot ∧ counted (208 + c) s t)) ∧
      (ccReaches s (busTick s) c = false → exec (.ccFire c) s = .next s))

/-- Register accesses. A read gives all ones before the host island answers and, of a page across a stalled crossing, while the crossing is stalled
(log 11), and the bytes asked for otherwise; a write across a stalled crossing is abandoned and recorded. A write of another size or alignment is
ignored and recorded, except where a rule lets none be an error (log 91); in RUN one to SYS or EVT_MAP is recorded as refused too. The registers that
take a write take it by their access codes, the MSI-X table 64 bits too. The place of the MSI-X control word in configuration space is log 157. -/
def Obligations.RegisterWritesFollowAccess : Prop :=
  (∀ (s : State) (a size : Nat),
    (s.sys.answers = false → readReg s a = 0xFFFFFFFF) ∧
    (s.sys.hostStalled = true → a / 0x1000 ∉ [0, 2, 14, 15] → readReg s a = 0xFFFFFFFF) ∧
    (s.sys.answers = true → a / 0x1000 ∈ [0, 2, 14, 15] → ∀ b, readReg { s with sys := { s.sys with hostStalled := b } } a = readReg s a) ∧
    (1 ≤ size → a % 4 + size ≤ 4 → readSpan s a size = ((bytesOf (readReg s (4 * (a / 4))) 4).drop (a % 4)).take size) ∧
    (hasSmuOf s.sys.variant = false → s.sys.answers = true → s.sys.hostStalled = false → ∀ off, off < 0x1000 →
      absentReg s.sys.variant 5 off = true ∧ readReg s (0x5000 + off) = 0) ∧
    (islandReach s → evtReady s → s.sys.hostStalled = true → islandPage (a / 0x1000) = false → ∀ x, Completes (.registerWrite a size x) s (fun t =>
      t.sys.err = s.sys.err ||| 1 ∧ counted 1 s t ∧ counted 2 s t ∧ onlyTouches [.sys, .evt, .mail] s t))) ∧
  ∀ (s : State) (v : BitVec 32), busReach s → eventsPlaced s →
    (∀ a size x, a / 0x1000 ≠ 14 → quietReg s.sys.variant (a / 0x1000) (a % 0x1000) = false → size ≠ 4 ∨ a % 4 ≠ 0 →
      Completes (.registerWrite a size x) s (fun t =>
        t.sys.err = s.sys.err ||| (if runRefused s (a / 0x1000) (a % 0x1000) then 24 else 16) ∧ onlyTouches [.sys, .evt, .mail] s t)) ∧
    (∀ a size x, a / 0x1000 < 16 → quietReg s.sys.variant (a / 0x1000) (a % 0x1000) = true → runRefused s (a / 0x1000) (a % 0x1000) = false →
      size ≠ 4 ∨ a % 4 ≠ 0 → exec (.registerWrite a size x) s = .next s) ∧
    (∀ a size x, a / 4 = 0x400 ∨ absentReg s.sys.variant (a / 0x1000) (a % 0x1000) = true → exec (.registerWrite a size x) s = .next s) ∧
    (∀ a size x, a / 0x1000 ∈ [4, 5, 6, 7, 8, 9, 11, 12, 15] → exec (.registerWrite a size x) s = .next s) ∧
    (∀ a size x, (a / 0x1000 = 1 ∧ 4 ≤ a % 0x1000 ∧ a % 0x1000 < 0x30) ∨ (a / 0x1000 = 13 ∧ a % 0x1000 < 0x100) ∨ (a / 0x1000 = 10 ∧ a % 0x1000 < 4) →
      s.lan.inRun = false → size ≠ 4 → Completes (.registerWrite a size x) s (fun t => t.sys.err = s.sys.err ||| 16)) ∧
    Completes (.registerWrite 0x10050 4 (v.setWidth 64)) s (fun t =>
      t.host.pci = { s.host.pci with msixEn := v.getLsbD 31, msixMask := v.getLsbD 30 } ∧ onlyTouches [.host, .mail] s t) ∧
    (∀ (k : Nat) (x : BitVec 64), k < 32 → s.host.msix.length = 32 → Completes (.registerWrite (0xE000 + 16 * k) 8 x) s (fun t =>
      (t.host.msix.getD k MsixSt.reset).addr = x ∧ (t.host.msix.getD k MsixSt.reset).data = (s.host.msix.getD k MsixSt.reset).data ∧ onlyTouches [.host] s t)) ∧
    (s.lan.inRun = false →
      Completes (.registerWrite 0x1018 4 (v.setWidth 64)) s (fun t => t.sys = { s.sys with err := s.sys.err &&& ~~~ (v.setWidth 5) } ∧ onlyTouches [.sys] s t) ∧
      Completes (.registerWrite 0x1020 4 (v.setWidth 64)) s (fun t => t.sys = { s.sys with wakeMask := v } ∧ onlyTouches [.sys] s t) ∧
      ((v >>> 16).toNat ≠ 0xC3A5 → Completes (.registerWrite 0x1014 4 (v.setWidth 64)) s (fun t =>
        t.sys = { s.sys with err := s.sys.err ||| 4 } ∧ onlyTouches [.sys, .evt, .mail] s t)) ∧
      (∀ i k, i < 64 → k < 4 → s.evt.map.length = 256 → Completes (.registerWrite (0xD000 + 4 * i) 4 (v.setWidth 64)) s (fun t =>
        t.evt.map.getD (4 * i + k) 0 = BitVec.ofNat 5 (v.toNat / 2 ^ (8 * k)) ∧
        (∀ j, j / 4 ≠ i → t.evt.map.getD j 0 = s.evt.map.getD j 0) ∧ onlyTouches [.evt] s t))) ∧
    (s.lan.inRun = true →
      Completes (.registerWrite 0x1018 4 (v.setWidth 64)) s (fun t => t.sys = { s.sys with err := s.sys.err ||| 8 }) ∧
      Completes (.registerWrite 0x1020 4 (v.setWidth 64)) s (fun t => t.sys = { s.sys with err := s.sys.err ||| 8 }) ∧
      (∀ i, i < 64 → Completes (.registerWrite (0xD000 + 4 * i) 4 (v.setWidth 64)) s (fun t =>
        t.sys = { s.sys with err := s.sys.err ||| 8 } ∧ t.evt.map = s.evt.map))) ∧
    Completes (.registerWrite 0x2008 4 (v.setWidth 64)) s (fun t => t.host = { s.host with err := s.host.err &&& ~~~ (v.setWidth 7) } ∧ onlyTouches [.host] s t) ∧
    Completes (.registerWrite 0xA000 4 (v.setWidth 64)) s (fun t =>
      t.rdl = { s.rdl with entry := s.rdl.entry && !v.getLsbD 2, mismatch := s.rdl.mismatch && !v.getLsbD 1 } ∧ onlyTouches [.rdl] s t) ∧
    (∀ k, k < 32 → s.host.msix.length = 32 → Completes (.registerWrite (0xE00C + 16 * k) 4 (v.setWidth 64)) s (fun t =>
      (t.host.msix.getD k MsixSt.reset).ctrl = v &&& 1 ∧
      (s.host.pba.getLsbD k = true → dmaOk s = true → s.host.pci.msixEn = true → s.host.pci.msixMask = false → v.getLsbD 0 = false →
        t.host.pba.getLsbD k = false ∧
        t.host.posted = s.host.posted ++ [.msix k (s.host.msix.getD k MsixSt.reset).addr (s.host.msix.getD k MsixSt.reset).data])))

/-- Every command answers a next state in every state; in reset, only what acts on the supply, start-up, the link and the TAP changes anything. That a
command with nothing to do in a state leaves it as it is, is the model's reading (log 110). -/
def Obligations.EveryCommandAnswersNext : Prop :=
  (∀ (i : Instr) (s : State), ∃ t, exec i s = .next t) ∧
  (∀ (i : Instr) (s : State), awake s = false → actsInReset i = false → exec i s = .next s)

/-- The registers right after reset, and the properties that every step keeps hold there. Of TTU's buffers, compare channels, EVT's map, MSI-X masks,
ring sizes, the debug state and policy, and the signer the spec gives the values. -/
def Obligations.ResetValues : Prop :=
  State.reset.pending = [] ∧ State.reset.tb = 0 ∧ State.reset.sys.step = 1 ∧ State.reset.sys.rstcause = 1 ∧ State.reset.sys.pwr = 0 ∧
  State.reset.sys.pwrReq = 1 ∧ State.reset.sys.err = 0 ∧ State.reset.sys.wakeMask = 0 ∧
  (∀ r, r < 7 → (ringAt State.reset r).size = 16) ∧ State.reset.host.ringEn = 0 ∧ State.reset.host.div = 1 ∧
  (∀ v, v < 32 → (State.reset.host.msix.getD v ⟨0, 0, 0⟩).ctrl = 1) ∧ (∀ i, i < 256 → vectorOf State.reset i = i / 8) ∧
  (∀ g, g < 16 → (gtAt State.reset g).buf = 0xFFFFFFFF) ∧ (∀ c, c < 32 → (ccAt State.reset c).cfg = 0x80000000) ∧
  State.reset.fus.dbgpol = 7 ∧ State.reset.lcy.dbg = .closed ∧ State.reset.lcy.signer = 0xF ∧ State.reset.lcy.ir = 1 ∧
  State.reset.lan.inRun = false ∧ State.reset.cfg = none ∧ awake State.reset = false ∧ eventsPlaced State.reset ∧ ringsOk State.reset

/-- Every step places the events of its command, and each one counts once for its source: after placing, a count has gone up by the number of events
raised of the source, and saturates. The sources of the rings' notifications and of EVT_OVERFLOW count more. -/
def Obligations.EventsArePlacedAndCounted : Prop :=
  (∀ s t : State, eventsPlaced s → step s = .next t → eventsPlaced t) ∧
  (∀ (s : State) (src : Nat), src < 256 → src ≠ 185 → src ≠ 189 → s.evt.cnt.length = 256 →
    (flush s).evt.cnt.getD src 0 = satAdd (s.evt.cnt.getD src 0) (s.evt.raised.filter (fun e => e.src == src)).length)

/-- Every step keeps the rings within their sizes: seven rings of permitted size, and in every enabled ring but CPL never more entries than places. -/
def Obligations.RingsStayWithinTheirSizes : Prop := ∀ s t : State, ringsOk s → step s = .next t → ringsOk t

/-- No step returns a blown fuse bit to 0 at the normal reference. -/
def Obligations.FusesOnlyGainBits : Prop := ∀ (s t : State) (w : Nat), step s = .next t → fuseVal s w &&& ~~~ fuseVal t w = 0

/-- Frames: a command touches only the parts of the state that are listed for it, and no command touches the queue. -/
def Obligations.CommandsKeepOtherParts : Prop :=
  (∀ (i : Instr) (l : List Part), touched i = some l → Frame l i) ∧ (∀ (i : Instr) (s t : State), exec i s = .next t → t.pending = s.pending)
end

