-- ==== Sys2Proof/Laws/State.lean ====
section
/-! SUPPORT. What every named update of the state leaves alone: one lemma per update, all by computation. -/
namespace Sys2Proof.Machine

@[simp] theorem post_frame (s : State) (p : Post) :
    (post s p).pending = s.pending ∧ (post s p).tb = s.tb ∧ (post s p).clkB = s.clkB ∧ (post s p).freeCnt = s.freeCnt ∧
    (post s p).sys = s.sys ∧ (post s p).evt = s.evt ∧ (post s p).ttu = s.ttu ∧ (post s p).lan = s.lan ∧ (post s p).rdl = s.rdl ∧
    (post s p).fns = s.fns ∧ (post s p).fld = s.fld ∧ (post s p).smu = s.smu ∧ (post s p).ksl = s.ksl ∧ (post s p).cuts = s.cuts ∧
    (post s p).mode = s.mode ∧ (post s p).net = s.net ∧ (post s p).plt = s.plt ∧ (post s p).fus = s.fus ∧ (post s p).lcy = s.lcy ∧
    (post s p).nv = s.nv ∧ (post s p).cfg = s.cfg ∧ (post s p).host.ringEn = s.host.ringEn ∧ (post s p).host.piEn = s.host.piEn ∧
    (post s p).host.err = s.host.err ∧ (post s p).host.lostCommitted = s.host.lostCommitted ∧
    (post s p).host.lostCancelled = s.host.lostCancelled ∧ (post s p).host.sb = s.host.sb ∧ (post s p).host.pi = s.host.pi ∧
    (post s p).host.div = s.host.div ∧ (post s p).host.piGen = s.host.piGen ∧ (post s p).host.tunDrop = s.host.tunDrop ∧
    (post s p).host.reqDrop = s.host.reqDrop ∧ (post s p).host.d3 = s.host.d3 ∧ (post s p).host.linkUp = s.host.linkUp ∧
    (post s p).host.busMaster = s.host.busMaster ∧ (post s p).host.tunEn = s.host.tunEn ∧ (post s p).host.outst = s.host.outst ∧
    (post s p).host.done = s.host.done ∧ (post s p).host.seen = s.host.seen ∧ (post s p).host.slots = s.host.slots ∧
    (post s p).host.slotLatch = s.host.slotLatch ∧ (post s p).host.std = s.host.std ∧ (post s p).host.stdLatch = s.host.stdLatch ∧
    (post s p).host.clearReq = s.host.clearReq ∧ (post s p).host.reports = s.host.reports ∧
    (post s p).host.piCnt = s.host.piCnt ∧ (post s p).host.pci = s.host.pci ∧ (post s p).host.msix = s.host.msix := by
  unfold post; simp

@[simp] theorem modRing_frame (s : State) (r : Nat) (g : RingSt → RingSt) :
    (modRing s r g).pending = s.pending ∧ (modRing s r g).tb = s.tb ∧ (modRing s r g).clkB = s.clkB ∧ (modRing s r g).freeCnt = s.freeCnt ∧
    (modRing s r g).sys = s.sys ∧ (modRing s r g).evt = s.evt ∧ (modRing s r g).ttu = s.ttu ∧ (modRing s r g).lan = s.lan ∧
    (modRing s r g).rdl = s.rdl ∧ (modRing s r g).fns = s.fns ∧ (modRing s r g).fld = s.fld ∧ (modRing s r g).smu = s.smu ∧
    (modRing s r g).ksl = s.ksl ∧ (modRing s r g).cuts = s.cuts ∧ (modRing s r g).mode = s.mode ∧ (modRing s r g).net = s.net ∧
    (modRing s r g).plt = s.plt ∧ (modRing s r g).fus = s.fus ∧ (modRing s r g).lcy = s.lcy ∧ (modRing s r g).nv = s.nv ∧
    (modRing s r g).cfg = s.cfg ∧ (modRing s r g).host.ringEn = s.host.ringEn ∧ (modRing s r g).host.piEn = s.host.piEn ∧
    (modRing s r g).host.err = s.host.err ∧ (modRing s r g).host.lostCommitted = s.host.lostCommitted ∧
    (modRing s r g).host.lostCancelled = s.host.lostCancelled ∧ (modRing s r g).host.sb = s.host.sb ∧ (modRing s r g).host.pi = s.host.pi ∧
    (modRing s r g).host.div = s.host.div ∧ (modRing s r g).host.piGen = s.host.piGen ∧ (modRing s r g).host.tunDrop = s.host.tunDrop ∧
    (modRing s r g).host.reqDrop = s.host.reqDrop ∧ (modRing s r g).host.d3 = s.host.d3 ∧ (modRing s r g).host.linkUp = s.host.linkUp ∧
    (modRing s r g).host.busMaster = s.host.busMaster ∧ (modRing s r g).host.tunEn = s.host.tunEn ∧
    (modRing s r g).host.outst = s.host.outst ∧ (modRing s r g).host.done = s.host.done ∧ (modRing s r g).host.seen = s.host.seen ∧
    (modRing s r g).host.slots = s.host.slots ∧ (modRing s r g).host.slotLatch = s.host.slotLatch ∧ (modRing s r g).host.std = s.host.std ∧
    (modRing s r g).host.stdLatch = s.host.stdLatch ∧ (modRing s r g).host.clearReq = s.host.clearReq ∧
    (modRing s r g).host.reports = s.host.reports ∧
    (modRing s r g).host.piCnt = s.host.piCnt ∧ (modRing s r g).host.pci = s.host.pci ∧ (modRing s r g).host.msix = s.host.msix := by
  unfold modRing; simp

@[simp] theorem nextFree_frame (s : State) :
    (nextFree s).pending = s.pending ∧ (nextFree s).tb = s.tb ∧ (nextFree s).clkB = s.clkB ∧ (nextFree s).sys = s.sys ∧
    (nextFree s).evt = s.evt ∧ (nextFree s).host = s.host ∧ (nextFree s).ttu = s.ttu ∧ (nextFree s).lan = s.lan ∧
    (nextFree s).rdl = s.rdl ∧ (nextFree s).fns = s.fns ∧ (nextFree s).fld = s.fld ∧ (nextFree s).smu = s.smu ∧ (nextFree s).ksl = s.ksl ∧
    (nextFree s).cuts = s.cuts ∧ (nextFree s).mode = s.mode ∧ (nextFree s).net = s.net ∧ (nextFree s).plt = s.plt ∧
    (nextFree s).fus = s.fus ∧ (nextFree s).lcy = s.lcy ∧ (nextFree s).nv = s.nv ∧ (nextFree s).cfg = s.cfg := by
  unfold nextFree; simp

@[simp] theorem countEvt_frame (s : State) (src : Nat) :
    (countEvt s src).pending = s.pending ∧ (countEvt s src).tb = s.tb ∧ (countEvt s src).clkB = s.clkB ∧
    (countEvt s src).freeCnt = s.freeCnt ∧ (countEvt s src).sys = s.sys ∧ (countEvt s src).host = s.host ∧ (countEvt s src).ttu = s.ttu ∧
    (countEvt s src).lan = s.lan ∧ (countEvt s src).rdl = s.rdl ∧ (countEvt s src).fns = s.fns ∧ (countEvt s src).fld = s.fld ∧
    (countEvt s src).smu = s.smu ∧ (countEvt s src).ksl = s.ksl ∧ (countEvt s src).cuts = s.cuts ∧ (countEvt s src).mode = s.mode ∧
    (countEvt s src).net = s.net ∧ (countEvt s src).plt = s.plt ∧ (countEvt s src).fus = s.fus ∧ (countEvt s src).lcy = s.lcy ∧
    (countEvt s src).nv = s.nv ∧ (countEvt s src).cfg = s.cfg := by
  unfold countEvt; simp

@[simp] theorem holdEvt_frame (s : State) (src : Nat) :
    (holdEvt s src).pending = s.pending ∧ (holdEvt s src).tb = s.tb ∧ (holdEvt s src).clkB = s.clkB ∧ (holdEvt s src).freeCnt = s.freeCnt ∧
    (holdEvt s src).sys = s.sys ∧ (holdEvt s src).host = s.host ∧ (holdEvt s src).ttu = s.ttu ∧ (holdEvt s src).lan = s.lan ∧
    (holdEvt s src).rdl = s.rdl ∧ (holdEvt s src).fns = s.fns ∧ (holdEvt s src).fld = s.fld ∧ (holdEvt s src).smu = s.smu ∧
    (holdEvt s src).ksl = s.ksl ∧ (holdEvt s src).cuts = s.cuts ∧ (holdEvt s src).mode = s.mode ∧ (holdEvt s src).net = s.net ∧
    (holdEvt s src).plt = s.plt ∧ (holdEvt s src).fus = s.fus ∧ (holdEvt s src).lcy = s.lcy ∧ (holdEvt s src).nv = s.nv ∧
    (holdEvt s src).cfg = s.cfg := by
  unfold holdEvt; simp

@[simp] theorem logRecord_frame (s : State) (q : Nat) (r : Bytes) :
    (logRecord s q r).pending = s.pending ∧ (logRecord s q r).tb = s.tb ∧ (logRecord s q r).clkB = s.clkB ∧
    (logRecord s q r).freeCnt = s.freeCnt ∧ (logRecord s q r).sys = s.sys ∧ (logRecord s q r).evt = s.evt ∧
    (logRecord s q r).host = s.host ∧ (logRecord s q r).ttu = s.ttu ∧ (logRecord s q r).lan = s.lan ∧ (logRecord s q r).rdl = s.rdl ∧
    (logRecord s q r).fns = s.fns ∧ (logRecord s q r).fld = s.fld ∧ (logRecord s q r).smu = s.smu ∧ (logRecord s q r).ksl = s.ksl ∧
    (logRecord s q r).cuts = s.cuts ∧ (logRecord s q r).mode = s.mode ∧ (logRecord s q r).net = s.net ∧ (logRecord s q r).plt = s.plt ∧
    (logRecord s q r).fus = s.fus ∧ (logRecord s q r).lcy = s.lcy ∧ (logRecord s q r).cfg = s.cfg := by
  unfold logRecord; simp

@[simp] theorem modFn_frame (s : State) (ctx : Nat) (g : FnSt → FnSt) :
    (modFn s ctx g).pending = s.pending ∧ (modFn s ctx g).tb = s.tb ∧ (modFn s ctx g).clkB = s.clkB ∧ (modFn s ctx g).freeCnt = s.freeCnt ∧
    (modFn s ctx g).sys = s.sys ∧ (modFn s ctx g).evt = s.evt ∧ (modFn s ctx g).host = s.host ∧ (modFn s ctx g).ttu = s.ttu ∧
    (modFn s ctx g).lan = s.lan ∧ (modFn s ctx g).rdl = s.rdl ∧ (modFn s ctx g).fld = s.fld ∧ (modFn s ctx g).smu = s.smu ∧
    (modFn s ctx g).ksl = s.ksl ∧ (modFn s ctx g).cuts = s.cuts ∧ (modFn s ctx g).mode = s.mode ∧ (modFn s ctx g).net = s.net ∧
    (modFn s ctx g).plt = s.plt ∧ (modFn s ctx g).fus = s.fus ∧ (modFn s ctx g).lcy = s.lcy ∧ (modFn s ctx g).nv = s.nv ∧
    (modFn s ctx g).cfg = s.cfg := by
  unfold modFn; simp

@[simp] theorem modOut_frame (s : State) (ch : Nat) (g : OutCh → OutCh) :
    (modOut s ch g).pending = s.pending ∧ (modOut s ch g).tb = s.tb ∧ (modOut s ch g).clkB = s.clkB ∧ (modOut s ch g).freeCnt = s.freeCnt ∧
    (modOut s ch g).sys = s.sys ∧ (modOut s ch g).evt = s.evt ∧ (modOut s ch g).host = s.host ∧ (modOut s ch g).ttu = s.ttu ∧
    (modOut s ch g).lan = s.lan ∧ (modOut s ch g).rdl = s.rdl ∧ (modOut s ch g).fns = s.fns ∧ (modOut s ch g).smu = s.smu ∧
    (modOut s ch g).ksl = s.ksl ∧ (modOut s ch g).cuts = s.cuts ∧ (modOut s ch g).mode = s.mode ∧ (modOut s ch g).net = s.net ∧
    (modOut s ch g).plt = s.plt ∧ (modOut s ch g).fus = s.fus ∧ (modOut s ch g).lcy = s.lcy ∧ (modOut s ch g).nv = s.nv ∧
    (modOut s ch g).cfg = s.cfg := by
  unfold modOut; simp

@[simp] theorem modBank_frame (s : State) (b : Nat) (g : BankSt → BankSt) :
    (modBank s b g).pending = s.pending ∧ (modBank s b g).tb = s.tb ∧ (modBank s b g).clkB = s.clkB ∧ (modBank s b g).freeCnt = s.freeCnt ∧
    (modBank s b g).sys = s.sys ∧ (modBank s b g).evt = s.evt ∧ (modBank s b g).host = s.host ∧ (modBank s b g).ttu = s.ttu ∧
    (modBank s b g).lan = s.lan ∧ (modBank s b g).rdl = s.rdl ∧ (modBank s b g).fns = s.fns ∧ (modBank s b g).smu = s.smu ∧
    (modBank s b g).ksl = s.ksl ∧ (modBank s b g).cuts = s.cuts ∧ (modBank s b g).mode = s.mode ∧ (modBank s b g).net = s.net ∧
    (modBank s b g).plt = s.plt ∧ (modBank s b g).fus = s.fus ∧ (modBank s b g).lcy = s.lcy ∧ (modBank s b g).nv = s.nv ∧
    (modBank s b g).cfg = s.cfg := by
  unfold modBank; simp

@[simp] theorem modSrc_frame (s : State) (i : Nat) (g : SrcSt → SrcSt) :
    (modSrc s i g).pending = s.pending ∧ (modSrc s i g).tb = s.tb ∧ (modSrc s i g).clkB = s.clkB ∧ (modSrc s i g).freeCnt = s.freeCnt ∧
    (modSrc s i g).sys = s.sys ∧ (modSrc s i g).evt = s.evt ∧ (modSrc s i g).host = s.host ∧ (modSrc s i g).ttu = s.ttu ∧
    (modSrc s i g).lan = s.lan ∧ (modSrc s i g).rdl = s.rdl ∧ (modSrc s i g).fns = s.fns ∧ (modSrc s i g).smu = s.smu ∧
    (modSrc s i g).ksl = s.ksl ∧ (modSrc s i g).cuts = s.cuts ∧ (modSrc s i g).mode = s.mode ∧ (modSrc s i g).net = s.net ∧
    (modSrc s i g).plt = s.plt ∧ (modSrc s i g).fus = s.fus ∧ (modSrc s i g).lcy = s.lcy ∧ (modSrc s i g).nv = s.nv ∧
    (modSrc s i g).cfg = s.cfg := by
  unfold modSrc; simp

@[simp] theorem modSeq_frame (s : State) (l : Lane) (ch : Nat) (g : SeqIn → SeqIn) :
    (modSeq s l ch g).pending = s.pending ∧ (modSeq s l ch g).tb = s.tb ∧ (modSeq s l ch g).clkB = s.clkB ∧
    (modSeq s l ch g).freeCnt = s.freeCnt ∧ (modSeq s l ch g).sys = s.sys ∧ (modSeq s l ch g).evt = s.evt ∧
    (modSeq s l ch g).host = s.host ∧ (modSeq s l ch g).ttu = s.ttu ∧ (modSeq s l ch g).lan = s.lan ∧ (modSeq s l ch g).rdl = s.rdl ∧
    (modSeq s l ch g).fns = s.fns ∧ (modSeq s l ch g).smu = s.smu ∧ (modSeq s l ch g).ksl = s.ksl ∧ (modSeq s l ch g).cuts = s.cuts ∧
    (modSeq s l ch g).mode = s.mode ∧ (modSeq s l ch g).net = s.net ∧ (modSeq s l ch g).plt = s.plt ∧ (modSeq s l ch g).fus = s.fus ∧
    (modSeq s l ch g).lcy = s.lcy ∧ (modSeq s l ch g).nv = s.nv ∧ (modSeq s l ch g).cfg = s.cfg := by
  cases l <;> simp [modSeq]

@[simp] theorem modLink_frame (s : State) (l : Lane) (g : LinkSt → LinkSt) :
    (modLink s l g).pending = s.pending ∧ (modLink s l g).tb = s.tb ∧ (modLink s l g).clkB = s.clkB ∧ (modLink s l g).freeCnt = s.freeCnt ∧
    (modLink s l g).sys = s.sys ∧ (modLink s l g).evt = s.evt ∧ (modLink s l g).host = s.host ∧ (modLink s l g).ttu = s.ttu ∧
    (modLink s l g).lan = s.lan ∧ (modLink s l g).rdl = s.rdl ∧ (modLink s l g).fns = s.fns ∧ (modLink s l g).smu = s.smu ∧
    (modLink s l g).ksl = s.ksl ∧ (modLink s l g).cuts = s.cuts ∧ (modLink s l g).mode = s.mode ∧ (modLink s l g).net = s.net ∧
    (modLink s l g).plt = s.plt ∧ (modLink s l g).fus = s.fus ∧ (modLink s l g).lcy = s.lcy ∧ (modLink s l g).nv = s.nv ∧
    (modLink s l g).cfg = s.cfg := by
  cases l <;> simp [modLink]

@[simp] theorem modSw_frame (s : State) (l : Lane) (ch : Nat) (g : SwitchSt → SwitchSt) :
    (modSw s l ch g).pending = s.pending ∧ (modSw s l ch g).tb = s.tb ∧ (modSw s l ch g).clkB = s.clkB ∧
    (modSw s l ch g).freeCnt = s.freeCnt ∧ (modSw s l ch g).sys = s.sys ∧ (modSw s l ch g).evt = s.evt ∧ (modSw s l ch g).host = s.host ∧
    (modSw s l ch g).ttu = s.ttu ∧ (modSw s l ch g).lan = s.lan ∧ (modSw s l ch g).rdl = s.rdl ∧ (modSw s l ch g).fns = s.fns ∧
    (modSw s l ch g).smu = s.smu ∧ (modSw s l ch g).ksl = s.ksl ∧ (modSw s l ch g).cuts = s.cuts ∧ (modSw s l ch g).mode = s.mode ∧
    (modSw s l ch g).net = s.net ∧ (modSw s l ch g).plt = s.plt ∧ (modSw s l ch g).fus = s.fus ∧ (modSw s l ch g).lcy = s.lcy ∧
    (modSw s l ch g).nv = s.nv ∧ (modSw s l ch g).cfg = s.cfg := by
  unfold modSw; simp

@[simp] theorem dropOutCauses_frame (s : State) (ch : Nat) (p : Nat → Bool) :
    (dropOutCauses s ch p).pending = s.pending ∧ (dropOutCauses s ch p).tb = s.tb ∧ (dropOutCauses s ch p).clkB = s.clkB ∧
    (dropOutCauses s ch p).freeCnt = s.freeCnt ∧ (dropOutCauses s ch p).sys = s.sys ∧ (dropOutCauses s ch p).evt = s.evt ∧
    (dropOutCauses s ch p).host = s.host ∧ (dropOutCauses s ch p).ttu = s.ttu ∧ (dropOutCauses s ch p).lan = s.lan ∧
    (dropOutCauses s ch p).rdl = s.rdl ∧ (dropOutCauses s ch p).fns = s.fns ∧ (dropOutCauses s ch p).smu = s.smu ∧
    (dropOutCauses s ch p).ksl = s.ksl ∧ (dropOutCauses s ch p).cuts = s.cuts ∧ (dropOutCauses s ch p).mode = s.mode ∧
    (dropOutCauses s ch p).net = s.net ∧ (dropOutCauses s ch p).plt = s.plt ∧ (dropOutCauses s ch p).fus = s.fus ∧
    (dropOutCauses s ch p).lcy = s.lcy ∧ (dropOutCauses s ch p).nv = s.nv ∧ (dropOutCauses s ch p).cfg = s.cfg := by
  unfold dropOutCauses; simp

@[simp] theorem modAxis_frame (s : State) (a : Nat) (g : AxisSt → AxisSt) :
    (modAxis s a g).pending = s.pending ∧ (modAxis s a g).tb = s.tb ∧ (modAxis s a g).clkB = s.clkB ∧ (modAxis s a g).freeCnt = s.freeCnt ∧
    (modAxis s a g).sys = s.sys ∧ (modAxis s a g).evt = s.evt ∧ (modAxis s a g).host = s.host ∧ (modAxis s a g).ttu = s.ttu ∧
    (modAxis s a g).lan = s.lan ∧ (modAxis s a g).rdl = s.rdl ∧ (modAxis s a g).fns = s.fns ∧ (modAxis s a g).fld = s.fld ∧
    (modAxis s a g).ksl = s.ksl ∧ (modAxis s a g).cuts = s.cuts ∧ (modAxis s a g).mode = s.mode ∧ (modAxis s a g).net = s.net ∧
    (modAxis s a g).plt = s.plt ∧ (modAxis s a g).fus = s.fus ∧ (modAxis s a g).lcy = s.lcy ∧ (modAxis s a g).nv = s.nv ∧
    (modAxis s a g).cfg = s.cfg := by
  unfold modAxis; simp

@[simp] theorem modCons_frame (s : State) (id : Nat) (g : ConsSt → ConsSt) :
    (modCons s id g).pending = s.pending ∧ (modCons s id g).tb = s.tb ∧ (modCons s id g).clkB = s.clkB ∧
    (modCons s id g).freeCnt = s.freeCnt ∧ (modCons s id g).sys = s.sys ∧ (modCons s id g).evt = s.evt ∧ (modCons s id g).host = s.host ∧
    (modCons s id g).ttu = s.ttu ∧ (modCons s id g).lan = s.lan ∧ (modCons s id g).rdl = s.rdl ∧ (modCons s id g).fns = s.fns ∧
    (modCons s id g).fld = s.fld ∧ (modCons s id g).smu = s.smu ∧ (modCons s id g).cuts = s.cuts ∧ (modCons s id g).mode = s.mode ∧
    (modCons s id g).net = s.net ∧ (modCons s id g).plt = s.plt ∧ (modCons s id g).fus = s.fus ∧ (modCons s id g).lcy = s.lcy ∧
    (modCons s id g).nv = s.nv ∧ (modCons s id g).cfg = s.cfg := by
  unfold modCons; simp

@[simp] theorem modProd_frame (s : State) (id : Nat) (g : ProdSt → ProdSt) :
    (modProd s id g).pending = s.pending ∧ (modProd s id g).tb = s.tb ∧ (modProd s id g).clkB = s.clkB ∧
    (modProd s id g).freeCnt = s.freeCnt ∧ (modProd s id g).sys = s.sys ∧ (modProd s id g).evt = s.evt ∧ (modProd s id g).host = s.host ∧
    (modProd s id g).ttu = s.ttu ∧ (modProd s id g).lan = s.lan ∧ (modProd s id g).rdl = s.rdl ∧ (modProd s id g).fns = s.fns ∧
    (modProd s id g).fld = s.fld ∧ (modProd s id g).smu = s.smu ∧ (modProd s id g).cuts = s.cuts ∧ (modProd s id g).mode = s.mode ∧
    (modProd s id g).net = s.net ∧ (modProd s id g).plt = s.plt ∧ (modProd s id g).fus = s.fus ∧ (modProd s id g).lcy = s.lcy ∧
    (modProd s id g).nv = s.nv ∧ (modProd s id g).cfg = s.cfg := by
  unfold modProd; simp

@[simp] theorem modCut_frame (s : State) (fid : Nat) (g : CutSt → CutSt) :
    (modCut s fid g).pending = s.pending ∧ (modCut s fid g).tb = s.tb ∧ (modCut s fid g).clkB = s.clkB ∧
    (modCut s fid g).freeCnt = s.freeCnt ∧ (modCut s fid g).sys = s.sys ∧ (modCut s fid g).evt = s.evt ∧ (modCut s fid g).host = s.host ∧
    (modCut s fid g).ttu = s.ttu ∧ (modCut s fid g).lan = s.lan ∧ (modCut s fid g).rdl = s.rdl ∧ (modCut s fid g).fns = s.fns ∧
    (modCut s fid g).fld = s.fld ∧ (modCut s fid g).smu = s.smu ∧ (modCut s fid g).ksl = s.ksl ∧ (modCut s fid g).mode = s.mode ∧
    (modCut s fid g).net = s.net ∧ (modCut s fid g).plt = s.plt ∧ (modCut s fid g).fus = s.fus ∧ (modCut s fid g).lcy = s.lcy ∧
    (modCut s fid g).nv = s.nv ∧ (modCut s fid g).cfg = s.cfg := by
  unfold modCut; simp

@[simp] theorem modOwn_frame (s : State) (fid : Nat) (g : OwnSt → OwnSt) :
    (modOwn s fid g).pending = s.pending ∧ (modOwn s fid g).tb = s.tb ∧ (modOwn s fid g).clkB = s.clkB ∧
    (modOwn s fid g).freeCnt = s.freeCnt ∧ (modOwn s fid g).sys = s.sys ∧ (modOwn s fid g).evt = s.evt ∧ (modOwn s fid g).host = s.host ∧
    (modOwn s fid g).ttu = s.ttu ∧ (modOwn s fid g).lan = s.lan ∧ (modOwn s fid g).rdl = s.rdl ∧ (modOwn s fid g).fns = s.fns ∧
    (modOwn s fid g).fld = s.fld ∧ (modOwn s fid g).smu = s.smu ∧ (modOwn s fid g).ksl = s.ksl ∧ (modOwn s fid g).mode = s.mode ∧
    (modOwn s fid g).net = s.net ∧ (modOwn s fid g).plt = s.plt ∧ (modOwn s fid g).fus = s.fus ∧ (modOwn s fid g).lcy = s.lcy ∧
    (modOwn s fid g).nv = s.nv ∧ (modOwn s fid g).cfg = s.cfg := by
  unfold modOwn; simp

@[simp] theorem modNbr_frame (s : State) (node : Nat) (g : NbrSt → NbrSt) :
    (modNbr s node g).pending = s.pending ∧ (modNbr s node g).tb = s.tb ∧ (modNbr s node g).clkB = s.clkB ∧
    (modNbr s node g).freeCnt = s.freeCnt ∧ (modNbr s node g).sys = s.sys ∧ (modNbr s node g).evt = s.evt ∧
    (modNbr s node g).host = s.host ∧ (modNbr s node g).ttu = s.ttu ∧ (modNbr s node g).lan = s.lan ∧ (modNbr s node g).rdl = s.rdl ∧
    (modNbr s node g).fns = s.fns ∧ (modNbr s node g).fld = s.fld ∧ (modNbr s node g).smu = s.smu ∧ (modNbr s node g).ksl = s.ksl ∧
    (modNbr s node g).cuts = s.cuts ∧ (modNbr s node g).mode = s.mode ∧ (modNbr s node g).net = s.net ∧ (modNbr s node g).fus = s.fus ∧
    (modNbr s node g).lcy = s.lcy ∧ (modNbr s node g).nv = s.nv ∧ (modNbr s node g).cfg = s.cfg := by
  unfold modNbr; simp

@[simp] theorem modGt_frame (s : State) (g : Nat) (f : GtSt → GtSt) :
    (modGt s g f).pending = s.pending ∧ (modGt s g f).tb = s.tb ∧ (modGt s g f).clkB = s.clkB ∧ (modGt s g f).freeCnt = s.freeCnt ∧
    (modGt s g f).sys = s.sys ∧ (modGt s g f).evt = s.evt ∧ (modGt s g f).host = s.host ∧ (modGt s g f).lan = s.lan ∧
    (modGt s g f).rdl = s.rdl ∧ (modGt s g f).fns = s.fns ∧ (modGt s g f).fld = s.fld ∧ (modGt s g f).smu = s.smu ∧
    (modGt s g f).ksl = s.ksl ∧ (modGt s g f).cuts = s.cuts ∧ (modGt s g f).mode = s.mode ∧ (modGt s g f).net = s.net ∧
    (modGt s g f).plt = s.plt ∧ (modGt s g f).fus = s.fus ∧ (modGt s g f).lcy = s.lcy ∧ (modGt s g f).nv = s.nv ∧ (modGt s g f).cfg = s.cfg := by
  unfold modGt; simp

@[simp] theorem setCount_frame (s : State) (g : Nat) (v : BitVec 64) :
    (setCount s g v).pending = s.pending ∧ (setCount s g v).tb = s.tb ∧ (setCount s g v).clkB = s.clkB ∧
    (setCount s g v).freeCnt = s.freeCnt ∧ (setCount s g v).sys = s.sys ∧ (setCount s g v).evt = s.evt ∧ (setCount s g v).host = s.host ∧
    (setCount s g v).lan = s.lan ∧ (setCount s g v).rdl = s.rdl ∧ (setCount s g v).fns = s.fns ∧ (setCount s g v).fld = s.fld ∧
    (setCount s g v).smu = s.smu ∧ (setCount s g v).ksl = s.ksl ∧ (setCount s g v).cuts = s.cuts ∧ (setCount s g v).mode = s.mode ∧
    (setCount s g v).net = s.net ∧ (setCount s g v).plt = s.plt ∧ (setCount s g v).fus = s.fus ∧ (setCount s g v).lcy = s.lcy ∧
    (setCount s g v).nv = s.nv ∧ (setCount s g v).cfg = s.cfg := by
  unfold setCount; simp

@[simp] theorem ttuErr_frame (s : State) (bit : Nat) :
    (ttuErr s bit).pending = s.pending ∧ (ttuErr s bit).tb = s.tb ∧ (ttuErr s bit).clkB = s.clkB ∧ (ttuErr s bit).freeCnt = s.freeCnt ∧
    (ttuErr s bit).sys = s.sys ∧ (ttuErr s bit).evt = s.evt ∧ (ttuErr s bit).host = s.host ∧ (ttuErr s bit).lan = s.lan ∧
    (ttuErr s bit).rdl = s.rdl ∧ (ttuErr s bit).fns = s.fns ∧ (ttuErr s bit).fld = s.fld ∧ (ttuErr s bit).smu = s.smu ∧
    (ttuErr s bit).ksl = s.ksl ∧ (ttuErr s bit).cuts = s.cuts ∧ (ttuErr s bit).mode = s.mode ∧ (ttuErr s bit).net = s.net ∧
    (ttuErr s bit).plt = s.plt ∧ (ttuErr s bit).fus = s.fus ∧ (ttuErr s bit).lcy = s.lcy ∧ (ttuErr s bit).nv = s.nv ∧
    (ttuErr s bit).cfg = s.cfg := by
  unfold ttuErr; simp

@[simp] theorem setLaneEval_frame (s : State) (l : Lane) (e : LaneEval) :
    (setLaneEval s l e).pending = s.pending ∧ (setLaneEval s l e).tb = s.tb ∧ (setLaneEval s l e).clkB = s.clkB ∧
    (setLaneEval s l e).freeCnt = s.freeCnt ∧ (setLaneEval s l e).sys = s.sys ∧ (setLaneEval s l e).evt = s.evt ∧
    (setLaneEval s l e).host = s.host ∧ (setLaneEval s l e).ttu = s.ttu ∧ (setLaneEval s l e).rdl = s.rdl ∧
    (setLaneEval s l e).fns = s.fns ∧ (setLaneEval s l e).fld = s.fld ∧ (setLaneEval s l e).smu = s.smu ∧ (setLaneEval s l e).ksl = s.ksl ∧
    (setLaneEval s l e).cuts = s.cuts ∧ (setLaneEval s l e).mode = s.mode ∧ (setLaneEval s l e).net = s.net ∧
    (setLaneEval s l e).plt = s.plt ∧ (setLaneEval s l e).fus = s.fus ∧ (setLaneEval s l e).lcy = s.lcy ∧ (setLaneEval s l e).nv = s.nv ∧
    (setLaneEval s l e).cfg = s.cfg := by
  cases l <;> simp [setLaneEval]

@[simp] theorem setQueue_frame (s : State) (h : Half) (q : List QEntry) :
    (setQueue s h q).pending = s.pending ∧ (setQueue s h q).tb = s.tb ∧ (setQueue s h q).clkB = s.clkB ∧
    (setQueue s h q).freeCnt = s.freeCnt ∧ (setQueue s h q).sys = s.sys ∧ (setQueue s h q).evt = s.evt ∧ (setQueue s h q).host = s.host ∧
    (setQueue s h q).ttu = s.ttu ∧ (setQueue s h q).lan = s.lan ∧ (setQueue s h q).fns = s.fns ∧ (setQueue s h q).fld = s.fld ∧
    (setQueue s h q).smu = s.smu ∧ (setQueue s h q).ksl = s.ksl ∧ (setQueue s h q).cuts = s.cuts ∧ (setQueue s h q).mode = s.mode ∧
    (setQueue s h q).net = s.net ∧ (setQueue s h q).plt = s.plt ∧ (setQueue s h q).fus = s.fus ∧ (setQueue s h q).lcy = s.lcy ∧
    (setQueue s h q).nv = s.nv ∧ (setQueue s h q).cfg = s.cfg := by
  unfold setQueue; simp

@[simp] theorem sendAllOff_frame (s : State) :
    (sendAllOff s).pending = s.pending ∧ (sendAllOff s).tb = s.tb ∧ (sendAllOff s).clkB = s.clkB ∧ (sendAllOff s).freeCnt = s.freeCnt ∧
    (sendAllOff s).sys = s.sys ∧ (sendAllOff s).evt = s.evt ∧ (sendAllOff s).host = s.host ∧ (sendAllOff s).ttu = s.ttu ∧
    (sendAllOff s).rdl = s.rdl ∧ (sendAllOff s).fns = s.fns ∧ (sendAllOff s).smu = s.smu ∧ (sendAllOff s).ksl = s.ksl ∧
    (sendAllOff s).cuts = s.cuts ∧ (sendAllOff s).mode = s.mode ∧ (sendAllOff s).net = s.net ∧ (sendAllOff s).plt = s.plt ∧
    (sendAllOff s).fus = s.fus ∧ (sendAllOff s).lcy = s.lcy ∧ (sendAllOff s).nv = s.nv ∧ (sendAllOff s).cfg = s.cfg := by
  unfold sendAllOff; simp

@[simp] theorem releaseImages_frame (s : State) :
    (releaseImages s).pending = s.pending ∧ (releaseImages s).tb = s.tb ∧ (releaseImages s).clkB = s.clkB ∧
    (releaseImages s).freeCnt = s.freeCnt ∧ (releaseImages s).sys = s.sys ∧ (releaseImages s).evt = s.evt ∧
    (releaseImages s).host = s.host ∧ (releaseImages s).ttu = s.ttu ∧ (releaseImages s).lan = s.lan ∧ (releaseImages s).rdl = s.rdl ∧
    (releaseImages s).fns = s.fns ∧ (releaseImages s).smu = s.smu ∧ (releaseImages s).ksl = s.ksl ∧ (releaseImages s).cuts = s.cuts ∧
    (releaseImages s).mode = s.mode ∧ (releaseImages s).net = s.net ∧ (releaseImages s).plt = s.plt ∧ (releaseImages s).fus = s.fus ∧
    (releaseImages s).lcy = s.lcy ∧ (releaseImages s).nv = s.nv ∧ (releaseImages s).cfg = s.cfg := by
  unfold releaseImages; simp

@[simp] theorem noteFault_frame (s : State) (cause : Nat) :
    (noteFault s cause).pending = s.pending ∧ (noteFault s cause).tb = s.tb ∧ (noteFault s cause).clkB = s.clkB ∧
    (noteFault s cause).freeCnt = s.freeCnt ∧ (noteFault s cause).sys = s.sys ∧ (noteFault s cause).evt = s.evt ∧
    (noteFault s cause).host = s.host ∧ (noteFault s cause).ttu = s.ttu ∧ (noteFault s cause).rdl = s.rdl ∧
    (noteFault s cause).fns = s.fns ∧ (noteFault s cause).fld = s.fld ∧ (noteFault s cause).smu = s.smu ∧ (noteFault s cause).ksl = s.ksl ∧
    (noteFault s cause).cuts = s.cuts ∧ (noteFault s cause).mode = s.mode ∧ (noteFault s cause).net = s.net ∧
    (noteFault s cause).plt = s.plt ∧ (noteFault s cause).fus = s.fus ∧ (noteFault s cause).lcy = s.lcy ∧ (noteFault s cause).nv = s.nv ∧
    (noteFault s cause).cfg = s.cfg := by
  unfold noteFault; simp

@[simp] theorem enqueue_frame (s : State) (p q : Nat) (x : NetOut) :
    (enqueue s p q x).pending = s.pending ∧ (enqueue s p q x).tb = s.tb ∧ (enqueue s p q x).clkB = s.clkB ∧
    (enqueue s p q x).freeCnt = s.freeCnt ∧ (enqueue s p q x).sys = s.sys ∧ (enqueue s p q x).evt = s.evt ∧
    (enqueue s p q x).host = s.host ∧ (enqueue s p q x).ttu = s.ttu ∧ (enqueue s p q x).lan = s.lan ∧ (enqueue s p q x).rdl = s.rdl ∧
    (enqueue s p q x).fns = s.fns ∧ (enqueue s p q x).fld = s.fld ∧ (enqueue s p q x).smu = s.smu ∧ (enqueue s p q x).ksl = s.ksl ∧
    (enqueue s p q x).cuts = s.cuts ∧ (enqueue s p q x).mode = s.mode ∧ (enqueue s p q x).plt = s.plt ∧ (enqueue s p q x).fus = s.fus ∧
    (enqueue s p q x).lcy = s.lcy ∧ (enqueue s p q x).nv = s.nv ∧ (enqueue s p q x).cfg = s.cfg := by
  unfold enqueue; simp

@[simp] theorem dropNet_frame (s : State) :
    (dropNet s).pending = s.pending ∧ (dropNet s).tb = s.tb ∧ (dropNet s).clkB = s.clkB ∧ (dropNet s).freeCnt = s.freeCnt ∧
    (dropNet s).sys = s.sys ∧ (dropNet s).evt = s.evt ∧ (dropNet s).host = s.host ∧ (dropNet s).ttu = s.ttu ∧ (dropNet s).lan = s.lan ∧
    (dropNet s).rdl = s.rdl ∧ (dropNet s).fns = s.fns ∧ (dropNet s).fld = s.fld ∧ (dropNet s).smu = s.smu ∧ (dropNet s).ksl = s.ksl ∧
    (dropNet s).cuts = s.cuts ∧ (dropNet s).mode = s.mode ∧ (dropNet s).plt = s.plt ∧ (dropNet s).fus = s.fus ∧ (dropNet s).lcy = s.lcy ∧
    (dropNet s).nv = s.nv ∧ (dropNet s).cfg = s.cfg := by
  unfold dropNet; simp

@[simp] theorem countRx_frame (s : State) (p : Nat) :
    (countRx s p).pending = s.pending ∧ (countRx s p).tb = s.tb ∧ (countRx s p).clkB = s.clkB ∧ (countRx s p).freeCnt = s.freeCnt ∧
    (countRx s p).sys = s.sys ∧ (countRx s p).evt = s.evt ∧ (countRx s p).host = s.host ∧ (countRx s p).ttu = s.ttu ∧
    (countRx s p).lan = s.lan ∧ (countRx s p).rdl = s.rdl ∧ (countRx s p).fns = s.fns ∧ (countRx s p).fld = s.fld ∧
    (countRx s p).smu = s.smu ∧ (countRx s p).ksl = s.ksl ∧ (countRx s p).cuts = s.cuts ∧ (countRx s p).mode = s.mode ∧
    (countRx s p).plt = s.plt ∧ (countRx s p).fus = s.fus ∧ (countRx s p).lcy = s.lcy ∧ (countRx s p).nv = s.nv ∧ (countRx s p).cfg = s.cfg := by
  unfold countRx; split <;> simp

@[simp] theorem learnMac_frame (s : State) (m : BitVec 48) (p : Nat) :
    (learnMac s m p).pending = s.pending ∧ (learnMac s m p).tb = s.tb ∧ (learnMac s m p).clkB = s.clkB ∧
    (learnMac s m p).freeCnt = s.freeCnt ∧ (learnMac s m p).sys = s.sys ∧ (learnMac s m p).evt = s.evt ∧ (learnMac s m p).host = s.host ∧
    (learnMac s m p).ttu = s.ttu ∧ (learnMac s m p).lan = s.lan ∧ (learnMac s m p).rdl = s.rdl ∧ (learnMac s m p).fns = s.fns ∧
    (learnMac s m p).fld = s.fld ∧ (learnMac s m p).smu = s.smu ∧ (learnMac s m p).ksl = s.ksl ∧ (learnMac s m p).cuts = s.cuts ∧
    (learnMac s m p).mode = s.mode ∧ (learnMac s m p).plt = s.plt ∧ (learnMac s m p).fus = s.fus ∧ (learnMac s m p).lcy = s.lcy ∧
    (learnMac s m p).nv = s.nv ∧ (learnMac s m p).cfg = s.cfg := by
  unfold learnMac; simp

@[simp] theorem setKTab_frame (s : State) (h : Half) (t : List KEntry) :
    (setKTab s h t).pending = s.pending ∧ (setKTab s h t).tb = s.tb ∧ (setKTab s h t).clkB = s.clkB ∧ (setKTab s h t).freeCnt = s.freeCnt ∧
    (setKTab s h t).sys = s.sys ∧ (setKTab s h t).evt = s.evt ∧ (setKTab s h t).host = s.host ∧ (setKTab s h t).ttu = s.ttu ∧
    (setKTab s h t).lan = s.lan ∧ (setKTab s h t).fns = s.fns ∧ (setKTab s h t).fld = s.fld ∧ (setKTab s h t).smu = s.smu ∧
    (setKTab s h t).ksl = s.ksl ∧ (setKTab s h t).cuts = s.cuts ∧ (setKTab s h t).mode = s.mode ∧ (setKTab s h t).net = s.net ∧
    (setKTab s h t).plt = s.plt ∧ (setKTab s h t).fus = s.fus ∧ (setKTab s h t).lcy = s.lcy ∧ (setKTab s h t).nv = s.nv ∧
    (setKTab s h t).cfg = s.cfg := by
  cases h <;> simp [setKTab]

@[simp] theorem spoilK_frame (s : State) (h : Half) (w : Nat) (bits : W72) :
    (spoilK s h w bits).pending = s.pending ∧ (spoilK s h w bits).tb = s.tb ∧ (spoilK s h w bits).clkB = s.clkB ∧
    (spoilK s h w bits).freeCnt = s.freeCnt ∧ (spoilK s h w bits).sys = s.sys ∧ (spoilK s h w bits).evt = s.evt ∧
    (spoilK s h w bits).host = s.host ∧ (spoilK s h w bits).ttu = s.ttu ∧ (spoilK s h w bits).lan = s.lan ∧
    (spoilK s h w bits).fns = s.fns ∧ (spoilK s h w bits).fld = s.fld ∧ (spoilK s h w bits).smu = s.smu ∧ (spoilK s h w bits).ksl = s.ksl ∧
    (spoilK s h w bits).cuts = s.cuts ∧ (spoilK s h w bits).mode = s.mode ∧ (spoilK s h w bits).net = s.net ∧
    (spoilK s h w bits).plt = s.plt ∧ (spoilK s h w bits).fus = s.fus ∧ (spoilK s h w bits).lcy = s.lcy ∧ (spoilK s h w bits).nv = s.nv ∧
    (spoilK s h w bits).cfg = s.cfg := by
  unfold spoilK; simp

@[simp] theorem fillKTabs_frame (s : State) :
    (fillKTabs s).pending = s.pending ∧ (fillKTabs s).tb = s.tb ∧ (fillKTabs s).clkB = s.clkB ∧ (fillKTabs s).freeCnt = s.freeCnt ∧
    (fillKTabs s).sys = s.sys ∧ (fillKTabs s).evt = s.evt ∧ (fillKTabs s).host = s.host ∧ (fillKTabs s).ttu = s.ttu ∧
    (fillKTabs s).lan = s.lan ∧ (fillKTabs s).fns = s.fns ∧ (fillKTabs s).fld = s.fld ∧ (fillKTabs s).smu = s.smu ∧
    (fillKTabs s).ksl = s.ksl ∧ (fillKTabs s).cuts = s.cuts ∧ (fillKTabs s).mode = s.mode ∧ (fillKTabs s).net = s.net ∧
    (fillKTabs s).plt = s.plt ∧ (fillKTabs s).fus = s.fus ∧ (fillKTabs s).lcy = s.lcy ∧ (fillKTabs s).nv = s.nv ∧ (fillKTabs s).cfg = s.cfg := by
  unfold fillKTabs; simp

@[simp] theorem modIn_frame (s : State) (ch : Nat) (g : InCh → InCh) :
    (modIn s ch g).pending = s.pending ∧ (modIn s ch g).tb = s.tb ∧ (modIn s ch g).clkB = s.clkB ∧ (modIn s ch g).freeCnt = s.freeCnt ∧
    (modIn s ch g).sys = s.sys ∧ (modIn s ch g).evt = s.evt ∧ (modIn s ch g).host = s.host ∧ (modIn s ch g).ttu = s.ttu ∧
    (modIn s ch g).lan = s.lan ∧ (modIn s ch g).rdl = s.rdl ∧ (modIn s ch g).fns = s.fns ∧ (modIn s ch g).smu = s.smu ∧
    (modIn s ch g).ksl = s.ksl ∧ (modIn s ch g).cuts = s.cuts ∧ (modIn s ch g).mode = s.mode ∧ (modIn s ch g).net = s.net ∧
    (modIn s ch g).plt = s.plt ∧ (modIn s ch g).fus = s.fus ∧ (modIn s ch g).lcy = s.lcy ∧ (modIn s ch g).nv = s.nv ∧
    (modIn s ch g).cfg = s.cfg := by
  unfold modIn; simp

@[simp] theorem showField_frame (s : State) (c : Image) :
    (showField s c).pending = s.pending ∧ (showField s c).tb = s.tb ∧ (showField s c).clkB = s.clkB ∧ (showField s c).freeCnt = s.freeCnt ∧
    (showField s c).sys = s.sys ∧ (showField s c).evt = s.evt ∧ (showField s c).host = s.host ∧ (showField s c).ttu = s.ttu ∧
    (showField s c).lan = s.lan ∧ (showField s c).rdl = s.rdl ∧ (showField s c).fns = s.fns ∧ (showField s c).smu = s.smu ∧
    (showField s c).ksl = s.ksl ∧ (showField s c).cuts = s.cuts ∧ (showField s c).mode = s.mode ∧ (showField s c).net = s.net ∧
    (showField s c).plt = s.plt ∧ (showField s c).fus = s.fus ∧ (showField s c).lcy = s.lcy ∧ (showField s c).nv = s.nv ∧
    (showField s c).cfg = s.cfg := by
  unfold showField; simp

@[simp] theorem showAgreed_frame (s : State) :
    (showAgreed s).pending = s.pending ∧ (showAgreed s).tb = s.tb ∧ (showAgreed s).clkB = s.clkB ∧ (showAgreed s).freeCnt = s.freeCnt ∧
    (showAgreed s).sys = s.sys ∧ (showAgreed s).evt = s.evt ∧ (showAgreed s).host = s.host ∧ (showAgreed s).ttu = s.ttu ∧
    (showAgreed s).lan = s.lan ∧ (showAgreed s).rdl = s.rdl ∧ (showAgreed s).fns = s.fns ∧ (showAgreed s).smu = s.smu ∧
    (showAgreed s).ksl = s.ksl ∧ (showAgreed s).cuts = s.cuts ∧ (showAgreed s).mode = s.mode ∧ (showAgreed s).net = s.net ∧
    (showAgreed s).plt = s.plt ∧ (showAgreed s).fus = s.fus ∧ (showAgreed s).lcy = s.lcy ∧ (showAgreed s).nv = s.nv ∧
    (showAgreed s).cfg = s.cfg := by
  unfold showAgreed; simp

@[simp] theorem dropChange_frame (s : State) (e : BitVec 16) (a : Option ModeAnn) :
    (dropChange s e a).pending = s.pending ∧ (dropChange s e a).tb = s.tb ∧ (dropChange s e a).clkB = s.clkB ∧
    (dropChange s e a).freeCnt = s.freeCnt ∧ (dropChange s e a).sys = s.sys ∧ (dropChange s e a).evt = s.evt ∧
    (dropChange s e a).host = s.host ∧ (dropChange s e a).ttu = s.ttu ∧ (dropChange s e a).lan = s.lan ∧ (dropChange s e a).rdl = s.rdl ∧
    (dropChange s e a).fns = s.fns ∧ (dropChange s e a).fld = s.fld ∧ (dropChange s e a).smu = s.smu ∧ (dropChange s e a).ksl = s.ksl ∧
    (dropChange s e a).cuts = s.cuts ∧ (dropChange s e a).net = s.net ∧ (dropChange s e a).plt = s.plt ∧ (dropChange s e a).fus = s.fus ∧
    (dropChange s e a).lcy = s.lcy ∧ (dropChange s e a).nv = s.nv ∧ (dropChange s e a).cfg = s.cfg := by
  unfold dropChange; simp

@[simp] theorem seeEpoch_frame (s : State) (e : BitVec 16) :
    (seeEpoch s e).pending = s.pending ∧ (seeEpoch s e).tb = s.tb ∧ (seeEpoch s e).clkB = s.clkB ∧ (seeEpoch s e).freeCnt = s.freeCnt ∧
    (seeEpoch s e).sys = s.sys ∧ (seeEpoch s e).evt = s.evt ∧ (seeEpoch s e).host = s.host ∧ (seeEpoch s e).ttu = s.ttu ∧
    (seeEpoch s e).lan = s.lan ∧ (seeEpoch s e).rdl = s.rdl ∧ (seeEpoch s e).fns = s.fns ∧ (seeEpoch s e).fld = s.fld ∧
    (seeEpoch s e).smu = s.smu ∧ (seeEpoch s e).ksl = s.ksl ∧ (seeEpoch s e).cuts = s.cuts ∧ (seeEpoch s e).net = s.net ∧
    (seeEpoch s e).plt = s.plt ∧ (seeEpoch s e).fus = s.fus ∧ (seeEpoch s e).lcy = s.lcy ∧ (seeEpoch s e).nv = s.nv ∧
    (seeEpoch s e).cfg = s.cfg := by
  unfold seeEpoch; split <;> simp

@[simp] theorem setSlot_frame (s : State) (i : Nat) (x : SlotCfg) :
    (setSlot s i x).pending = s.pending ∧ (setSlot s i x).tb = s.tb ∧ (setSlot s i x).clkB = s.clkB ∧ (setSlot s i x).freeCnt = s.freeCnt ∧
    (setSlot s i x).sys = s.sys ∧ (setSlot s i x).evt = s.evt ∧ (setSlot s i x).host = s.host ∧ (setSlot s i x).ttu = s.ttu ∧
    (setSlot s i x).lan = s.lan ∧ (setSlot s i x).rdl = s.rdl ∧ (setSlot s i x).fns = s.fns ∧ (setSlot s i x).fld = s.fld ∧
    (setSlot s i x).smu = s.smu ∧ (setSlot s i x).ksl = s.ksl ∧ (setSlot s i x).cuts = s.cuts ∧ (setSlot s i x).mode = s.mode ∧
    (setSlot s i x).net = s.net ∧ (setSlot s i x).plt = s.plt ∧ (setSlot s i x).fus = s.fus ∧ (setSlot s i x).lcy = s.lcy ∧
    (setSlot s i x).cfg = s.cfg := by
  unfold setSlot; simp

@[simp] theorem updateFus_frame (s : State) :
    (updateFus s).pending = s.pending ∧ (updateFus s).tb = s.tb ∧ (updateFus s).clkB = s.clkB ∧ (updateFus s).freeCnt = s.freeCnt ∧
    (updateFus s).sys = s.sys ∧ (updateFus s).evt = s.evt ∧ (updateFus s).host = s.host ∧ (updateFus s).ttu = s.ttu ∧
    (updateFus s).lan = s.lan ∧ (updateFus s).rdl = s.rdl ∧ (updateFus s).fns = s.fns ∧ (updateFus s).fld = s.fld ∧
    (updateFus s).smu = s.smu ∧ (updateFus s).ksl = s.ksl ∧ (updateFus s).cuts = s.cuts ∧ (updateFus s).mode = s.mode ∧
    (updateFus s).net = s.net ∧ (updateFus s).plt = s.plt ∧ (updateFus s).lcy = s.lcy ∧ (updateFus s).nv = s.nv ∧ (updateFus s).cfg = s.cfg := by
  unfold updateFus; simp

@[simp] theorem showKeys_frame (s : State) :
    (showKeys s).pending = s.pending ∧ (showKeys s).tb = s.tb ∧ (showKeys s).clkB = s.clkB ∧ (showKeys s).freeCnt = s.freeCnt ∧
    (showKeys s).sys = s.sys ∧ (showKeys s).evt = s.evt ∧ (showKeys s).host = s.host ∧ (showKeys s).ttu = s.ttu ∧
    (showKeys s).lan = s.lan ∧ (showKeys s).rdl = s.rdl ∧ (showKeys s).fns = s.fns ∧ (showKeys s).fld = s.fld ∧ (showKeys s).smu = s.smu ∧
    (showKeys s).ksl = s.ksl ∧ (showKeys s).cuts = s.cuts ∧ (showKeys s).mode = s.mode ∧ (showKeys s).net = s.net ∧
    (showKeys s).plt = s.plt ∧ (showKeys s).lcy = s.lcy ∧ (showKeys s).nv = s.nv ∧ (showKeys s).cfg = s.cfg := by
  unfold showKeys; simp

@[simp] theorem loadIr_frame (s : State) (code : Nat) :
    (loadIr s code).pending = s.pending ∧ (loadIr s code).tb = s.tb ∧ (loadIr s code).clkB = s.clkB ∧ (loadIr s code).freeCnt = s.freeCnt ∧
    (loadIr s code).sys = s.sys ∧ (loadIr s code).evt = s.evt ∧ (loadIr s code).host = s.host ∧ (loadIr s code).ttu = s.ttu ∧
    (loadIr s code).lan = s.lan ∧ (loadIr s code).rdl = s.rdl ∧ (loadIr s code).fns = s.fns ∧ (loadIr s code).fld = s.fld ∧
    (loadIr s code).smu = s.smu ∧ (loadIr s code).ksl = s.ksl ∧ (loadIr s code).cuts = s.cuts ∧ (loadIr s code).mode = s.mode ∧
    (loadIr s code).net = s.net ∧ (loadIr s code).plt = s.plt ∧ (loadIr s code).fus = s.fus ∧ (loadIr s code).nv = s.nv ∧
    (loadIr s code).cfg = s.cfg := by
  unfold loadIr; simp

@[simp] theorem shiftOut_frame (s : State) (v : BitVec 72) :
    (shiftOut s v).pending = s.pending ∧ (shiftOut s v).tb = s.tb ∧ (shiftOut s v).clkB = s.clkB ∧ (shiftOut s v).freeCnt = s.freeCnt ∧
    (shiftOut s v).sys = s.sys ∧ (shiftOut s v).evt = s.evt ∧ (shiftOut s v).host = s.host ∧ (shiftOut s v).ttu = s.ttu ∧
    (shiftOut s v).lan = s.lan ∧ (shiftOut s v).rdl = s.rdl ∧ (shiftOut s v).fns = s.fns ∧ (shiftOut s v).fld = s.fld ∧
    (shiftOut s v).smu = s.smu ∧ (shiftOut s v).ksl = s.ksl ∧ (shiftOut s v).cuts = s.cuts ∧ (shiftOut s v).mode = s.mode ∧
    (shiftOut s v).net = s.net ∧ (shiftOut s v).plt = s.plt ∧ (shiftOut s v).fus = s.fus ∧ (shiftOut s v).nv = s.nv ∧
    (shiftOut s v).cfg = s.cfg := by
  unfold shiftOut; simp

@[simp] theorem linksGood_frame (s : State) :
    (linksGood s).pending = s.pending ∧ (linksGood s).tb = s.tb ∧ (linksGood s).clkB = s.clkB ∧ (linksGood s).freeCnt = s.freeCnt ∧
    (linksGood s).sys = s.sys ∧ (linksGood s).evt = s.evt ∧ (linksGood s).host = s.host ∧ (linksGood s).ttu = s.ttu ∧ (linksGood s).rdl = s.rdl ∧
    (linksGood s).fns = s.fns ∧ (linksGood s).fld = s.fld ∧ (linksGood s).smu = s.smu ∧ (linksGood s).ksl = s.ksl ∧ (linksGood s).cuts = s.cuts ∧
    (linksGood s).mode = s.mode ∧ (linksGood s).net = s.net ∧ (linksGood s).plt = s.plt ∧ (linksGood s).fus = s.fus ∧ (linksGood s).lcy = s.lcy ∧
    (linksGood s).nv = s.nv ∧ (linksGood s).cfg = s.cfg := by
  simp [linksGood]

@[simp] theorem restTests_frame (s : State) :
    (restTests s).pending = s.pending ∧ (restTests s).tb = s.tb ∧ (restTests s).clkB = s.clkB ∧ (restTests s).freeCnt = s.freeCnt ∧
    (restTests s).sys = s.sys ∧ (restTests s).evt = s.evt ∧ (restTests s).host = s.host ∧ (restTests s).ttu = s.ttu ∧ (restTests s).rdl = s.rdl ∧
    (restTests s).fns = s.fns ∧ (restTests s).smu = s.smu ∧ (restTests s).ksl = s.ksl ∧ (restTests s).cuts = s.cuts ∧ (restTests s).mode = s.mode ∧
    (restTests s).net = s.net ∧ (restTests s).plt = s.plt ∧ (restTests s).fus = s.fus ∧ (restTests s).lcy = s.lcy ∧ (restTests s).nv = s.nv ∧
    (restTests s).cfg = s.cfg := by
  simp [restTests]

@[simp] theorem showMismatch_frame (s : State) (n : Nat) :
    (showMismatch s n).pending = s.pending ∧ (showMismatch s n).tb = s.tb ∧ (showMismatch s n).clkB = s.clkB ∧
    (showMismatch s n).freeCnt = s.freeCnt ∧ (showMismatch s n).sys = s.sys ∧ (showMismatch s n).evt = s.evt ∧ (showMismatch s n).host = s.host ∧
    (showMismatch s n).ttu = s.ttu ∧ (showMismatch s n).lan = s.lan ∧ (showMismatch s n).fns = s.fns ∧ (showMismatch s n).fld = s.fld ∧
    (showMismatch s n).smu = s.smu ∧ (showMismatch s n).ksl = s.ksl ∧ (showMismatch s n).cuts = s.cuts ∧ (showMismatch s n).mode = s.mode ∧
    (showMismatch s n).net = s.net ∧ (showMismatch s n).plt = s.plt ∧ (showMismatch s n).fus = s.fus ∧ (showMismatch s n).lcy = s.lcy ∧
    (showMismatch s n).nv = s.nv ∧ (showMismatch s n).cfg = s.cfg := by
  unfold showMismatch; split <;> simp

@[simp] theorem applyGiven_frame (s : State) :
    (applyGiven s).pending = s.pending ∧ (applyGiven s).tb = s.tb ∧ (applyGiven s).clkB = s.clkB ∧ (applyGiven s).freeCnt = s.freeCnt ∧
    (applyGiven s).sys = s.sys ∧ (applyGiven s).evt = s.evt ∧ (applyGiven s).host = s.host ∧ (applyGiven s).ttu = s.ttu ∧ (applyGiven s).lan = s.lan ∧
    (applyGiven s).rdl = s.rdl ∧ (applyGiven s).fns = s.fns ∧ (applyGiven s).smu = s.smu ∧ (applyGiven s).ksl = s.ksl ∧ (applyGiven s).cuts = s.cuts ∧
    (applyGiven s).mode = s.mode ∧ (applyGiven s).net = s.net ∧ (applyGiven s).plt = s.plt ∧ (applyGiven s).fus = s.fus ∧ (applyGiven s).lcy = s.lcy ∧
    (applyGiven s).nv = s.nv ∧ (applyGiven s).cfg = s.cfg := by
  unfold applyGiven; split <;> simp

@[simp] theorem servePort_frame (s : State) (p : Nat) :
    (servePort s p).pending = s.pending ∧ (servePort s p).tb = s.tb ∧ (servePort s p).clkB = s.clkB ∧ (servePort s p).freeCnt = s.freeCnt ∧
    (servePort s p).sys = s.sys ∧ (servePort s p).evt = s.evt ∧ (servePort s p).host = s.host ∧ (servePort s p).ttu = s.ttu ∧
    (servePort s p).lan = s.lan ∧ (servePort s p).rdl = s.rdl ∧ (servePort s p).fns = s.fns ∧ (servePort s p).fld = s.fld ∧
    (servePort s p).smu = s.smu ∧ (servePort s p).ksl = s.ksl ∧ (servePort s p).cuts = s.cuts ∧ (servePort s p).mode = s.mode ∧
    (servePort s p).plt = s.plt ∧ (servePort s p).fus = s.fus ∧ (servePort s p).lcy = s.lcy ∧ (servePort s p).nv = s.nv ∧
    (servePort s p).cfg = s.cfg := by
  unfold servePort
  by_cases h : (portSpeed s p == 0) = true
  · simp only [h, if_true, and_self]
  · simp only [h, Bool.false_eq_true, if_false]; split <;> simp

@[simp] theorem noteAnnounce_frame (s : State) (m : PtpMsg) :
    (noteAnnounce s m).pending = s.pending ∧ (noteAnnounce s m).tb = s.tb ∧ (noteAnnounce s m).clkB = s.clkB ∧
    (noteAnnounce s m).freeCnt = s.freeCnt ∧ (noteAnnounce s m).sys = s.sys ∧ (noteAnnounce s m).evt = s.evt ∧ (noteAnnounce s m).host = s.host ∧
    (noteAnnounce s m).ttu = s.ttu ∧ (noteAnnounce s m).lan = s.lan ∧ (noteAnnounce s m).rdl = s.rdl ∧ (noteAnnounce s m).fns = s.fns ∧
    (noteAnnounce s m).fld = s.fld ∧ (noteAnnounce s m).smu = s.smu ∧ (noteAnnounce s m).ksl = s.ksl ∧ (noteAnnounce s m).cuts = s.cuts ∧
    (noteAnnounce s m).mode = s.mode ∧ (noteAnnounce s m).plt = s.plt ∧ (noteAnnounce s m).fus = s.fus ∧ (noteAnnounce s m).lcy = s.lcy ∧
    (noteAnnounce s m).nv = s.nv ∧ (noteAnnounce s m).cfg = s.cfg := by
  unfold noteAnnounce; split <;> simp

@[simp] theorem resetPtp_frame (s : State) :
    (resetPtp s).pending = s.pending ∧ (resetPtp s).tb = s.tb ∧ (resetPtp s).clkB = s.clkB ∧ (resetPtp s).freeCnt = s.freeCnt ∧
    (resetPtp s).sys = s.sys ∧ (resetPtp s).evt = s.evt ∧ (resetPtp s).host = s.host ∧ (resetPtp s).ttu = s.ttu ∧ (resetPtp s).lan = s.lan ∧
    (resetPtp s).rdl = s.rdl ∧ (resetPtp s).fns = s.fns ∧ (resetPtp s).fld = s.fld ∧ (resetPtp s).smu = s.smu ∧ (resetPtp s).ksl = s.ksl ∧
    (resetPtp s).cuts = s.cuts ∧ (resetPtp s).mode = s.mode ∧ (resetPtp s).plt = s.plt ∧ (resetPtp s).fus = s.fus ∧ (resetPtp s).lcy = s.lcy ∧
    (resetPtp s).nv = s.nv ∧ (resetPtp s).cfg = s.cfg := by
  simp [resetPtp]

@[simp] theorem trimInputs_frame (s : State) (c : Image) :
    (trimInputs s c).pending = s.pending ∧ (trimInputs s c).tb = s.tb ∧ (trimInputs s c).clkB = s.clkB ∧ (trimInputs s c).freeCnt = s.freeCnt ∧
    (trimInputs s c).sys = s.sys ∧ (trimInputs s c).evt = s.evt ∧ (trimInputs s c).host = s.host ∧ (trimInputs s c).ttu = s.ttu ∧
    (trimInputs s c).lan = s.lan ∧ (trimInputs s c).rdl = s.rdl ∧ (trimInputs s c).fns = s.fns ∧ (trimInputs s c).smu = s.smu ∧
    (trimInputs s c).ksl = s.ksl ∧ (trimInputs s c).cuts = s.cuts ∧ (trimInputs s c).mode = s.mode ∧ (trimInputs s c).net = s.net ∧
    (trimInputs s c).plt = s.plt ∧ (trimInputs s c).fus = s.fus ∧ (trimInputs s c).lcy = s.lcy ∧ (trimInputs s c).nv = s.nv ∧
    (trimInputs s c).cfg = s.cfg := by
  simp [trimInputs]

@[simp] theorem clearCauses_frame (s : State) (ch : Nat) :
    (clearCauses s ch).pending = s.pending ∧ (clearCauses s ch).tb = s.tb ∧ (clearCauses s ch).clkB = s.clkB ∧
    (clearCauses s ch).freeCnt = s.freeCnt ∧ (clearCauses s ch).sys = s.sys ∧ (clearCauses s ch).evt = s.evt ∧ (clearCauses s ch).host = s.host ∧
    (clearCauses s ch).ttu = s.ttu ∧ (clearCauses s ch).lan = s.lan ∧ (clearCauses s ch).rdl = s.rdl ∧ (clearCauses s ch).fns = s.fns ∧
    (clearCauses s ch).smu = s.smu ∧ (clearCauses s ch).ksl = s.ksl ∧ (clearCauses s ch).cuts = s.cuts ∧ (clearCauses s ch).mode = s.mode ∧
    (clearCauses s ch).net = s.net ∧ (clearCauses s ch).plt = s.plt ∧ (clearCauses s ch).fus = s.fus ∧ (clearCauses s ch).lcy = s.lcy ∧
    (clearCauses s ch).nv = s.nv ∧ (clearCauses s ch).cfg = s.cfg := by
  simp [clearCauses]

@[simp] theorem clearStdLatches_frame (s : State) :
    (clearStdLatches s).pending = s.pending ∧ (clearStdLatches s).tb = s.tb ∧ (clearStdLatches s).clkB = s.clkB ∧
    (clearStdLatches s).freeCnt = s.freeCnt ∧ (clearStdLatches s).sys = s.sys ∧ (clearStdLatches s).evt = s.evt ∧ (clearStdLatches s).ttu = s.ttu ∧
    (clearStdLatches s).lan = s.lan ∧ (clearStdLatches s).rdl = s.rdl ∧ (clearStdLatches s).fns = s.fns ∧ (clearStdLatches s).smu = s.smu ∧
    (clearStdLatches s).ksl = s.ksl ∧ (clearStdLatches s).cuts = s.cuts ∧ (clearStdLatches s).mode = s.mode ∧ (clearStdLatches s).net = s.net ∧
    (clearStdLatches s).plt = s.plt ∧ (clearStdLatches s).fus = s.fus ∧ (clearStdLatches s).lcy = s.lcy ∧ (clearStdLatches s).nv = s.nv ∧
    (clearStdLatches s).cfg = s.cfg := by
  simp [clearStdLatches]

end Sys2Proof.Machine
end

