-- ==== Sys2Proof/Laws/Events.lean ====
section
/-! SUPPORT. What placing events can do: `flush` moves event registers, rings, posted writes and pending vectors, and nothing else. -/
namespace Sys2Proof.Machine

/-- t differs from s in event counters and numbers, rings, posted writes and pending vectors at most. -/
def MailStep (s t : State) : Prop :=
  t = { s with
    evt := { s.evt with held := t.evt.held, eseq := t.evt.eseq, cnt := t.evt.cnt, wasQueued := t.evt.wasQueued },
    host := { s.host with posted := t.host.posted, rings := t.host.rings, pba := t.host.pba } }

theorem MailStep.rfl (s : State) : MailStep s s := by unfold MailStep; simp

theorem MailStep.trans {s t u : State} (h : MailStep s t) (k : MailStep t u) : MailStep s u := by
  unfold MailStep at *; rw [k, h]

theorem post_mailStep (s : State) (p : Post) : MailStep s (post s p) := by unfold MailStep post; simp
theorem modRing_mailStep (s : State) (r : Nat) (g : RingSt → RingSt) : MailStep s (modRing s r g) := by unfold MailStep modRing; simp
theorem countEvt_mailStep (s : State) (src : Nat) : MailStep s (countEvt s src) := by unfold MailStep countEvt; simp
theorem holdEvt_mailStep (s : State) (src : Nat) : MailStep s (holdEvt s src) := by unfold MailStep holdEvt; simp

theorem assertVector_mailStep (s : State) (v : Nat) : MailStep s (assertVector s v) := by
  unfold assertVector; dsimp only; split
  · exact post_mailStep s _
  · unfold MailStep; simp

theorem notify_mailStep (s : State) (src : Nat) : MailStep s (notify s src) :=
  (countEvt_mailStep s src).trans (assertVector_mailStep _ _)

theorem writeStatus_mailStep (s : State) (r : Nat) : MailStep s (writeStatus s r) := post_mailStep s _

theorem putEntry_mailStep (s : State) (r : Nat) (data : Bytes) : MailStep s (putEntry s r data) := by
  unfold putEntry; exact (post_mailStep s _).trans (modRing_mailStep _ r _)

theorem setHeld_mailStep (s : State) (h : List Nat) : MailStep s { s with evt := { s.evt with held := h } } := by unfold MailStep; simp

theorem oneSummary_mailStep (s : State) : MailStep s (oneSummary s) :=
  (putEntry_mailStep s 3 _).trans (setHeld_mailStep _ _)

theorem summariesLoop_mailStep (n : Nat) (s : State) : MailStep s (summariesLoop n s) := by
  induction n generalizing s with
  | zero => exact MailStep.rfl s
  | succ n ih =>
    unfold summariesLoop; split
    · exact (oneSummary_mailStep s).trans (ih _)
    · exact MailStep.rfl s

theorem MailStep.foldl {α : Type} (f : State → α → State) (hf : ∀ s a, MailStep s (f s a)) (l : List α) (s : State) :
    MailStep s (l.foldl f s) := by
  induction l generalizing s with
  | nil => exact MailStep.rfl s
  | cons a l ih => exact (hf s a).trans (ih _)

theorem writeSummaries_mailStep (s : State) : MailStep s (writeSummaries s) := by
  unfold writeSummaries; dsimp only
  split
  · exact summariesLoop_mailStep 43 s
  · exact ((summariesLoop_mailStep 43 s).trans ((writeStatus_mailStep _ _).trans (notify_mailStep _ _))).trans
      (MailStep.foldl _ (fun t i => assertVector_mailStep t _) _ _)

theorem tryQueue_mailStep (s : State) (data : Bytes) : MailStep s (tryQueue s data).1 := by
  have core : ∀ s1 : State, MailStep s s1 → MailStep s
      (if evtRoom s1 && (heldSources s1).isEmpty then (notify (writeStatus (putEntry s1 3 data) 3) 185, true) else (s1, false)).1 := by
    intro s1 h
    split
    · exact h.trans ((putEntry_mailStep _ _ _).trans ((writeStatus_mailStep _ _).trans (notify_mailStep _ _)))
    · exact h
  unfold tryQueue
  apply core
  split
  · exact writeSummaries_mailStep s
  · exact MailStep.rfl s

theorem bumpEseq_mailStep (s : State) : MailStep s { s with evt := { s.evt with eseq := s.evt.eseq + 1 } } := by unfold MailStep; simp
theorem setQueued_mailStep (s : State) (b : Bool) : MailStep s { s with evt := { s.evt with wasQueued := b } } := by unfold MailStep; simp

/-- What follows the count of an event, given whether its entry was queued. -/
theorem placeEvt_mailStep (s : State) (p : State × Bool) (v src : Nat) (h : MailStep s p.1) :
    MailStep s (if p.2 = true then assertVector { p.1 with evt := { p.1.evt with wasQueued := true } } v
      else if p.1.evt.wasQueued = true then
        holdEvt { countEvt (holdEvt p.1 src) 189 with
          evt := { (countEvt (holdEvt p.1 src) 189).evt with eseq := (countEvt (holdEvt p.1 src) 189).evt.eseq + 1 } } 189
      else holdEvt p.1 src) := by
  refine h.trans ?_
  split
  · exact (setQueued_mailStep p.1 true).trans (assertVector_mailStep _ v)
  · refine (holdEvt_mailStep p.1 src).trans ?_
    split
    · exact (countEvt_mailStep _ 189).trans ((bumpEseq_mailStep _).trans (holdEvt_mailStep _ 189))
    · exact MailStep.rfl _

theorem emitEvt_mailStep (s : State) (e : RawEvt) : MailStep s (emitEvt s e) := by
  have core : ∀ s1 : State, MailStep s s1 → MailStep s (emitEvt s1 { e with record := none }) := fun s1 h1 =>
    h1.trans ((countEvt_mailStep _ e.src).trans ((bumpEseq_mailStep _).trans (placeEvt_mailStep _ _ _ _ (tryQueue_mailStep _ _))))
  obtain ⟨src, a, b, c, _ | r⟩ := e
  · exact core s (MailStep.rfl s)
  · exact core _ (tryQueue_mailStep s r)

/-- Placing events moves the mail of the state with no event raised, and nothing else. -/
theorem flush_mailStep (s : State) : MailStep { s with evt := { s.evt with raised := [] } } (flush s) :=
  MailStep.foldl _ (fun t e => emitEvt_mailStep t e) _ _

/-- After the events are placed, none is raised. -/
@[simp] theorem flush_raised (s : State) : (flush s).evt.raised = [] := by rw [flush_mailStep s]

@[simp] theorem flush_frame (s : State) :
    (flush s).pending = s.pending ∧ (flush s).tb = s.tb ∧ (flush s).clkB = s.clkB ∧ (flush s).freeCnt = s.freeCnt ∧ (flush s).sys = s.sys ∧
    (flush s).ttu = s.ttu ∧ (flush s).lan = s.lan ∧ (flush s).rdl = s.rdl ∧ (flush s).fns = s.fns ∧ (flush s).fld = s.fld ∧
    (flush s).smu = s.smu ∧ (flush s).ksl = s.ksl ∧ (flush s).cuts = s.cuts ∧ (flush s).mode = s.mode ∧ (flush s).net = s.net ∧
    (flush s).plt = s.plt ∧ (flush s).fus = s.fus ∧ (flush s).lcy = s.lcy ∧ (flush s).nv = s.nv ∧ (flush s).cfg = s.cfg ∧
    (flush s).evt.map = s.evt.map ∧ (flush s).evt.win = s.evt.win ∧ islandCore (flush s).host = islandCore s.host := by
  rw [flush_mailStep s]; simp [islandCore]

@[simp] theorem flush_host (s : State) :
    (flush s).host.ringEn = s.host.ringEn ∧ (flush s).host.piEn = s.host.piEn ∧ (flush s).host.err = s.host.err ∧
    (flush s).host.lostCommitted = s.host.lostCommitted ∧ (flush s).host.lostCancelled = s.host.lostCancelled ∧
    (flush s).host.sb = s.host.sb ∧ (flush s).host.pi = s.host.pi ∧ (flush s).host.div = s.host.div ∧ (flush s).host.piGen = s.host.piGen ∧
    (flush s).host.tunDrop = s.host.tunDrop ∧ (flush s).host.reqDrop = s.host.reqDrop ∧ (flush s).host.d3 = s.host.d3 ∧
    (flush s).host.linkUp = s.host.linkUp ∧ (flush s).host.busMaster = s.host.busMaster ∧ (flush s).host.tunEn = s.host.tunEn ∧
    (flush s).host.outst = s.host.outst ∧ (flush s).host.done = s.host.done ∧ (flush s).host.seen = s.host.seen ∧
    (flush s).host.slots = s.host.slots ∧ (flush s).host.slotLatch = s.host.slotLatch ∧ (flush s).host.std = s.host.std ∧
    (flush s).host.stdLatch = s.host.stdLatch ∧ (flush s).host.clearReq = s.host.clearReq ∧ (flush s).host.reports = s.host.reports ∧
    (flush s).host.msix = s.host.msix := by
  rw [flush_mailStep s]; simp

/-- With no event raised, placing events does nothing. -/
theorem flush_of_placed (s : State) (h : eventsPlaced s) : flush s = s := by
  unfold flush; rw [show s.evt.raised = [] from h]
  simp only [sortEvts, List.foldl_nil]
  obtain ⟨_, _, _, _, _, ⟨_, _, _, _, _, _, _⟩, _, _, _, _, _, _, _, _, _, _, _, _, _, _, _, _⟩ := s
  simp_all [eventsPlaced]

@[simp] theorem raise_frame (s : State) (src a b c : Nat) :
    (raise s src a b c).pending = s.pending ∧ (raise s src a b c).tb = s.tb ∧ (raise s src a b c).clkB = s.clkB ∧
    (raise s src a b c).freeCnt = s.freeCnt ∧ (raise s src a b c).sys = s.sys ∧ (raise s src a b c).host = s.host ∧
    (raise s src a b c).ttu = s.ttu ∧ (raise s src a b c).lan = s.lan ∧ (raise s src a b c).rdl = s.rdl ∧ (raise s src a b c).fns = s.fns ∧
    (raise s src a b c).fld = s.fld ∧ (raise s src a b c).smu = s.smu ∧ (raise s src a b c).ksl = s.ksl ∧ (raise s src a b c).cuts = s.cuts ∧
    (raise s src a b c).mode = s.mode ∧ (raise s src a b c).net = s.net ∧ (raise s src a b c).plt = s.plt ∧ (raise s src a b c).fus = s.fus ∧
    (raise s src a b c).lcy = s.lcy ∧ (raise s src a b c).nv = s.nv ∧ (raise s src a b c).cfg = s.cfg := by
  unfold raise; split <;> simp

@[simp] theorem raiseFirst_frame (s : State) (src key a b c : Nat) :
    (raiseFirst s src key a b c).pending = s.pending ∧ (raiseFirst s src key a b c).tb = s.tb ∧ (raiseFirst s src key a b c).clkB = s.clkB ∧
    (raiseFirst s src key a b c).freeCnt = s.freeCnt ∧ (raiseFirst s src key a b c).sys = s.sys ∧ (raiseFirst s src key a b c).host = s.host ∧
    (raiseFirst s src key a b c).ttu = s.ttu ∧ (raiseFirst s src key a b c).lan = s.lan ∧ (raiseFirst s src key a b c).rdl = s.rdl ∧
    (raiseFirst s src key a b c).fns = s.fns ∧ (raiseFirst s src key a b c).fld = s.fld ∧ (raiseFirst s src key a b c).smu = s.smu ∧
    (raiseFirst s src key a b c).ksl = s.ksl ∧ (raiseFirst s src key a b c).cuts = s.cuts ∧ (raiseFirst s src key a b c).mode = s.mode ∧
    (raiseFirst s src key a b c).net = s.net ∧ (raiseFirst s src key a b c).plt = s.plt ∧ (raiseFirst s src key a b c).fus = s.fus ∧
    (raiseFirst s src key a b c).lcy = s.lcy ∧ (raiseFirst s src key a b c).nv = s.nv ∧ (raiseFirst s src key a b c).cfg = s.cfg := by
  unfold raiseFirst; dsimp only; split <;> simp

/-- A command that ends with `finish` in an awake module answers its effect with the events placed. -/
theorem finish_awake {s t : State} (h : awake s = true) : finish s t = .next (flush t) := by simp [finish, h]
theorem finish_asleep {s t : State} (h : awake s = false) : finish s t = .next s := by simp [finish, h]
theorem finishHost_awake {s t : State} (h : awake s = true) (k : hostReach s = true) : finishHost s t = .next (flush t) := by
  simp [finishHost, finish, h, k]
theorem finishBus_awake {s t : State} {a : Nat} (h : awake s = true) (k : hostReach s = true) (c : s.sys.hostStalled = false) :
    finishBus s a t = .next (flush t) := by simp [finishBus, finish, h, k, c]

end Sys2Proof.Machine
end

