-- ==== Sys2Proof/Machine/Lands.lean ====
section
/-! DEFINITION. The lands of the part, what they may carry, and the dissipation that the integrator keeps (R2, R413, R414, R421, R426 to R428). No
command depends on them. -/
namespace Sys2Proof.Machine

/-- What a land is (R427). An encoder land has its axis, its port (true is S) and its place in A, AC, B, BC, Z, ZC; an Ethernet land its port
and its place. -/
inductive Land where
  | vdd
  | gnd
  | fgnd
  | feed (bank : Nat)
  | ret (bank : Nat)
  | field (ch : Nat)
  | source (tp : Nat)
  | enc (axis : Nat) (portS : Bool) (k : Nat)
  | mdi (port : Nat) (k : Nat)
  | pcie (k : Nat)
  | clock (k : Nat)
  | sideband (k : Nat)
  | jtag (k : Nat)
deriving DecidableEq, Repr

/-- Is there a land at a row and position (R426)? -/
def landThere (row pos : Nat) : Bool :=
  let last := if row % 2 == 1 then 35 else 34
  let corner := row == 1 || row == 2 || row == 45 || row == 46
  1 ≤ row && row ≤ 46 && row != 10 && !(20 ≤ row && row ≤ 24) && row != 35 && row != 36
    && (if corner then 3 ≤ pos && pos + 2 ≤ last else 1 ≤ pos && pos ≤ last)

/-- Where a value lies in a span of n from `first`. -/
def within (first n x : Nat) : Option Nat := if first ≤ x && x < first + n then some (x - first) else none

/-- A land of the six bank blocks: the bank and the entry of its list, in row order (R427). -/
def bankBlock (row pos : Nat) : Option (Nat × Nat) := match within 26 8 row with
  | none => none
  | some r => (within (if row % 2 == 0 then 1 else 2) 30 pos).map (fun k => (k / 5, 5 * r + k % 5))

/-- The channel, source or field ground of an entry of bank b's list (R427). -/
def bankLand (b entry : Nat) : Land :=
  if entry < 32 then .field (16 * b + entry / 2) else if entry < 36 then .source (4 * b + (entry - 32)) else .fgnd

/-- The bank of a feed or return land: four in each of two rows (R427). -/
def feedBank (row pos : Nat) : Option Nat :=
  (within (if row % 2 == 1 then 2 else 1) 30 pos).bind (fun k => if k % 5 < 4 then some (k / 5) else none)

/-- The land at a row and position on the logic side. -/
def logicLand (row pos : Nat) : Land := match row with
  | 4 | 6 => ((within 1 24 pos).map (fun k => Land.enc (row - 4 + k / 12) (6 ≤ k % 12) (k % 6))).getD .gnd
  | 12 => ((within 1 8 pos).map (Land.mdi 0)).getD (((within 11 8 pos).map (Land.mdi 1)).getD .gnd)
  | 14 => ([(1, Land.pcie 0), (2, .pcie 1), (4, .pcie 2), (5, .pcie 3), (7, .pcie 4), (8, .pcie 5), (11, .clock 0), (12, .clock 1)].find?
      (fun x => x.1 == pos)).elim .gnd (fun x => x.2)
  | 16 => ((within 1 4 pos).map Land.sideband).getD (((within 7 5 pos).map Land.jtag).getD .gnd)
  | 17 => if 9 ≤ pos then .vdd else .gnd
  | 18 | 19 => .vdd
  | _ => .gnd

/-- The land at a row and position on the field side. -/
def fieldLand (row pos : Nat) : Land :=
  if row == 37 || row == 38 then ((feedBank row pos).map Land.feed).getD .fgnd
  else if row == 39 || row == 40 then ((feedBank row pos).map Land.ret).getD .fgnd
  else ((bankBlock row pos).map (fun x => bankLand x.1 x.2)).getD .fgnd

/-- The land at a row and position (R426, R427). -/
def landAt (row pos : Nat) : Option Land :=
  if !landThere row pos then none else some (if row ≤ 19 then logicLand row pos else fieldLand row pos)

/-- Every place of the part, with its land. -/
def allLands : List Land := (List.range 47).flatMap (fun r => (List.range 36).filterMap (landAt r))

/-- A land has a function on a variant (R2, R428); 1 is the SX972-96M and 3 the SX972-48S. -/
def landUsed (variant : Nat) : Land → Bool
  | .enc _ _ _ => variant == 1
  | .mdi port _ => port == 0 || variant != 3
  | .field ch => variant != 3 || ch < 48
  | .source t => variant != 3 || t < 12
  | .feed b => variant != 3 || b < 3
  | _ => true

/-- What a land may carry continuously, in mV against its side's ground (R413): outside it none of the behaviour is assured. -/
def ratedMv : Land → Int × Int
  | .vdd => (-300, 4000)
  | .gnd | .fgnd | .ret _ => (0, 0)
  | .feed _ => (-32000, 36000)
  | .field _ | .source _ => (-30000, 36000)
  | .enc _ _ _ => (-30000, 36000)
  | .mdi _ _ => (-300, 3600)
  | .pcie _ | .clock _ => (-300, 2000)
  | .sideband _ | .jtag _ => (-300, 3900)

/-- VDD in its range, in mV (R414). -/
def vddInRange (mv : Nat) : Bool := 1650 ≤ mv && mv ≤ 3630

/-- What the integrator's use of the field side dissipates at its worst, in µW, from the currents of the outputs that are on and of the
sources in mA, the input feed and current limit in mV and mA with their number, and the clamps' average power (R421). -/
def fieldPowerUw (outs srcs : List Nat) (feedMv : Nat) (limits : List Nat) (clampUw : Nat) : Nat :=
  800000 + (outs.map (fun i => i * i)).foldl (· + ·) 0 / 2 + 1000 * srcs.foldl (· + ·) 0 + feedMv * limits.foldl (· + ·) 0 + clampUw

/-- All of it, with VDD's 3.9 W, which holds the converters' 0.8 W already, and the encoders' (R421). -/
def totalPowerUw (fieldUw encUw : Nat) : Nat := 3900000 + encUw + (fieldUw - 800000)

/-- Both limits of R421: 7 W and 12 W. -/
def dissipationOk (fieldUw encUw : Nat) : Bool := fieldUw ≤ 7000000 && totalPowerUw fieldUw encUw ≤ 12000000

end Sys2Proof.Machine
end

