-- ==== Sys2Proof/WellFormed.lean ====
section
/-! DEFINITION. Well-formedness of a command: its operands lie in the ranges the spec gives what they name. -/
namespace Sys2Proof

/-- FC00 to FC95 (R1). -/
def chanOk (ch : Nat) : Bool := ch < 96
/-- B0 to B5 (R1). -/
def bankOk (b : Nat) : Bool := b < 6
/-- TP00 to TP23 (R1). -/
def sourceOk (n : Nat) : Bool := n < 24
/-- AX0 to AX3, primary (0) or secondary (1) port (R206). -/
def portOk (ax port : Nat) : Bool := ax < 4 && port < 2
/-- P0 or P1 (R257). -/
def ethOk (p : Nat) : Bool := p < 2
/-- Contexts 0 to 1,023 (R1, R109). -/
def ctxOk (c : Nat) : Bool := c < 1024
/-- A command comes from CMDH (0) or CMDN (1) (R322). -/
def cmdOk (c : CmdRef) : Bool := c.ring < 2
/-- Rings 0 to 6 (R315). -/
def ringOk (r : Nat) : Bool := r < 7
/-- A barrier link packet is 40 bytes (R198). -/
def packetOk (p : Bytes) : Bool := p.length == 40
/-- A KSL frame is 96 bytes; at a port the six bytes of a redundancy trailer may follow it (R231, R260). -/
def frameOk (c : Carrier) (f : Bytes) : Bool := match c with
  | .raw p _ _ => ethOk p && (f.length == 96 || f.length == 102)
  | .udp p _ _ _ _ => ethOk p && (f.length == 96 || f.length == 102)
  | .tunnel => f.length == 96
/-- A CONTROL payload is 48 bytes (R233). -/
def payloadOk (m : Bytes) : Bool := m.length == 48
/-- Node numbers 0 to 1,023 (R272). -/
def nodeOk (n : Nat) : Bool := n < 1024
/-- A function ID (R53). -/
def fidOk (f : Nat) : Bool := f ≤ 0xFFFFF
/-- Bits blown weakly: fuse words 0 to 511, bits 0 to 31 (R374). -/
def badBitsOk (l : List (Nat × Nat)) : Bool := l.all (fun x => x.1 < 512 && x.2 < 32)
/-- A list with an entry for each of n things. -/
def sized {α : Type} (l : List α) (n : Nat) : Bool := l.length == n

/-- What is measured at F(n): one entry per bank, source or channel (R172, R190, R204). -/
def FrameObs.wf (o : FrameObs) : Bool :=
  sized o.feedA 6 && sized o.feedB 6 && sized o.bankCur 6 && sized o.srcCur 24 && sized o.chCur 96

/-- The two steps of a single-switch test (R186). -/
def testStepOk (step : Nat) : Bool := step == 1 || step == 2

/-- What the tests of a start-up step show: the injections of R121 take path 0 to 2 and index 0 to 71, the feeds name every bank. -/
def StepObs.wf (o : StepObs) : Bool :=
  sized o.feedA 6 && sized o.feedB 6 && o.injErrs.all (fun x => x.path < 3 && x.index < 72) &&
    o.tests.all (fun t => chanOk t.ch && testStepOk t.step) && o.srcs.all (fun x => sourceOk x.src)

/-- A DMA read answers with at most the bytes it asks for; fewer are a failed read (R322, R326). -/
def readOk (l : Bytes) (n : Nat) : Bool := l.length ≤ n

/-- Well-formed commands. -/
def Instr.wf : Instr → Bool
  | .bankQualified b => bankOk b
  | .startupStepDone o => o.wf
  | .singleSwitchTestDone ch step _ _ _ _ => chanOk ch && testStepOk step
  | .sswTestDue ch => chanOk ch
  | .sswOverdue ch => chanOk ch
  | .frameStart o => o.wf
  | .commitLate _ ctx => ctxOk ctx
  | .diagDecision _ _ reps => reps.all (fun r => ctxOk r.ctx)
  | .fallowExpired ctx => ctxOk ctx
  | .blDownlinkRx _ p => packetOk p
  | .blUplinkRx _ p => packetOk p
  | .blTraining _ a => sized a 4
  | .inputFilterAccept _ ch _ => chanOk ch
  | .bandRunFault _ ch _ => chanOk ch
  | .inputDisagree ch => chanOk ch
  | .inputFaultClear c => chanOk c.ch && 1 ≤ c.cause && c.cause ≤ 6
  | .testPulseSlot srcs ins => srcs.all (fun x => sourceOk x.src) && ins.all (fun x => chanOk x.ch)
  | .codeCauseFinal _ ch => chanOk ch
  | .sourceOverload n => sourceOk n
  | .sourceRestart n => sourceOk n
  | .sourceCheck n _ _ => sourceOk n
  | .readbackFault _ ch => chanOk ch
  | .midpointFault _ ch => chanOk ch
  | .gangFault ch => chanOk ch
  | .shortCircuit _ ch => chanOk ch
  | .thermalShutdown _ ch => chanOk ch
  | .thermalCooled _ ch => chanOk ch
  | .outputFaultClear ch => chanOk ch
  | .offPulse _ ch => chanOk ch
  | .offPulseJudge _ ch _ => chanOk ch
  | .offPulseRepeat _ ch => chanOk ch
  | .deferredOffPulse _ ch => chanOk ch
  | .rideThroughExpiry _ b => bankOk b
  | .bankOvercurrent _ b => bankOk b
  | .bankMonitorFault b => bankOk b
  | .bankFeedRecovery b => bankOk b
  | .encoderEdge ax port _ _ _ => portOk ax port
  | .encoderWireFault _ ax port => portOk ax port
  | .xcheckFault ax => ax < 4
  | .axisFaultClear ax c => portOk ax c.port && 1 ≤ c.cause && c.cause ≤ 5
  | .kslFrameRx c f => frameOk c f
  | .connTimeout i => i < 256
  | .connCheckFault i => i < 256
  | .syncRequest i => i < 256
  | .takeover f => fidOk f
  | .reclaim f => fidOk f
  | .holdExpired f => fidOk f
  | .leaseLate f => fidOk f
  | .join n m => nodeOk n && payloadOk m
  | .digestLo n m => nodeOk n && payloadOk m
  | .digestHi n m => nodeOk n && payloadOk m
  | .accept n m => nodeOk n && payloadOk m
  | .modeAnn n m => nodeOk n && payloadOk m
  | .modeCancel n m => nodeOk n && payloadOk m
  | .modeState n m => nodeOk n && payloadOk m
  | .ptpMessageRx m => ethOk m.port
  | .linkChange p _ sp => ethOk p && sp < 4
  | .prpLanSilent lan => lan < 2
  | .arpRequest p _ _ _ => ethOk p
  | .netFrameDrop p _ => ethOk p
  | .lineForwarding p f => ethOk p && f.tag.all (fun t => t.1 < 8 && t.2 < 4096)
  | .doorbell r _ => ringOk r
  | .commandFetch ring entry => ring < 2 && readOk entry 64
  | .nop c => cmdOk c
  | .loadCfg c _ _ => cmdOk c
  | .verifyCfg c => cmdOk c
  | .activateCfg c => cmdOk c
  | .readPlan c => cmdOk c
  | .acceptPlan c _ => cmdOk c
  | .modeReq c => cmdOk c
  | .start c => cmdOk c
  | .toHold c => cmdOk c
  | .readDiag c => cmdOk c
  | .clearStd c => cmdOk c
  | .readLog c => cmdOk c
  | .attest c => cmdOk c
  | .fuseProgProgram c _ _ l => cmdOk c && badBitsOk l
  | .fuseProgRepair c _ l => cmdOk c && badBitsOk l
  | .fuseProgKey c _ _ l => cmdOk c && badBitsOk l
  | .fuseProgMarker c _ _ l => cmdOk c && badBitsOk l
  | .fuseLock c _ l => cmdOk c && badBitsOk l
  | .lcyAdvance c _ _ l => cmdOk c && badBitsOk l
  | .challenge c => cmdOk c
  | .response c _ => cmdOk c
  | .close c => cmdOk c
  | .tunnelCfg c => cmdOk c
  | .smuRead c => cmdOk c
  | .abort c => cmdOk c
  | .badOpcode c => cmdOk c
  | .request e => readOk e 16
  | .stdout e => readOk e 16
  | .reqUnassignedType e => readOk e 16
  | .tunrxEntry e => readOk e 128
  | .ringEnable r => ringOk r
  | .ringDisable r => ringOk r
  | .ringSetupWrite off _ => off % 4 == 0
  | .cmpLoWrite c _ => c < 32
  | .gtEvent g => g < 16
  | .ccFire c => c < 32
  | .registerWrite off size _ => off < 0x11000 && 1 ≤ size
  | .dbgMem lane addr => lane < 2 && addr < 32768
  | .dbgForce _ _ t => t < 96 || (256 ≤ t && t < 512)
  | .powerOnReset | .brownOut | .resetnLow | .supplyRetry | .startupTimeout | .hostIslandReset _ | .hostDmaStop _
  | .hostDmaResume | .blLatchMiss _ | .frameEvaluation _ _ | .checkpointWaitEnd _ | .signatureArrival _ _ _ _ _
  | .frameOverrun _ | .commitInstant | .laneMemoryError _ | .crossingStall _ | .clockFault _ | .bMark _ _
  | .blPacketSend _ | .blSilenceSequencer _ | .blFault _ | .blTrainRetry | .planDone _ _ | .planJoin | .rejoinStart
  | .modeApply | .modeWindowEnd | .syncLost | .prpSupervision | .completionWrite | .evtSummaryWrite | .piEn _ | .modrst
  | .standbyRequest | .holdRequest | .standbyEntryEnd | .wakeEnd | .timerEnable _ | .timerLink _ | .tapReset | .extest _
  | .idcode | .samplePreload _ | .dbgStatus | .dbgHalt | .dbgResume | .dbgStep | .bypass _ | .authSessionEnd
  | .challengeExpiry | .isolatedConverterFailure _ | .temperatureOutOfRange _ | .syncInterval | .macAgeing _ => true

end Sys2Proof
end

