-- ==== Sys2Proof/Tests/Slice0.lean ====
section
/-! SUPPORT. Tests: ill-formed commands, single steps with expected values from the spec, and for each statement a state and operands that meet its
hypotheses. -/
namespace Sys2Proof.Tests
open Sys2Proof Sys2Proof.Machine

set_option Elab.async false

/-- An observation of a start-up step in which everything passes. -/
def obs : StepObs := ⟨true, true, true, [], List.replicate 6 240, List.replicate 6 240, [], [], none, 3300⟩

/-- Measurements at a frame start. -/
def fobs : FrameObs :=
  ⟨List.replicate 6 240, List.replicate 6 240, List.replicate 6 0, List.replicate 24 0, List.replicate 96 0, 0, 0, 0, 0, 0⟩

/-- A terminal that shows nothing. -/
def dark : TermObs := ⟨none, none, 0⟩

/-- A bit of a signature of half RH1 turned over in injection index of a path. -/
def injErr (path index : Nat) : InjErr := ⟨.rh1, path, index, 1⟩

/-- One ill-formed command for each check of WellFormed. -/
def illFormed : List Instr :=
  [.bankQualified 6, .startupStepDone { obs with feedA := [] }, .startupStepDone { obs with feedB := [] },
   .startupStepDone { obs with srcs := [⟨24, dark, dark⟩] }, .startupStepDone { obs with injErrs := [injErr 3 0] },
   .startupStepDone { obs with injErrs := [injErr 0 72] }, .startupStepDone { obs with tests := [⟨96, 1, 0, 0, 0, 0⟩] },
   .startupStepDone { obs with tests := [⟨95, 0, 0, 0, 0, 0⟩] },
   .singleSwitchTestDone 96 1 0 0 0 0, .singleSwitchTestDone 0 3 0 0 0 0, .sswTestDue 96, .sswOverdue 96,
   .frameStart { fobs with feedA := [] }, .frameStart { fobs with feedB := [] }, .frameStart { fobs with bankCur := [] },
   .frameStart { fobs with srcCur := [] }, .frameStart { fobs with chCur := [] }] ++
  [.commitLate .rh0 1024, .diagDecision true true [⟨1024, true, [], []⟩], .fallowExpired 1024, .blDownlinkRx .a (zeros 39), .blUplinkRx .b (zeros 41),
   .blTraining .a (zeros 3), .inputFilterAccept .a 96 [], .bandRunFault .a 96 [], .inputDisagree 96, .inputFaultClear ⟨96, 1⟩, .inputFaultClear ⟨0, 0⟩,
   .inputFaultClear ⟨0, 7⟩, .testPulseSlot [⟨24, dark, dark⟩] [], .testPulseSlot [] [⟨.a, 96, ⟨0, 0, 0⟩, ⟨0, 0, 0⟩, ⟨0, 0, 0⟩⟩], .codeCauseFinal .a 96,
   .sourceOverload 24, .sourceRestart 24, .sourceCheck 24 dark dark, .readbackFault .a 96, .midpointFault .a 96, .gangFault 96, .shortCircuit .a 96, .thermalShutdown .a 96,
   .thermalCooled .a 96, .outputFaultClear 96, .offPulse .a 96, .offPulseJudge .a 96 true, .offPulseRepeat .a 96, .deferredOffPulse .a 96,
   .rideThroughExpiry .a 6, .bankOvercurrent .a 6, .bankMonitorFault 6, .bankFeedRecovery 6] ++
  [.encoderEdge 4 0 [] false false, .encoderEdge 0 2 [⟨false, false, false⟩] false false, .encoderWireFault .a 4 0, .xcheckFault 4, .axisFaultClear 4 ⟨0, 1⟩, .axisFaultClear 0 ⟨2, 1⟩,
   .axisFaultClear 0 ⟨0, 0⟩, .axisFaultClear 0 ⟨0, 6⟩, .kslFrameRx .tunnel (zeros 95), .kslFrameRx .tunnel (zeros 102), .kslFrameRx (.raw 2 0 0) (zeros 96),
   .kslFrameRx (.udp 0 0 0 0 0) (zeros 97), .connTimeout 256, .connCheckFault 256, .syncRequest 256, .takeover 0x100000,
   .reclaim 0x100000, .holdExpired 0x100000, .leaseLate 0x100000, .join 1024 (zeros 48), .join 0 (zeros 47), .digestLo 1024 (zeros 48),
   .digestHi 0 (zeros 49), .accept 1024 (zeros 48), .modeAnn 0 (zeros 47), .modeCancel 1024 (zeros 48), .modeState 0 (zeros 49),
   .ptpMessageRx ⟨2, 0, 0, 0, 1, none, none, 0, 0⟩, .linkChange 2 true 3, .linkChange 0 true 4, .prpLanSilent 2, .arpRequest 2 0 0 0,
   .netFrameDrop 2 .overflow, .lineForwarding 2 ⟨0, 0, none, []⟩, .lineForwarding 0 ⟨0, 0, some (8, 0), []⟩, .lineForwarding 0 ⟨0, 0, some (0, 4096), []⟩] ++
  [.doorbell 7 0, .commandFetch 2 (zeros 64), .commandFetch 0 (zeros 65), .nop ⟨2, 0⟩, .loadCfg ⟨2, 0⟩ [] [], .verifyCfg ⟨2, 0⟩, .activateCfg ⟨2, 0⟩,
   .readPlan ⟨2, 0⟩, .acceptPlan ⟨2, 0⟩ [], .modeReq ⟨2, 0⟩, .start ⟨2, 0⟩, .toHold ⟨2, 0⟩, .readDiag ⟨2, 0⟩, .clearStd ⟨2, 0⟩, .readLog ⟨2, 0⟩,
   .attest ⟨2, 0⟩, .fuseProgProgram ⟨2, 0⟩ [] none [], .fuseProgProgram ⟨0, 0⟩ [] none [(512, 0)], .fuseProgRepair ⟨0, 0⟩ none [(0, 32)],
   .fuseProgKey ⟨2, 0⟩ [] none [], .fuseProgMarker ⟨2, 0⟩ [] none [], .fuseLock ⟨2, 0⟩ none [], .lcyAdvance ⟨2, 0⟩ [] none [], .challenge ⟨2, 0⟩,
   .response ⟨2, 0⟩ [], .close ⟨2, 0⟩, .tunnelCfg ⟨2, 0⟩, .smuRead ⟨2, 0⟩, .abort ⟨2, 0⟩, .badOpcode ⟨2, 0⟩, .request (zeros 17), .stdout (zeros 17),
   .reqUnassignedType (zeros 17), .tunrxEntry (zeros 129), .ringEnable 7, .ringDisable 7, .ringSetupWrite 0x41 0, .cmpLoWrite 32 0, .gtEvent 16,
   .ccFire 32, .registerWrite 0x11000 4 0, .registerWrite 0 0 0, .dbgMem 2 0, .dbgMem 0 32768, .dbgForce true 0 96, .dbgForce true 0 512]

theorem test_illFormed_refused : illFormed.all (fun i => !i.wf) = true := by decide +kernel

theorem test_wellFormed_accepted :
    [Instr.bankQualified 5, .startupStepDone obs, .singleSwitchTestDone 95 2 0 0 0 0, .frameStart fobs, .commitLate .rh1 1023, .blDownlinkRx .a (zeros 40),
     .blTraining .b (zeros 4), .testPulseSlot [⟨23, dark, dark⟩] [⟨.b, 95, ⟨0, 0, 0⟩, ⟨0, 0, 0⟩, ⟨0, 0, 0⟩⟩], .encoderEdge 3 1 [⟨false, false, false⟩] false false,
     .axisFaultClear 3 ⟨1, 5⟩, .inputFaultClear ⟨95, 6⟩, .startupStepDone { obs with injErrs := [injErr 2 71] }, .kslFrameRx .tunnel (zeros 96),
     .kslFrameRx (.raw 1 0 0) (zeros 102), .commandFetch 0 (zeros 63), .request [], .tunrxEntry [], .connTimeout 255, .takeover 0xFFFFF, .join 1023 (zeros 48), .linkChange 1 true 3, .doorbell 6 0,
     .commandFetch 1 (zeros 64), .nop ⟨1, 0⟩, .fuseProgRepair ⟨0, 0⟩ none [(511, 31)], .request (zeros 16), .tunrxEntry (zeros 128),
     .registerWrite 0x10FFC 4 0, .dbgMem 1 32767, .dbgForce true 0 95, .dbgForce true 0 511, .commitInstant].all (fun i => i.wf) = true := by
  decide +kernel

/-! States and operands of the witnesses. -/

/-- A channel record of the own node. -/
def chan (n use tp : Nat) : ChanRec :=
  { use := use, node := 0, chan := n, itype := 1, tpsrc := tp, filt := 30, ilim := 0, oflags := if use == 6 then 1 else 0, opw := 50, opi := 100 }

/-- A node of the test configuration. -/
def nodeR (n : Nat) : NodeRec :=
  { node := n, variant := 1, decoyInt := 16, serial := BitVec.ofNat 64 n, tf := 100, wo := 250, swarn := 12500, smax := 25000, tbl := 10 }

/-- Two nodes with a path, a function, inputs, outputs, a source, two axes, modes and addresses. -/
def cfg0 : Image :=
  { keySlot := 0, cfgNumber := 1, domain := ⟨7, 2, 0, 253, 10, 4, 30⟩, nodes := [nodeR 0, nodeR 1], signals := [⟨4, 0, 0, 3⟩],
    chans := [chan 0 1 0xFF, chan 1 2 0, chan 2 2 0xFF, chan 3 1 0, chan 16 4 0xFF, chan 18 5 0xFF, chan 19 5 0xFF, chan 20 6 0xFF], srcs := [⟨0, 0, 500, 1⟩], banks := [],
    fns := [⟨5, 600000, 1, 2, 0, 0, 100, [], []⟩], consts := [], axes := [⟨0, 0, 2, 1, 1, 10, 0x1000000, 10, 10, 100, 100⟩,
      ⟨0, 1, 1, 3, 1, 10, 0x1000000, 10, 10, 100, 0⟩], hasKslpar := true, paths := [⟨0, 0, 1, 50⟩],
    addrs := [⟨0, 0, true, 0x20, 0x0A000001, 46788⟩, ⟨1, 0, true, 0x21, 0x0A000002, 46788⟩], mode := some ⟨2, 0, 100, 0x0303⟩, digest := 5, own := 0 }

/-- The own node in PMODE m. -/
def cfgP (m : Nat) : Image := { cfg0 with addrs := [⟨0, m, true, 0x20, 0x0A000001, 46788⟩, ⟨1, m, true, 0x21, 0x0A000002, 46788⟩] }

/-- Awake, start-up over, in HOLD without configuration. -/
def sBase : State := { State.reset with
  sys := { SysSt.reset with running := 0, step := 13, answers := true, convA := true, convB := true, pwr := 1 } }

/-- HOLD with the configuration and both links up. -/
def sHold : State := { sBase with
  cfg := some cfg0, lan := { LanSt.reset with timerOn := true, fresh := false, frame := 6 },
  host := { HostSt.reset with pci := { PciSt.reset with msixEn := true } },
  fld := { FldSt.reset with linkA := { LinkSt.reset with st := .up, par := some cfg0, given := some cfg0 },
                            linkB := { LinkSt.reset with st := .up, par := some cfg0, given := some cfg0 } } }

/-- RUN. -/
def sRun : State := { sHold with
  lan := { sHold.lan with inRun := true, open_ := [7], fstate := 1 }, sys := { sHold.sys with pwr := 2 }, rdl := { RdlSt.reset with active := true } }

/-- Step k of start-up. -/
def sStep (k : Nat) : State := { State.reset with sys := { SysSt.reset with running := k, step := k, answers := true } }

/-- An input image of nothing. -/
def noImg : LaneImg := ⟨[], [], [], [], [], []⟩

/-- The latched image of frame n. -/
def frameImg (n : Nat) : FrameImg :=
  { n := n, tb := 0, run := false, inA := noImg, inB := noImg, fwds := [], off := [], mode := 0, epoch := 0, window := false, page := [], bankst := [] }

/-- A function in context 3 whose status word is w. -/
def fn0 (w : W72) : FnSt :=
  { ctx := 3, fid := 5, idx := 0, klog := 0, phase := 0, k := kOf 2, standby := false, status := wval w, memA := [w, 0], memB := [~~~w, ~~~0], parA := [], parB := [],
    snapA := [], snapB := [],
    hist := [], gates := [], evals := [], replay := [], drop := none }

def hasOk {ε α : Type} : Except ε α → Bool
  | .ok _ => true
  | .error _ => false

theorem ok_of {ε α : Type} {x : Except ε α} (h : hasOk x = true) : ∃ a, x = .ok a := by
  cases x with
  | ok a => exact ⟨a, rfl⟩
  | error e => cases h

theorem error_of {ε α : Type} {x : Except ε α} (h : hasOk x = false) : ∃ e, x = .error e := by
  cases x with
  | ok a => cases h
  | error e => exact ⟨e, rfl⟩

/-! Resets, start-up and frames. -/

theorem wit_StepRunsFrontCommand : ({ sBase with pending := [.idcode, .tapReset] } : State).pending = .idcode :: [.tapReset] := rfl

theorem wit_ModuleResetStartsStepOne : State.reset.sys.powered = true ∧ busReach sBase ∧ sBase.lan.inRun = false := by
  unfold busReach; decide +kernel

theorem wit_StartupStepsGoOn :
    (atStep (sStep 1) 1 ∧ obs.ok = true ∧ (sStep 1).sys.tempBad = false) ∧ atStep (sStep 2) 2 ∧ atStep (sStep 3) 3 ∧
    (atStep (sStep 4) 4 ∧ (sStep 4).fus.lcy ≠ 4) ∧ (atStep (sStep 5) 5 ∧ obs.bistA = true ∧ obs.bistB = true) ∧
    (atStep (sStep 6) 6 ∧ obs.injErrs = []) ∧ atStep (sStep 7) 7 := by
  unfold atStep; decide +kernel

theorem wit_StartupStepsGoOn_last :
    (atStep (sStep 8) 8 ∧ (sStep 8).fld.banks.length = 6 ∧ 5 < nBankOf (sStep 8).sys.variant ∧ fedAll obs 5 = true ∧
      fedAll { obs with feedB := List.replicate 6 192 } 5 = false) ∧
    (atStep { sStep 9 with fus := { FusSt.reset with lcy := 2 } } 9 ∧ (sStep 9).fld.srcs.length = 24 ∧ 23 < nSrcOf (sStep 9).sys.variant ∧
      bankGood (bankAt (sStep 9) 5) = false) ∧ (atStep (sStep 9) 9 ∧ (sStep 9).fus.lcy = 0) ∧
    (atStep (sStep 10) 10 ∧ (sStep 10).fus.alarmOpen = false ∧ activeSlot (sStep 10) = none) := by
  unfold atStep; decide +kernel

/-- Start-up is at step 10 and slot 0 is ACTIVE with an image that does not verify. -/
def sBadSlot : State := { sStep 10 with nv := { NvSt.reset with slots := [.active [], .empty] } }

theorem wit_StartupStepsGoOn_rejected :
    atStep sBadSlot 10 ∧ sBadSlot.fus.alarmOpen = false ∧ activeSlot sBadSlot = some [] ∧ (∃ j, checkImage (checkEnv sBadSlot) [] 0 = .error j) ∧
    ({ sBadSlot with fus := { FusSt.reset with alarmOpen := true } } : State).fus.alarmOpen = true :=
  ⟨by unfold atStep; decide +kernel, by decide +kernel, by decide +kernel, error_of (by decide +kernel), rfl⟩

/-- A start-up step in which what can fail has failed. -/
def obsBad : StepObs := { obs with ok := false, bistA := false, injErrs := [injErr 2 7] }

theorem wit_StartupFailuresHaltOrHold :
    (atStep (sStep 1) 1 ∧ obsBad.ok = false) ∧
    (State.reset.sys.powered = true ∧ ({ State.reset with sys := { SysSt.reset with supplyHold := true } } : State).sys.supplyHold = true ∧
      State.reset.sys.running = 1) ∧
    atStep (sStep 2) 2 ∧ atStep { sStep 4 with fus := { FusSt.reset with lcy := 4 } } 4 ∧
    (atStep (sStep 5) 5 ∧ obsBad.bistA = false ∧ obsBad.bistB = true ∧ ({ obs with bistB := false } : StepObs).bistA = true) ∧
    (atStep (sStep 6) 6 ∧ obsBad.injErrs = [injErr 2 7] ∧ (injErr 2 7).bits ≠ 0 ∧ ((injErr 2 7).path, (injErr 2 7).index) ∈ injections) ∧
    (atStep (sStep 7) 7 ∧ (sStep 7).sys.trainTries < 2 ∧
      atStep { sStep 7 with sys := { (sStep 7).sys with trainTries := 2 } } 7) ∧
    (1 ≤ (sStep 10).sys.running ∧ (sStep 10).sys.supplyHold = false ∧ (sStep 10).sys.hedgeStalled = false) ∧
    ({ sStep 10 with sys := { (sStep 10).sys with hedgeStalled := true } } : State).sys.hedgeStalled = true := by
  unfold atStep; decide +kernel

theorem wit_FrameStartOpensNextFrame :
    awake sHold = true ∧ sHold.cfg = some cfg0 ∧ sHold.lan.timerOn = true ∧ sHold.lan.halted = false ∧ waitsTraining sHold = false ∧
    sHold.fld.ins.length = 96 ∧ isSafeIn cfg0 0 = true ∧ sHold.fld.linkA.st = .up ∧ sHold.fld.linkB.st = .up ∧ sHold.lan.fresh = false ∧
    sHold.fld.linkA.par = some cfg0 ∧ sHold.fld.linkB.par = some cfg0 ∧
    ({ sHold with lan := { sHold.lan with startAt := some 7 } } : State).lan.startAt = some (nextFrameNo sHold) ∧ sHold.lan.inRun = false := by
  decide +kernel

/-- What F(7) latches of channel 0 after the sequencers have accepted these levels: each link's bit, the agreed state, and whether lane A has an
image of it. -/
def latchOf (a b : Bool) : List Bool :=
  let t := frameStartEffect fobs (modSeq (modSeq sHold .a 0 (fun q => { q with acc := a })) .b 0 (fun q => { q with acc := b }))
  [t.fld.linkA.latState.getLsbD 0, t.fld.linkB.latState.getLsbD 0, (inAt t 0).state, (inAt t 0).fault, t.lan.imgs.isEmpty]

theorem wit_FrameStartOpensNextFrame_agreement :
    latchOf true true = [true, true, true, false, false] ∧ latchOf true false = [true, false, false, false, false] := by decide +kernel

/-- Frame 7 is open and lane A has it to evaluate. -/
def sEval : State := { sHold with lan := { sHold.lan with evalA := ⟨[7], none, [], false⟩, imgs := [frameImg 7], open_ := [7, 8] } }

/-- The same in RUN, with function 5 in context 3; a commit of frame 7 is discarded or not. -/
def sEvalRun (d : Option Nat) : State := { sRun with
  lan := { sRun.lan with evalA := ⟨[7], none, [], false⟩, imgs := [{ frameImg 7 with run := true }], open_ := [7, 8] },
  fns := [{ fn0 0 with drop := d }] }

theorem wit_LaneEvaluationProgress :
    awake sEval = true ∧ eventsPlaced sEval ∧ (laneEval sEval .a).todo = [7] ∧ sEval.cfg = some cfg0 ∧ (laneEval sEval .a).waiting = false ∧
    sEval.lan.halted = false ∧ imgOf sEval 7 = some (frameImg 7) ∧ sEval.lan.inRun = false ∧ sEval.rdl.q0.length < 64 ∧ sEval.rdl.q1.length < 64 := by
  unfold eventsPlaced; decide +kernel

theorem wit_LaneEvaluationProgress_run : ∀ d ∈ [none, some 7],
    awake (sEvalRun d) = true ∧ eventsPlaced (sEvalRun d) ∧ (laneEval (sEvalRun d) .a).todo = [7] ∧ (sEvalRun d).cfg = some cfg0 ∧
    (laneEval (sEvalRun d) .a).waiting = false ∧ (sEvalRun d).lan.halted = false ∧ imgOf (sEvalRun d) 7 = some { frameImg 7 with run := true } ∧
    (sEvalRun d).lan.inRun = true ∧ (sEvalRun d).rdl.active = true ∧ (sEvalRun d).fns[0]? = some { fn0 0 with drop := d } ∧
    evaluates (sEvalRun d) .a { fn0 0 with drop := d } 7 = true ∧ dropped { fn0 0 with drop := d } 7 = d.isSome ∧
    evaluates { sEvalRun d with lan := { (sEvalRun d).lan with markA := true } } .a { fn0 0 with drop := d } 7 = false := by
  unfold eventsPlaced; decide +kernel

/-- A block of a type with two inputs and one output. -/
def blk (type : Nat) : BlockRec := ⟨type, 2, 1, 1, 0, [], [⟨0, 0, 1⟩]⟩

theorem wit_LaneEvaluationProgress_blocks :
    usable (validWord 1) = true ∧ usable (faultWord 0) = false ∧ (∀ ty ∈ [1, 2, 3, 4, 8, 0x0A, 0x0B], (blk ty).type ∉ [0x50, 0x51, 0x58, 0x59]) ∧
    (contribList (blk 2) [validWord 1, faultWord 0]).all (fun x => x.1) = false ∧ (contribList (blk 2) [validWord 1, validWord 0]).all (fun x => x.1) = true ∧
    isOn (wval (validWord 1)) = true ∧ isOn (wval (validWord 0)) = false := by decide +kernel

/-- What a SOUT block reads: CHOK of its channel. -/
def soutEnv : BlockEnv := { d := 100, chok := true, slot := none, conn := ⟨false, 4, 0, [], false, false⟩, mode := 0, epoch := 0, window := false, ty := 1 }

/-- SOUT with its command on, of a usable word with these qualifiers; its Q was 1. -/
def soutOn (q : BitVec 8) : BlockRes :=
  evalBlock { blk 0x2E with nin := 3, nout := 3 } soutEnv [mkWord 1 q, validWord 0, validWord 0] [validWord 1, validWord 0, validWord 0, validWord 0]

theorem wit_LaneEvaluationProgress_sout :
    isOn (wval ((soutOn qValid).outs.getD 0 0)) = true ∧ isOn (wval ((soutOn (qValid ||| qFallow)).outs.getD 0 0)) = true ∧
    carries (mkWord 1 (qValid ||| qFallow)) (qTrans ||| qAged ||| qFallow) = true := by decide +kernel

theorem wit_CommitInstantClosesOldestFrame :
    awake sEval = true ∧ sEval.cfg = some cfg0 ∧ sEval.lan.open_ = [7, 8] ∧ sEval.lan.halted = false ∧ hasImage sEval 7 := by
  unfold hasImage; decide +kernel

/-- C(7) in RUN of function 5 with these verdicts, these words of both lanes, and this discarded frame; it lost the spade to none. -/
def sCommit (v : List VerdRec) (d : Option Nat) : State := { sEvalRun d with
  fns := [{ fn0 0 with drop := d, evals := [⟨7, some [0, 0], some [~~~0, ~~~0], 0, 0⟩] }], rdl := { sRun.rdl with verds := v } }

/-- The verdict pair of context 3 in frame 7. -/
def pairOfVerdicts (a b : Verdict) : VerdRec := ⟨false, true, 3, some a, some b, 0, 0⟩

theorem wit_CommitInstantClosesOldestFrame_plain (v : List VerdRec) (d : Option Nat) :
    plainCommit (sCommit v d) cfg0 7 { frameImg 7 with run := true } := by
  unfold plainCommit
  exact ⟨rfl, rfl, rfl, rfl, rfl, rfl, Nat.zero_le _, rfl, rfl, rfl, rfl, rfl, rfl, rfl, rfl, (by decide : [3].Nodup), (by decide : 1 < 65536)⟩

theorem wit_CommitInstantClosesOldestFrame_verdicts :
    (∀ d ∈ [none, some 7], ∀ f ∈ (sCommit [] d).fns, runsIn (sCommit [] d) f 7 = true ∧ stState f.status = 0 ∧ dropped f 7 = d.isSome ∧
      f.fid < 2 ^ 32 ∧ f.ctx < 2 ^ 16 ∧ stMm f.status ≠ 2 ∧ fallowOk cfg0 f = false ∧
      evalRec f 7 = some ⟨7, some [0, 0], some [~~~0, ~~~0], 0, 0⟩ ∧ badStatus [0, 0] = false) ∧
    verdOf (sCommit [] none) false (7 % 2 == 1) 3 = none ∧
    verdOf (sCommit [pairOfVerdicts .eq .eq] none) false (7 % 2 == 1) 3 = some (pairOfVerdicts .eq .eq) ∧ (pairOfVerdicts .eq .eq).passed = true ∧
    verdOf (sCommit [pairOfVerdicts .ne .ne] none) false (7 % 2 == 1) 3 = some (pairOfVerdicts .ne .ne) ∧ (pairOfVerdicts .ne .ne).failed = true ∧
    (sCommit [] none).lan.lates.contains (7, 3) = false := by
  decide +kernel

/-- A produced connection of a type and sub-type of function 5. -/
def prod0 (type sub : Nat) : ProdSt := ⟨⟨0, 2, 1, type, sub, 0, 5000, 5, 0, []⟩, bothKeys 0, [], none, false, none, 0⟩

theorem wit_CommitInstantClosesOldestFrame_frames :
    ([prod0 4 0].map (fun p => p.conn.id)).Nodup ∧ (prod0 4 0).conn.type = 4 ∧ (prod0 1 1).conn.type = 1 ∧ (prod0 1 1).conn.sub = 1 ∧
    (prod0 1 0).conn.type = 1 ∧ (prod0 1 0).conn.sub ≠ 1 ∧ inBench (sCommit [] none) = false ∧ (prod0 1 0).conn.fid = (fn0 0).fid ∧
    ((sCommit [] none).fns.map (fun f => f.fid)).Nodup ∧
    inBench { sCommit [] none with lcy := { LcySt.reset with dbg := .bench } } = true ∧
    (({ sEvalRun none with lan := { (sEvalRun none).lan with pendFault := some 0x30 } } : State).lan.pendFault = some 0x30 ∧
      (sEvalRun none).lan.memErr = none ∧ (sEvalRun none).rdl.decoyOpen = [] ∧ (sEvalRun none).rdl.q0 = [] ∧ (sEvalRun none).rdl.q1 = []) := by
  decide +kernel

/-! Lanes and the Riddle. -/

theorem wit_HealthyLanesDifferByK : 1023 < 1024 ∧ 4096 ≤ 4096 ∧ 71 < 72 ∧ ∃ p peak, makePlan cfg0 = .ok (p, peak) ∧ p.fns ≠ [] := by
  obtain ⟨x, h⟩ := ok_of (x := makePlan cfg0) (by decide +kernel)
  have n : ((makePlan cfg0).toOption.map (fun y => y.1.fns.isEmpty)) = some false := by decide +kernel
  refine ⟨by decide, by decide, by decide, x.1, x.2, h, ?_⟩
  intro e
  simp [h, e, Except.toOption] at n

theorem wit_OneChangedWordIsSeen : (0 : W72) ≠ 1 := by decide

/-- Lane A's signature of context 3 waits in RH0. -/
def entA : QEntry := ⟨5, 3, entryParity 5 3, 0⟩

/-- RUN with a signature in the queue. -/
def sPair : State := { sRun with
  rdl := { sRun.rdl with
    q0 := [entA], way0 := [⟨.a, 0x8003, 7⟩, ⟨.b, 3, 5 ^^^ kOf 2⟩], way1 := [⟨.b, 3, 5 ^^^ kOf 2⟩],
    kTab0 := List.replicate 3 ⟨halfForm .rh0 (kOf 2), kParity (halfForm .rh0 (kOf 2))⟩ },
  fns := [fn0 1] }

theorem wit_SignatureArrivalStoresOrJudges :
    awake sPair = true ∧ sPair.rdl.active = true ∧ (laneEval sPair .b).waiting = false ∧
    (firstOf .b (wayOf sPair .rh1) = some (⟨.b, 3, 5 ^^^ kOf 2⟩, []) ∧ (queueOf sPair .rh1).filter (fun x => sameTag x.tag 3) = [] ∧
      sPair.rdl.q0.length < 64 ∧ sPair.rdl.q1.length < 64) ∧
    (firstOf .b (wayOf sPair .rh0) = some (⟨.b, 3, 5 ^^^ kOf 2⟩, [⟨.a, 0x8003, 7⟩]) ∧ partnerWaits sPair .rh0 .b 3 entA ∧
      sPair.fns.find? (fun f => f.ctx == tagCtx 3) = some (fn0 1) ∧ sPair.cfg = some cfg0 ∧
      kAt sPair .rh0 (fnRecOf cfg0 (fn0 1)).nword = some (halfForm .rh0 (kOf 2)) ∧ sPair.lan.lates = [] ∧ verdictFor sPair entA.tag = none) := by
  unfold partnerWaits; decide +kernel

theorem wit_LateAndOverrunAreRecorded :
    awake sPair = true ∧ sPair.lan.inRun = true ∧ sPair.lan.open_ = [7] ∧ sPair.rdl.active = true ∧ sPair.rdl.decoyOpen = [] ∧
    sPair.fns.find? (fun f => f.ctx == 3 && runsIn sPair f 7 && stState f.status != 3) = some (fn0 1) ∧ sPair.lan.halted = false ∧
    verdOf sPair false (7 % 2 == 1) 3 = none ∧ sPair.lan.lates.contains (7, 3) = false ∧ sPair.lan.pendFault = none ∧ sPair.lan.overrun = false ∧
    ({ sPair with lan := { sPair.lan with halted := true } } : State).lan.halted = true ∧ eventsPlaced sPair := by
  unfold eventsPlaced; decide +kernel

theorem wit_FaultsAtOnceSendAllOff : awake sRun = true ∧ (∀ l, (linkAt sRun l).st = .up) ∧ sRun.lan.inRun = true ∧ sRun.lan.halted = false :=
  ⟨by decide +kernel, fun l => by cases l <;> decide +kernel, by decide +kernel, by decide +kernel⟩

/-- HOLD with a produced connection to node 1. -/
def sProd : State := { sHold with ksl := { KslSt.reset with
  prod := [⟨⟨0, 2, 1, 1, 0, 0, 5000, 5, 0, []⟩, bothKeys 0, [], none, false, none, 0⟩] } }

theorem wit_OtherStallsAreContained :
    awake sProd = true ∧ (∃ p ∈ sProd.ksl.prod, p.conn.id = (0x2 : BitVec 32).toNat) ∧
    (pathTo sProd 1).isSome = true ∧ beAt (zeros 7 ++ [2]) 4 4 ∈ ({ sProd with net := { NetSt.reset with stalls := [2] } } : State).net.stalls ∧
    (2 ≤ (sStep 5).sys.running ∧ (sStep 1).sys.running < 2) := by
  decide +kernel

/-- Lane B is marked. -/
def sOne : State := { sRun with lan := { sRun.lan with markB := true } }

theorem wit_MemoryErrorMarksLane :
    (awake sRun = true ∧ marked sRun .a = false ∧ marked sRun .b = false ∧ sRun.lan.memErr ≠ some .b ∧ sRun.lan.inRun = true ∧
      sRun.lan.halted = false) ∧
    (awake sHold = true ∧ marked sHold .a = false ∧ marked sHold .b = false ∧ sHold.lan.memErr ≠ some .b ∧ sHold.lan.inRun = false) ∧
    (awake sOne = true ∧ marked sOne .a = false ∧ marked sOne .b = true) := by
  decide +kernel

/-- A diagnosis runs and function 5 is in DIAG. -/
def sDiag : State := { sRun with lan := { sRun.lan with diag := some (0, []) }, fns := [fn0 1], tb := 200000 }

/-- Function 5 is in FALLOW and has evaluated frame 7 with this status word. -/
def sFallow (w : W72) : State := { sEvalRun none with fns := [{ fn0 2 with evals := [⟨7, some [w, 0], some [~~~w, ~~~0], 0, 0⟩] }] }

theorem wit_DiagnosisAndFallowEnd_decision :
    (sDiag.fns.map (fun f => f.ctx)).Nodup ∧ (∀ f ∈ (beforeDecision cfg0 sDiag).fns, holds sDiag f = true ∧ stState f.status = 1 ∧
      judgeDiag (beforeDecision cfg0 sDiag) cfg0 [] false true [] f = some .a ∧ judgeDiag (beforeDecision cfg0 sDiag) cfg0 [] true true [] f = none) ∧
    (beforeDecision cfg0 sDiag).fns ≠ [] ∧ marked sDiag .b = false ∧
    (fallowOk { cfg0 with fns := [⟨5, 600000, 1, 2, 1, 2, 100, [], []⟩] } (fn0 0) = true ∧ fallowOk cfg0 (fn0 0) = false) ∧
    (∀ f ∈ (sCommit [] none).fns, lateIn (sCommit [] none) 7 [] f = true ∧ lateIn (sCommit [] none) 7 [pairOfVerdicts .ne .ne] f = false ∧
      stState f.status ≤ 2 ∧ holds (sCommit [] none) f = true) ∧
    (((sFallow 2).fns.find? (fun f => f.ctx == 3 && inFallowHere (sFallow 2) f)).any (fun f => fallowOver f 7 (healthyLane (sFallow 2))) = true ∧
      ((sFallow 0x10002).fns.find? (fun f => f.ctx == 3 && inFallowHere (sFallow 0x10002) f)).any
        (fun f => !fallowOver f 7 (healthyLane (sFallow 0x10002))) = true ∧
      (sFallow 2).lan.open_ = [7, 8] ∧ (sFallow 2).lan.inRun = true) := by
  decide +kernel

theorem wit_DiagnosisAndFallowEnd :
    awake sDiag = true ∧ sDiag.cfg = some cfg0 ∧ sDiag.lan.diag = some (0, []) ∧ (0 : BitVec 64).toNat + 200000 ≤ sDiag.tb.toNat ∧
    ({ sDiag with tb := 199999 } : State).tb.toNat < (0 : BitVec 64).toNat + 200000 ∧ sDiag.lan.inRun = true ∧
    sDiag.lan.halted = false ∧ eventsPlaced sDiag ∧ 50 * (((102000 : Nat) : Int) - tfTicks sDiag).natAbs ≤ tfTicks sDiag ∧
    50 * (((98000 : Nat) : Int) - tfTicks sDiag).natAbs ≤ tfTicks sDiag ∧ tfTicks sDiag < 50 * (((97999 : Nat) : Int) - tfTicks sDiag).natAbs := by
  unfold eventsPlaced; decide +kernel

/-! Barrier links. -/

theorem wit_SentPacketsAreValid : awake sHold = true ∧ ∀ l, seqOn sHold l = true ∧ (linkAt sHold l).seqBank.length = 6 :=
  ⟨by decide +kernel, fun l => by cases l <;> decide +kernel⟩

/-- A packet with these first two bytes and zeros. -/
def packet (a b : BitVec 8) : Bytes := sealPacket ([a, b] ++ zeros 36)

theorem wit_DownlinkPacketSetsGates :
    channelHere sHold cfg0 16 isSafeOut ∧ channelHere sHold cfg0 18 isSafeOut ∧ seqOn sHold .a = true ∧
    validPacket (packet 0x10 2) 1 (linkAt sHold .a).dnLast = true ∧ nbit (byteAt (packet 0x10 2) 1) 2 = false ∧ (linkAt sHold .a).st = .up ∧
    (linkAt sHold .a).safe = false ∧ validPacket (packet 0x11 0) 1 (linkAt sHold .a).dnLast = false ∧ soundPacket (packet 0x11 0) 1 = true ∧
    soundPacket (zeros 40) 1 = false ∧ 1 ≤ (linkAt (modLink sHold .a (fun k => { k with badRun := 1 })) .a).badRun := by
  unfold channelHere; decide +kernel

/-- HOLD with both links training. -/
def sTrain : State := modLink (modLink sHold .a (fun k => { k with st := .training })) .b (fun k => { k with st := .training })

theorem wit_UplinkLatchOrMiss :
    awake sRun = true ∧ (linkAt sRun .b).st = .up ∧ sRun.lan.timerOn = true ∧ eventsPlaced sRun ∧
    (validPacket (packet 0x20 2) 2 (linkAt sRun .b).upLast = true ∧ nbit (byteAt (packet 0x20 2) 1) 1 = true) ∧
    validPacket (packet 0x10 2) 2 (linkAt sRun .b).upLast = false ∧
    (validPacket (packet 0x20 1) 2 (linkAt sRun .b).upLast = true ∧ nbit (byteAt (packet 0x20 1) 1) 1 = false ∧
      nbit (byteAt (packet 0x20 1) 1) 0 = true ∧ (linkAt sRun .b).latOk = false ∧ (linkAt sRun .b).missed = false ∧
      (sRun.tb - sRun.lan.fstart).toNat ≤ 800) ∧
    ((linkAt sTrain .b).st ≠ .up ∧ sTrain.lan.timerOn = true ∧ (linkAt sTrain .b).latOk = false ∧ (linkAt sTrain .b).missed = false ∧
      awake sTrain = true) ∧
    (linkAt sRun .b).missRun < 2 ∧ 2 ≤ (linkAt (modLink sRun .b (fun k => { k with missRun := 2 })) .b).missRun := by
  unfold eventsPlaced; decide +kernel

theorem wit_TrainingBringsLinksUp :
    (awake sTrain = true ∧ sTrain.lan.inRun = false ∧ sTrain.sys.halt = false ∧ sTrain.sys.running = 0 ∧ sTrain.sys.entering = false ∧
      sTrain.sys.pwr = 1 ∧ sTrain.sys.convA = true ∧ sTrain.sys.convB = true ∧ sTrain.fld.linkA.st ≠ .up) ∧
    (seqOn sTrain .a = true ∧ (linkAt sTrain .a).st = .training ∧ (paramCrc (trainCfg sTrain)).take 4 = paramCrc (trainCfg sTrain) ∧
      ([] : Bytes).take 4 ≠ paramCrc (trainCfg sTrain)) := by
  refine ⟨by decide +kernel, by decide +kernel, by decide +kernel, ?_, ?_⟩
  · simp [paramCrc, beBytes, leBytes]
  · simp [paramCrc, beBytes, leBytes]

/-! The field side. -/

/-- Source 0 is active in bank 0, which is OK; it has had the pulse of slot 5. -/
def sFld : State := modBank (modSrc { sHold with lan := { sHold.lan with imgs := [frameImg 7] } } 0
  (fun x => { x with st := .active, placed := some ⟨5, true, 0, 50000⟩ })) 0 (fun b => { b with st := .ok })

/-- Its source 0 changed. -/
def sSrc (g : SrcSt → SrcSt) : State := modSrc sFld 0 g

/-- A sample of an input at an instant: voltage, current. -/
def smp (tb : BitVec 64) (mv : Int) (ua : Nat) : InSample := ⟨tb, mv, ua, false, 240⟩

theorem wit_InputAndSourceCommands_places :
    channelHere sFld cfg0 0 isSafeIn ∧ channelHere sFld cfg0 1 isSafeIn ∧ channelHere sFld cfg0 2 isSafeIn ∧ channelHere sFld cfg0 3 isSafeIn ∧
    eventsPlaced sFld := by
  unfold channelHere eventsPlaced; decide +kernel

theorem wit_InputAndSourceCommands_inputs :
    (chanUse cfg0 0 = 1 ∧ (chanSrc cfg0 0).any (sourceOn sFld) = false ∧ (false = (seqAt sFld .a 0).acc) ∧ (true ≠ (seqAt sFld .a 0).acc) ∧
      (seqAt sFld .a 0).pend = none ∧ (seqAt (modSeq sFld .a 0 (fun q => { q with pend := some 0 })) .a 0).pend = some 0) ∧
    (chanUse cfg0 2 = 2 ∧ (chanSrc cfg0 2).any (sourceOn sFld) = false ∧ (smp 0 0 0).ua < 400 ∧ bandSuspended sFld cfg0 2 240 = false ∧
      filtTicks cfg0 2 ≤ ((smp 300000 0 549).tb - (smp 0 0 0).tb).toNat ∧ (seqAt sFld .a 2).run = none ∧ (seqAt sFld .a 2).bandFaults = []) ∧
    (chanUse cfg0 1 = 2 ∧ (chanSrc cfg0 1).any (sourceOn (sSrc (fun k => { k with st := .off }))) = false ∧
      bandSuspended (sSrc (fun k => { k with st := .off })) cfg0 1 159 = true) ∧
    (3 ≤ (inAt (modIn sFld 0 (fun i => { i with differ := 3 })) 0).differ ∧ sFld.fld.insPrev.length = 96 ∧ sFld.lan.imgs ≠ []) ∧
    ((inAt sFld 0).differ = 0 ∧ sourceBad sFld cfg0 0 = false ∧ (seqAt sFld .a 0).run = none ∧
      absentFor { sFld with tb := 10000000 } 0 (clrTicks sFld cfg0 0) = true) := by
  decide +kernel

theorem wit_InputAndSourceCommands_codes :
    (chanSrc cfg0 1 = some 0 ∧ (seqAt (modSeq sFld .a 1 (fun q => { q with codeFault := some 4 })) .a 1).codeFault.isSome = true ∧
      (seqAt (modSeq sFld .a 1 (fun q => { q with codeFault := some 4 })) .a 1).final = false ∧
      (seqAt sFld .a 1).firstMis + 24 ≤ slotNow { sFld with lan := { sFld.lan with frame := 24 } } cfg0 0) ∧
    ((4, false) ∈ (seqAt (modSeq sFld .a 1 (fun q => { q with judged := [(4, false)] })) .a 1).judged ∧ (seqAt sFld .a 1).firstMis ≤ 4 ∧
      4 < (seqAt sFld .a 1).firstMis + 24 ∧ (seqAt sFld .a 1).judged = []) ∧
    chanType cfg0 50 ≠ 1 ∧
    (chanSrc cfg0 3 = some 0 ∧ chanUse cfg0 3 = 1 ∧ (srcAt sFld 0).st = .active ∧ sourceBad sFld cfg0 3 = false ∧ sFld.lan.halted = false ∧
      endedPulse sFld cfg0 0 = some ⟨5, true, 0, 50000⟩) := by
  decide +kernel

theorem wit_InputAndSourceCommands_sources :
    awake sFld = true ∧ sFld.cfg = some cfg0 ∧ 0 < nSrcOf sFld.sys.variant ∧ 23 < nSrcOf sFld.sys.variant ∧ sFld.fld.srcs.length = 24 ∧ eventsPlaced sFld ∧
    sourceOn sFld 0 = true ∧
    ((srcAt (sSrc (fun k => { k with st := .faulted, stopped := true })) 0).stopped = true ∧ sFld.sys.convA = true ∧ sFld.sys.convB = true ∧
      (ownSrc cfg0 0).isSome = true ∧ ownSrc cfg0 23 = none) ∧
    ((srcAt (sSrc (fun k => { k with st := .untested })) 0).st = .untested ∧ bankGood (bankAt sFld (0 / 4)) = true ∧
      ownSrc cfg0 0 = some ⟨0, 0, 500, 1⟩) ∧
    vlp (bankAt sFld (0 / 4)) * 100 ≤ 24000 + 1000 ∧ sFld.lan.timerOn = true ∧ sFld.fld.linkA.par = some cfg0 ∧ sFld.lan.halted = false ∧
    (endedPulse (sSrc (fun k => { k with errA := [true], errB := [false] })) cfg0 0 = some ⟨5, true, 0, 50000⟩ ∧
      (srcAt (sSrc (fun k => { k with errA := [true], errB := [false] })) 0).errA = [true]) ∧
    (endedPulse (sSrc (fun k => { k with st := .faulted, good := 23 })) cfg0 0 = some ⟨5, true, 0, 50000⟩ ∧
      (srcAt (sSrc (fun k => { k with st := .faulted, good := 23 })) 0).stopped = false ∧
      slotError (sSrc (fun k => { k with st := .faulted, good := 23 })) 0 ⟨5, true, 0, 50000⟩ ⟨some ⟨50000, 0⟩, none, 24000⟩ = false) ∧
    slotBegins sFld cfg0 0 = some 6 := by
  unfold eventsPlaced; decide +kernel

/-- Both switches of channel 16 are closed; those of channels 18 to 20 are open. -/
def sOut : State := modBank (modOut sHold 16 (fun o =>
  { o with swA := { o.swA with gate := true }, swB := { o.swB with gate := true } })) 1 (fun b => { b with st := .ok })

theorem wit_OutputFaultsSetAndClear :
    channelHere sOut cfg0 16 isOut ∧ channelHere sOut cfg0 18 isOut ∧ channelHere sOut cfg0 20 isOut ∧ eventsPlaced sOut ∧
    bothOpen (outChan sOut 18) = true ∧ (gangMate cfg0 18 = some 19 ∧ gangMate cfg0 19 = some 18) ∧
    (isSafeOut cfg0 16 = true ∧ (swAt (outChan sOut 16) .a).gate = true) ∧ (chanUse cfg0 20 = 6 ∧ thermLatch cfg0 20 = true) ∧
    (swAt (outChan sOut 18) .b).therm = false ∧ bothOn (outChan sOut 18) = false ∧ bothOn (outChan sOut 16) = true ∧
    (swAt (outChan (modOut sOut 16 (fun o => { o with swA := { o.swA with held := true } })) 16) .a).held = true ∧
    (swAt (outChan sOut 16) .a).held = false ∧ (outChan sOut 16).causes = [] := by
  unfold channelHere eventsPlaced; decide +kernel

/-- Channel 19 alone of its pair is on. -/
def sPartner : State := modOut sOut 19 (fun o => { o with swA := { o.swA with gate := true }, swB := { o.swB with gate := true } })

theorem wit_OutputFaultsSetAndClear_pair :
    (∀ k ∈ pairOf sOut 18, bothOn (outChan sOut k) = false) ∧ channelHere sPartner cfg0 18 isOut ∧ eventsPlaced sPartner ∧
    bothOn (outChan sPartner 18) = false ∧ ∃ k ∈ pairOf sPartner 18, bothOn (outChan sPartner k) = true := by
  unfold channelHere eventsPlaced; decide +kernel

theorem wit_OutputTestsRun :
    (channelHere sOut cfg0 16 isSafeOut ∧ eventsPlaced sOut ∧ bothOn (outChan sOut 16) = true ∧ sOut.lan.halted = false ∧
      (∀ k ∈ pairOf sOut 16, (swAt (outChan sOut k) .b).pulsing = false) ∧ (∀ k ∈ pairOf sOut 18, (swAt (outChan sOut k) .b).pulsing = false) ∧
      (bankAt sOut (16 / 16)).st = .ok ∧ (bankAt (modBank sOut 1 (fun b => { b with st := .sag })) 1).st = .sag ∧
      (swAt (outChan (modOut sOut 16 (fun o => { o with swB := { o.swB with pulsing := true } })) 16) .b).pulsing = true ∧
      (swAt (outChan (modOut sOut 16 (fun o => { o with swA := { o.swA with deferred := true, failed := true, pulsing := true } })) 16) .a).deferred = true) ∧
    (channelHere sOut cfg0 18 isOut ∧ (∀ k ∈ pairOf sOut 18, bothOpen (outChan sOut k) = true) ∧ pairOf sOut 18 = [18, 19] ∧
      (∀ k ∈ pairOf sOut 16, bothOpen (outChan sOut k) = false) ∧ (outChan sOut 18).overdue = false ∧
      (outChan (modOut sOut 18 (fun o => { o with test := 1 })) 18).test = 1) := by
  unfold channelHere eventsPlaced; decide +kernel

theorem wit_OutputTestsRun_rest :
    testsRest sOut = false ∧ testsRest { sOut with lan := { sOut.lan with halted := true } } = true ∧
    nearMarker { sOut with tb := 50000 } = false ∧ nearMarker sOut = true ∧ bothOpen (outChan sOut 18) = true ∧
    ((outChan (modOut sOut 18 (fun o => { o with test := 2, testBad := true })) 18).test = 2 ∧
      (outChan (modOut sOut 18 (fun o => { o with test := 2, testBad := true })) 18).testBad = true ∧
      (outChan (modOut sOut 18 (fun o => { o with test := 2 })) 18).testBad = false) := by
  decide +kernel

/-- Bank 0 in this state. -/
def sBank (b : BankState) : State := modBank sHold 0 (fun k => { k with st := b })

theorem wit_BankCommandsActOnTheirBank :
    awake (sBank .ok) = true ∧ (sBank .ok).sys.convA = true ∧ (sBank .ok).sys.convB = true ∧ 0 < nBankOf (sBank .ok).sys.variant ∧
    5 < nBankOf (sBank .ok).sys.variant ∧ (sBank .ok).fld.banks.length = 6 ∧ (sBank .ok).fld.outs.length = 96 ∧ eventsPlaced (sBank .ok) ∧
    (bankAt (sBank .sag) 0).st = .sag ∧ (bankAt (sBank .low) 0).st = .low ∧ (bankAt (sBank .ok) 0).st = .ok ∧
    ((bankAt (modBank (sBank .ok) 0 (fun k => { k with monSince := some 0 })) 0).monSince = some 0 ∧
      1000000 ≤ (({ sHold with lan := { sHold.lan with fstart := 1000000 } } : State).lan.fstart - 0).toNat) ∧ (bankAt (sBank .ok) 0).monSince = none ∧
    (sBank .ok).fld.linkA.latBank.getD 0 0 < 96 ∧ (sBank .ok).fld.linkB.latBank.getD 0 0 < 96 ∧
    (sBank .ok).fld.banksPrev.length = 6 ∧ ((sBank .ok).fld.banksPrev.getD 0 BankSt.reset).recovered = false ∧
    (bankAt (sBank .untested) 0).st = .untested ∧ (sBank .untested).lan.timerOn = true ∧
    (outputHere sOut (16 * 1 + 2) = true ∧ (∀ k ∈ pairOf sOut (16 * 1 + 2), bothOpen (outChan sOut k) = true) ∧ sOut.lan.halted = false) ∧
    (sBase.lan.timerOn = false ∧ (bankAt sBase 0).st = .untested ∧ sBase.fld.outs = List.replicate 96 OutCh.reset) := by
  unfold eventsPlaced; decide +kernel

/-- The latch packets of both links show this byte of bank 0. -/
def sLat (v : Nat) : State := modLink (modLink sHold .a (fun k => { k with latBank := v :: k.latBank.drop 1 })) .b
  (fun k => { k with latBank := v :: k.latBank.drop 1 })

/-- What the latched bytes of bank 0 say: its ride-through has expired, it was a loss, an overcurrent. -/
def bankSays (v : Nat) : Bool × Bool × Bool :=
  let x := (sLat v).fld.linkA.latBank.getD 0 0
  (decide (96 ≤ x % 256), decide (128 ≤ x), nbit x 4)

theorem wit_BankCommandsActOnTheirBank_latch :
    bankSays 0 = (false, false, false) ∧ bankSays 96 = (true, false, false) ∧ bankSays 128 = (true, true, false) ∧ bankSays 16 = (false, false, true) ∧
    (BankSt.reset.feedA ≤ BankSt.reset.feedB + 10 ∧ BankSt.reset.feedB ≤ BankSt.reset.feedA + 10) ∧ waitsTraining (sBank .ok) = false := by
  decide +kernel

/-- The last test step of bank 0 without a configuration. -/
def sLastTest : State := modOut (modBank sBase 0 (fun k => { k with testing := true })) 3 (fun o => { o with test := 2 })

theorem wit_BankCommandsActOnTheirBank_untested :
    testsRest sBase = false ∧ 3 / 16 = 0 ∧ (bankAt sLastTest 0).testing = true ∧ sLastTest.lan.timerOn = false ∧ testsRest sLastTest = false ∧
    (outChan sLastTest 3).test = 2 ∧ bothOpen (outChan sLastTest 3) = true ∧
    (∀ i, i < 16 → 16 * 0 + i ≠ 3 → testOpen (outChan sLastTest (16 * 0 + i)) = false) ∧ awake sLastTest = true ∧ sLastTest.sys.convA = true ∧
    sLastTest.fld.outs.length = 96 := by
  decide +kernel

/-! Motion, connections, cuttings. -/

theorem wit_EncoderEdgeCountsInBothHalves :
    awake sHold = true ∧ hasSmuOf sHold.sys.variant = true ∧ sHold.smu.length = 4 ∧ axisRec sHold 2 = none ∧ axisRec sHold 3 = none ∧
    ((true ≠ (axisAt sHold 2).pA.la ↔ false = (axisAt sHold 2).pA.lb)) ∧ ((false ≠ (axisAt sHold 2).pA.la ↔ true = (axisAt sHold 2).pA.lb)) ∧
    (axisAt sHold 2).pB.la = (axisAt sHold 2).pA.la ∧ (axisAt sHold 2).pB.lb = (axisAt sHold 2).pA.lb ∧
    (false = (axisAt sHold 2).pA.la ∧ false = (axisAt sHold 2).pA.lb) ∧
    settled (axisAt sHold 2).pA ∧ settled (axisAt sHold 2).pB ∧
    (sHold.cfg = some cfg0 ∧ sHold.lan.timerOn = true ∧ sHold.lan.halted = false ∧ waitsTraining sHold = false ∧ sHold.lan.startAt = none) := by
  unfold settled; decide +kernel

theorem wit_EncoderEdgeCountsInBothHalves_axes :
    (∃ r, axisRec sHold 1 = some r ∧ r.stype = 3 ∧ settled (axisAt sHold 1).sA ∧ (axisAt sHold 1).sA.la = false) ∧
    (∃ r, axisRec sHold 0 = some r ∧ r.ptype ≠ 3 ∧ r.stype ≠ 3 ∧ settled (axisAt sHold 0).pA ∧ settled (axisAt sHold 0).sA ∧
      (true ≠ (axisAt sHold 0).sA.la ↔ false = (axisAt sHold 0).sA.lb) ∧
      true ≠ (axisAt sHold 0).pA.la ∧ true ≠ (axisAt sHold 0).pA.lb ∧ (axisAt sHold 0).causes = []) := by
  unfold settled
  constructor
  · exact ⟨_, rfl, by decide +kernel⟩
  · exact ⟨_, rfl, by decide +kernel⟩

/-- A half that has counted ten edges in the last 1,000 ticks. -/
def halfTen : PortHalf := { PortHalf.reset with counted := true, pos := 10, t1 := 1000, past := [(0, 0)] }

theorem wit_EncoderEdgeCountsInBothHalves_speed :
    PortHalf.reset.counted = false ∧ halfTen.counted = true ∧ (halfTen.pos - (halfTen.past.getD (1 - 1) (0, 0)).1).toInt ≠ 0 ∧
    halfTen.t1 ≠ (halfTen.past.getD (1 - 1) (0, 0)).2 ∧ PortHalf.reset.pos = (PortHalf.reset.past.getD (1 - 1) (0, 0)).1 := by decide +kernel

/-- HOLD with a cause on axis 0 at these ports, and XT of 1,000,001 ticks. -/
def sAxis (cause : Nat) (ports : BitVec 2) : State := modAxis sHold 0 (fun x => { x with causes := [⟨cause, ports, 0⟩], xt := 1000001 })

theorem wit_AxisFaultsSetAndClear :
    ∃ r, awake sHold = true ∧ hasSmuOf sHold.sys.variant = true ∧ sHold.smu.length = 4 ∧ axisRec sHold 0 = some r ∧ portType r 0 = 2 ∧ eventsPlaced sHold ∧
      axisRec (sAxis 2 1) 0 = some r ∧ r.xtime * 100000 < (axisAt (sAxis 2 1) 0).xt ∧
      (∀ k ∈ (axisAt (sAxis 2 1) 0).causes, k.cause = 2 → causePorts k = BitVec.ofNat 2 (0 + 1)) ∧
      (∀ k ∈ (axisAt (sAxis 2 2) 0).causes, k.cause = 2 → causePorts k = BitVec.ofNat 2 (1 + 1)) ∧
      (∃ k ∈ (axisAt (sAxis 2 3) 0).causes, k.cause = 2 ∧ causePorts k = 3) ∧ (axisAt sHold 0).xt = 0 ∧ (axisAt (sAxis 4 1) 0).xt ≠ 0 := by
  refine ⟨_, by decide +kernel, by decide +kernel, by decide +kernel, rfl, ?_⟩
  unfold eventsPlaced; decide +kernel

/-- A frame of connection 0x102 with a sequence number. -/
def kfr (seq : Nat) : KFrame :=
  { type := 1, sync := false, syncReq := false, fallow := false, nw := 0, echoIdx := 0, connId := 0x102, seq := seq, ts := 0, modeEpoch := 0, leaseEpoch := 0,
    echoSeq := 0, echoHold := 0, payload := zeros 48 }

/-- A consumed connection in this state. -/
def cons0 (st : ConnState) : ConsSt :=
  { conn := ⟨1, 2, 0, 1, 0, 0, 5000, 0, 0, []⟩, key := bothKeys 0, st := st, cause := 0, newest := some (kfr 4, 0, 0), lastSeq := 4, synced := true, fails := [], nonce := none,
    reqDue := false, chk := 0, ageLast := 0, agePeak := 0, fenced := [], latched := none, age := 0 }

/-- HOLD with that connection, whose peer is reached through the tunnel. -/
def sConn (st : ConnState) : State := { sHold with cfg := some { cfg0 with paths := [⟨2, 0, 1, 50⟩] }, ksl := { KslSt.reset with cons := [cons0 st] } }

/-- The connection's function, 0, has a cutting; its known epoch is 1. -/
def sFence : State := { sConn .run with
  plt := { PltSt.reset with plan := some ⟨[⟨0, 1, some 0, 0, 1023, 0, 0, 0, kOf 2, 0⟩], [], 5⟩ }, nv := { NvSt.reset with epochs := [(0, 1)] } }

/-- Both ports are linked at 1000 Mbit/s; port 0 is MASTER, port 1 SLAVE. -/
def sNet (m : Nat) : State := { sHold with cfg := some (cfgP m), net := { NetSt.reset with speed0 := 3, speed1 := 3, ptp0 := 6, ptp1 := 9 } }

/-- A frame with a redundancy trailer of sequence number 5 on LAN A. -/
def tailed : Bytes := zeros 96 ++ [0, 5, 0xA0, 0, 0x88, 0xFB]

set_option maxRecDepth 100000 in
theorem wit_ReceivedFramesAreSorted :
    awake (sConn .run) = true ∧ (carriedBy (sConn .run) (zeros 96) 2 = true ∧ consWith (sConn .run) (parseKsl (zeros 96)).connId = none) ∧
    consWith (sConn .run) (parseKsl (kslBytes (bothKeys 0) (kfr 4) (kfr 4))).connId = some (cons0 .run) ∧
    (carriedBy (sConn .run) (kslBytes (bothKeys 1) (kfr 5) (kfr 5)) 2 = true ∧ byteAt (kslBytes (bothKeys 1) (kfr 5) (kfr 5)) 0 = 1 ∧
      (cons0 .run).conn.type = (parseKsl (kslBytes (bothKeys 1) (kfr 5) (kfr 5))).type ∧
      checkPass (cons0 .run).key (kslBytes (bothKeys 1) (kfr 5) (kfr 5)) ≠ (true, true)) ∧
    (frameFits (cons0 .run) (kslBytes (bothKeys 0) (kfr 4) (kfr 4)) ∧ (parseKsl (kslBytes (bothKeys 0) (kfr 4) (kfr 4))).sync = false ∧
      (parseKsl (kslBytes (bothKeys 0) (kfr 4) (kfr 4))).seq ≤ (cons0 .run).lastSeq) ∧
    (frameFits (cons0 .run) (kslBytes (bothKeys 0) (kfr 5) (kfr 5)) ∧ (cons0 .run).lastSeq < (parseKsl (kslBytes (bothKeys 0) (kfr 5) (kfr 5))).seq) ∧
    (consWith sFence 0x102 = some (cons0 .run) ∧ leaseConn (cons0 .run).conn = true ∧ hasCutting sFence (cons0 .run).conn.fid = true ∧
      (parseKsl (kslBytes (bothKeys 0) (kfr 5) (kfr 5))).leaseEpoch.toNat < (knownEpoch sFence (cons0 .run).conn.fid).toNat ∧
      hasCutting (sConn .run) (cons0 .run).conn.fid = false) := by
  unfold frameFits; decide +kernel

theorem wit_ReceivedFramesAreSorted_ports :
    carriesKsl (sConn .run) 1 = false ∧
    (carriesKsl (sNet 0) 0 = true ∧ (∃ a, ownAddr (sNet 0) = some a ∧ (1 : BitVec 48) ≠ a.mac) ∧ carriedBy (sNet 0) (zeros 96) 0 = true ∧ pmodeOf (sNet 0) ≠ 2) ∧
    (carriesKsl (sNet 2) 1 = true ∧ (∃ a, ownAddr (sNet 2) = some a ∧ (1 : BitVec 48) ≠ a.mac) ∧ pmodeOf (sNet 2) = 2 ∧ carriedBy (sNet 2) tailed 0 = true ∧
      trailerOf tailed = some (5, 10) ∧
      ((1 : BitVec 48), 5, (0 : BitVec 64)) ∈ ({ sNet 2 with net := { (sNet 2).net with prpSeen := [(1, 5, 0)] } } : State).net.prpSeen ∧
      ((sNet 2).tb - 0).toNat < 40000000) :=
  ⟨by decide +kernel, ⟨by decide +kernel, ⟨_, rfl, by decide +kernel⟩, by decide +kernel⟩, ⟨by decide +kernel, ⟨_, rfl, by decide +kernel⟩, by decide +kernel⟩⟩

theorem wit_ReleasedFramesPassChecks :
    (kfr 5).type < 8 ∧ (kfr 5).nw < 256 ∧ (kfr 5).echoIdx < 256 ∧ (kfr 5).connId < 2 ^ 32 ∧ (kfr (2 ^ 48 - 1)).seq < 2 ^ 48 ∧ (kfr 5).ts < 2 ^ 48 ∧
    (kfr 5).echoHold < 2 ^ 16 ∧ (kfr 5).payload.length = 48 := by decide +kernel

theorem wit_ConnectionFaultsAskForSync :
    awake (sConn .run) = true ∧ consSlot (sConn .run) 0 = some (cons0 .run) ∧ (cons0 .run).st = .run ∧
    (cons0 .run).te < agedNow { sConn .run with tb := 500001 } (cons0 .run) ∧
    8 ≤ (recentFails (sConn .run) { cons0 .run with fails := List.replicate 8 0 }).length ∧
    consSlot (sConn .wait) 0 = some (cons0 .wait) ∧ (cons0 .wait).st = .wait ∧ askDue (sConn .wait) (cons0 .wait) = true ∧
    askDue { sConn .fault with tb := 500000 } { cons0 .fault with nonce := some (7, 0) } = true ∧
    (eventsPlaced (sConn .wait) ∧ ({ sConn .wait with tb := 499999 } : State).tb.toNat < (cons0 .wait).te) := by
  unfold eventsPlaced; decide +kernel

/-- A cutting of function 5, as its host or as its standby. -/
def cut0 (host : Bool) : CutSt := ⟨5, host, false, 0, some ⟨0, 1, false, [], []⟩, none, false, false, 0, false, 0⟩

/-- A MIRROR frame under epoch 1, without HOLD. -/
def mirrorFr : KFrame := { kfr 1 with type := 2, leaseEpoch := 1 }

/-- The connection that brings it, its frame of this age. -/
def mirrorCon (age : Nat) : ConsSt := { cons0 .run with conn := ⟨1, 2, 0, 2, 0, 0, 5000, 5, 0, []⟩, latched := some mirrorFr, age := age }

/-- An owner record of function 5: channel 16 is on in both lanes. -/
def own0 : OwnSt := ⟨5, 1, 0, true, false, ⟨[16], []⟩, ⟨[16], []⟩⟩

/-- RUN with that cutting; the known epoch is 1. -/
def sCut (host : Bool) : State := { sRun with
  tb := 10000000, ksl := { KslSt.reset with cons := [mirrorCon 9000000] }, cuts := ⟨[cut0 host], [own0], []⟩, nv := { NvSt.reset with epochs := [(5, 1)] },
  plt := { PltSt.reset with plan := some ⟨[⟨5, 0, some 1, 0, 1023, 0, 0, 0, kOf 2, 0⟩], [], 5⟩ } }

theorem wit_SpadeMovesUnderHigherEpochs :
    awake (sCut false) = true ∧ (sCut false).cfg = some cfg0 ∧ (knownEpoch (sCut false) 5).toNat + 2 < 2 ^ 32 ∧
    (cutOf (sCut false) 5 = some (cut0 false) ∧ (cut0 false).host = false ∧ (cut0 false).holder = false ∧ (cut0 false).set = some ⟨0, 1, false, [], []⟩ ∧
      (1 : BitVec 32) = knownEpoch (sCut false) 5 ∧ (knownEpoch (sCut false) 5).getLsbD 0 = true ∧ (sCut false).lan.inRun = true ∧
      (sCut false).lan.markA = false ∧ (sCut false).lan.markB = false ∧ inBench (sCut false) = false ∧
      mirrorCon 9000000 ∈ mirrorCons (sCut false) 5 ∧ (mirrorCon 9000000).latched = some mirrorFr ∧ mirrorFr.leaseEpoch = knownEpoch (sCut false) 5 ∧
      mirrorHold mirrorFr = false ∧ leaseOld (sCut false) (cut0 false) = true) ∧
    (cutOf (sCut true) 5 = some (cut0 true) ∧ (cut0 true).host = true ∧ (cut0 true).holder = false ∧ (knownEpoch (sCut true) 5).toNat + 2 < 2 ^ 32 ∧
      leaseTicks (sCut true) (cutNodes (sCut true) 5).2 (cutNodes (sCut true) 5).1 < (mirrorCon 9000000).age) ∧
    (eventsPlaced (sCut true) ∧ mayTake (sCut true) (cut0 true) = false ∧ mayClaim (sCut false) (cut0 false) = false) ∧
    ((∃ k ∈ mirrorCons { sCut true with ksl := { KslSt.reset with cons := [{ mirrorCon 0 with latched := none }] } } 5, k.latched = none) ∧
      leaseTicks (sCut true) (cutNodes (sCut true) 5).2 (cutNodes (sCut true) 5).1 < ((sCut true).tb - (cut0 true).setUp).toNat ∧
      inBench (sCut true) = false ∧ (sCut true).lan.inRun = true) ∧
    ((sCut false).cuts.owns.find? (fun o => o.fid == 5) = some own0 ∧ hasCutting (sCut false) 5 = true ∧ own0.seen = true ∧ own0.expired = false ∧
      holdTime (sCut false) cfg0 5 < ((sCut false).tb - own0.stamp).toNat) := by
  unfold eventsPlaced; decide +kernel

/-! Planting, modes and the network. -/

/-- The plan is being made from configuration c. -/
def sPlan (c : Image) : State := { sHold with cfg := some c, plt := { PltSt.reset with state := 1 } }

theorem wit_PlanDoneTakesOrRejectsPlan :
    (awake (sPlan cfg0) = true ∧ (sPlan cfg0).sys.halt = false ∧ (sPlan cfg0).plt.state = 1 ∧ (sPlan cfg0).sys.hedgeStalled = false ∧
      (∃ p peak, makePlan cfg0 = .ok (p, peak)) ∧ (cfg0.fns.map (fun f => f.fid)).Nodup ∧ (∀ f ∈ cfg0.fns, f.nword ≤ 4096) ∧
      (makePlan cfg0).toOption.map (fun y => y.1.fns.map (fun x => (x.fid, x.host))) = some [(5, cfg0.own)] ∧ cfg0.fns.map (fun f => f.fid) = [5]) ∧
    (∃ e, makePlan { cfg0 with paths := [] } = .error e ∧ e.code < 256) := by
  refine ⟨⟨by decide +kernel, by decide +kernel, by decide +kernel, by decide +kernel, ?_, by decide, by decide, by decide +kernel, by decide⟩, ?_⟩
  · obtain ⟨x, h⟩ := ok_of (x := makePlan cfg0) (by decide +kernel)
    exact ⟨x.1, x.2, h⟩
  · exact ⟨⟨1, 0, 0, some 1⟩, rfl, by decide⟩

theorem wit_PlanDone_joinAndRejoin :
    ({ sHold with plt := { PltSt.reset with state := 2 } } : State).plt.state = 2 ∧
    startStatus { sHold with plt := { PltSt.reset with state := 4, rejoin := true, accepted := true } } = none := by decide +kernel

/-- Node 1 as a tree neighbour, and the plan in JOIN. -/
def sJoin : State := { sHold with plt := { PltSt.reset with state := 2, diam := 2, nbrs := [⟨1, false, none, none, false, false, [], 0, 0, 0⟩] } }

/-- JOIN of node 1 (R284): its serial number, and variant 1 in its identity word. -/
def msgJoin (serial : Nat) : Bytes := [1] ++ beBytes 8 serial ++ beBytes 4 (1 * 2 ^ 8) ++ zeros 35

theorem wit_PeerMessagesJoinAndAgree :
    awake sJoin = true ∧ sJoin.cfg = some cfg0 ∧ (nbrOf sJoin 1).isSome = true ∧ sJoin.plt.state = 2 ∧
    (byteAt (msgJoin 1) 0 = 1 ∧ joinFits sJoin cfg0 1 (msgJoin 1) = true ∧ joinFits sJoin cfg0 1 (msgJoin 2) = false) ∧
    (byteAt (2 :: zeros 47) 0 = 2 ∧ slice (2 :: zeros 47) 1 24 = digestPart sJoin.plt.planDig 0 24 ∧
      slice (2 :: 9 :: zeros 46) 1 24 ≠ digestPart sJoin.plt.planDig 0 24) ∧
    (byteAt (3 :: zeros 47) 0 = 3 ∧ slice (3 :: zeros 47) 1 24 = digestPart sJoin.plt.planDig 24 24 ∧
      slice (3 :: 9 :: zeros 46) 1 24 ≠ digestPart sJoin.plt.planDig 24 24) ∧
    (byteAt (4 :: 6 :: zeros 46) 0 = 4 ∧ byteAt (4 :: 6 :: zeros 46) 1 ≤ 6) ∧
    (({ sRun with plt := { sJoin.plt with state := 4 } } : State).plt.state = 4 ∧ sRun.lan.inRun = true ∧ sRun.lan.pendFault = none) := by
  decide +kernel

/-- A change of mode waits under epoch 1. -/
def sMode : State := { sHold with mode := { ModeSt.reset with pending := [⟨⟨1, 1, 0, 0, 0, 1⟩, false⟩] }, net := { NetSt.reset with syncOk := true } }

/-- An announcement of epoch 1 for second s. -/
def ann0 (s : Nat) : ModeAnn := ⟨1, 1, 0, s, 0, 1⟩

/-- That announcement has arrived, and these changes are pending. -/
def sArr (p : List ModePend) : State := { sMode with mode := { ModeSt.reset with arrived := [ann0 1], pending := p } }

theorem wit_ModeChangesFollowTheirEpoch :
    awake sMode = true ∧ fromNbr sMode 1 = true ∧ eventsPlaced sMode ∧
    (byteAt (0x10 :: 0 :: 1 :: zeros 45) 0 = 0x10 ∧ newerEpoch (parseAnn (0x10 :: 0 :: 1 :: zeros 45)).epoch sMode.mode.epoch = true ∧
      isCut sMode (parseAnn (0x10 :: 0 :: 1 :: zeros 45)).epoch = false ∧ parseAnn (0x10 :: 0 :: 1 :: zeros 45) ∉ sMode.mode.arrived) ∧
    (byteAt (0x12 :: 0 :: 1 :: zeros 45) 0 = 0x12 ∧ isCut sMode (BitVec.ofNat 16 (beAt (0x12 :: 0 :: 1 :: zeros 45) 1 2)) = false) ∧
    byteAt (0x11 :: zeros 47) 0 = 0x11 ∧
    ((sArr []).mode.arrived = [ann0 1] ∧ (sArr []).mode.pending = [] ∧ isCut (sArr []) (ann0 1).epoch = false ∧ ptNow (sArr []) < (ann0 1).instant) ∧
    ((sArr [⟨ann0 2, false⟩]).mode.pending = [⟨ann0 2, false⟩] ∧ ann0 1 ≠ ann0 2 ∧ (ann0 1).epoch = (ann0 2).epoch) ∧
    (sMode.mode.pending = [⟨ann0 0, false⟩] ∧ sMode.net.syncOk = true ∧ sHold.net.syncOk = false ∧ (ann0 0).instant ≤ ptNow sMode ∧
      ptNow sMode < (ann0 1).instant) := by
  unfold eventsPlaced; decide +kernel

theorem wit_PtpClockFollowsMessages :
    awake (sNet 1) = true ∧ (ownAddr (sNet 1)).isSome = true ∧ queuesOk (sNet 1) ∧ carriesKsl (sNet 1) 0 = true ∧ carriesKsl (sNet 1) 1 = true ∧
    gmCapable (sNet 1) = true ∧
    gmCapable { sNet 1 with cfg := some { cfg0 with addrs := [⟨0, 1, false, 0x20, 0x0A000001, 46788⟩] } } = false ∧ 0 ≤ ptAt (sNet 1) ∧
    (hasPort (sNet 1) 1 = true ∧ (sNet 1).net.foreign = [] ∧ portState (sNet 1) 0 ≠ 1 ∧ listens (sNet 1) 0 = false ∧ (sNet 1).net.gm = false) ∧
    portState (sNet 1) 0 = 6 ∧ portState (decideMaster (sNet 1)) 0 = 6 ∧ portState { sNet 1 with net := { (sNet 1).net with ptp0 := 1 } } 0 = 1 := by
  unfold queuesOk; decide +kernel

/-- A better clock than the own one, heard twice on port 1; that port is its SLAVE. -/
def sSlave : State := { sNet 1 with net := { (sNet 1).net with
  foreign := [⟨1, 0x77, 1, ⟨1, 6, 0x20, 0xFFFF, 1, 0x77, 0⟩, [0, 0]⟩], parent := some (1, 0x77, 1) } }

/-- A message from that clock on port 1. -/
def ptpFrom (kind : Nat) (offset : Option Int) : PtpMsg := ⟨1, kind, 0, 0x77, 1, none, offset, 7, 0⟩

theorem wit_PtpClockFollowsMessages_messages :
    (ownAddr sSlave).isSome = true ∧ queuesOk sSlave ∧ ptpForUs sSlave (ptpFrom 0 none) = true ∧ fromMaster (decideMaster sSlave) (ptpFrom 0 none) = true ∧
    fromMaster (decideMaster sSlave) (ptpFrom 0 (some 100)) = true ∧ (ptpFrom 0 (some 100)).offset = some 100 ∧ 0 ≤ ptAt sSlave ∧
    portState (decideMaster sSlave) 1 = 9 ∧ ptpForUs sSlave { ptpFrom 0 none with domain := 9 } = false ∧
    (ptpForUs (sNet 1) (ptpFrom 1 none) = true ∧ fromMaster (decideMaster (sNet 1)) (ptpFrom 1 none) = false ∧
      portState (decideMaster (sNet 1)) (ptpFrom 1 none).port = 6) := by
  unfold queuesOk; decide +kernel

/-- A frame of this length after the tag, from node 9 to node 8, with an EtherType. -/
def eth (ty len : Nat) : EthFrame := ⟨0x88, 0x99, some (5, 0), beBytes 2 ty ++ zeros (len - 2)⟩

theorem wit_NetworkIslandSwitches :
    awake (sNet 1) = true ∧ queuesOk (sNet 1) ∧ hasPort (sNet 1) 0 = true ∧ hasPort (sNet 1) 1 = true ∧ pmodeOf (sNet 1) ≠ 0 ∧ pmodeOf (sNet 0) = 0 ∧
    1522 < wireSize (eth 0x0800 1503) ∧
    (∃ a, ownAddr (sNet 1) = some a ∧ a.ipv4 ≠ 0 ∧ (0x99 : BitVec 48) ≠ a.mac ∧ (0x0A000009 : BitVec 32) ≠ a.ipv4 ∧
      fromOwn a (eth 0x0800 46).src (wireSrcIp (eth 0x0800 46)) = false ∧ (eth 0x0800 46).dst ≠ a.mac ∧
      fromOwn a (eth 0x8808 46).src (wireSrcIp (eth 0x8808 46)) = false ∧ fromOwn a (eth 0x88B5 46).src (wireSrcIp (eth 0x88B5 46)) = false) ∧
    (sNet 1).cfg = some (cfgP 1) ∧ pmodeOf (sNet 1) = 1 ∧ wireSize (eth 0x0800 1502) ≤ 1522 ∧ etherType (eth 0x8808 46) = 0x8808 ∧
    (etherType (eth 0x0800 46) ≠ 0x8808 ∧ etherType (eth 0x0800 46) ≠ 0x88F7 ∧ fastTraffic (cfgP 1) (eth 0x0800 46) = false) ∧
    (fastTraffic (cfgP 1) (eth 0x88B5 46) = true ∧ carriesKsl (sNet 1) 0 = true ∧ carriesKsl (sNet 1) 1 = true) ∧
    (etherType (eth 0x88B5 46) = 0x88B5 ∧ carriesKsl { sNet 1 with net := { (sNet 1).net with speed1 := 1 } } (1 - 0) = false) ∧
    (hasPort { sNet 0 with sys := { (sNet 0).sys with variant := 3 } } 1 = false ∧ eventsPlaced (sNet 0)) ∧
    ((∃ a, ownAddr (sNet 2) = some a ∧ a.pmode = 2) ∧ (sNet 2).sys.variant ≠ 3 ∧ evtReady (sNet 2)) ∧
    (portSpeed (sNet 1) 0 ≠ 0 ∧ egressAt (enqueue (sNet 1) 0 7 (.arp 1 2)) 0 7 = [.arp 1 2] ∧ mayLeave (sNet 1) 0 (.arp 1 2) = true ∧
      ∀ r, r < 8 → 7 < r → egressAt (enqueue (sNet 1) 0 7 (.arp 1 2)) 0 r = []) := by
  unfold queuesOk evtReady eventsPlaced
  and_intros
  all_goals first | exact ⟨_, rfl, by decide +kernel⟩ | decide +kernel

/-- Port 1 is slow and holds a PTP message. -/
def sSlow : State := let s := { sNet 1 with net := { (sNet 1).net with speed1 := 1 } }
  enqueue s 1 7 (ownPtp s ⟨0, 1, true, 0x20, 0x0A000001, 46788⟩ 0)

theorem wit_NetworkIslandSwitches_slow :
    (∀ q, q < 8 → ∀ x ∈ egressAt sSlow 1 q, mayLeave sSlow 1 x = false) ∧ egressAt sSlow 1 7 ≠ [] ∧
    portSpeed { sNet 1 with net := { (sNet 1).net with speed1 := 0 } } 1 = 0 := by decide +kernel

/-! Power, the host island and the registers. -/

/-- A module that enters STANDBY, is in it, or halted. -/
def sPwr (pwr : Nat) (entering wake halt : Bool) : State :=
  { sHold with sys := { sHold.sys with pwr := pwr, entering := entering, wake := wake, halt := halt } }

theorem wit_StandbyAndPowerLoss :
    (busReach sRun ∧ sRun.lan.inRun = true) ∧
    (busReach (sPwr 1 false false false) ∧ (sPwr 1 false false false).lan.inRun = false ∧ (sPwr 1 false false false).plt.state ≠ 1 ∧
      (sPwr 1 false false false).sys.running = 0) ∧
    (busReach (sPwr 1 false false true) ∧ (sPwr 1 false false true).sys.halt = true ∧ (sPwr 1 false false true).sys.pwr ≠ 3) ∧
    (busReach (sPwr 1 true false false) ∧ (sPwr 1 true false false).sys.entering = true ∧ (sPwr 1 true false false).sys.wakeReq = false) ∧
    (busReach (sPwr 3 false false false) ∧ (sPwr 3 false false false).sys.pwr = 3) ∧
    (busReach (sPwr 1 false true false) ∧ (sPwr 1 false true false).sys.wake = true ∧ evtReady (sPwr 1 false true false)) ∧
    (awake sHold = true ∧ sHold.sys.running ≠ 7) ∧ (awake (sStep 7) = true ∧ (sStep 7).sys.running = 7 ∧ (sStep 7).sys.powered = true) ∧
    ({ sHold with sys := { sHold.sys with tempBad := true } } : State).sys.tempBad = true := by
  unfold busReach evtReady eventsPlaced; decide +kernel

/-- Fuse word w holds v. -/
def setFuse (l : List FuseWord) (w : Nat) (v : BitVec 32) : List FuseWord := l.set w ⟨⟨v, v, v⟩, ⟨v, v, v⟩⟩

theorem wit_LifecycleIsHighestMarker :
    markerSet { State.reset with nv := { NvSt.reset with fuse := setFuse NvSt.reset.fuse 194 1 } } (193 + 1) = true ∧
    lifecycleOf { State.reset with nv := { NvSt.reset with fuse := setFuse NvSt.reset.fuse 197 0x80 } } = 4 ∧ lifecycleOf State.reset = 0 ∧
    atStep (sStep 3) 3 ∧ (atStep (sStep 4) 4 ∧ (sStep 4).fus.lcy ≠ 4) ∧ atStep { sStep 4 with fus := { FusSt.reset with lcy := 4 } } 4 := by
  unfold atStep; decide +kernel

/-- HOLD with every ring enabled; the counts of ring r are p and c. -/
def sRing (r : Nat) (p c : BitVec 32) : State := { sHold with
  host := { HostSt.reset with ringEn := 0x7F, rings := (List.replicate 7 RingSt.reset).set r ⟨0x1000, 16, p, c⟩ } }

theorem wit_RingSetUpFollowsRules :
    (islandReach sHold ∧ eventsPlaced sHold ∧ 6 < 7 ∧ sHold.host.rings.length = 7 ∧ ringOn sHold 6 = false ∧ sHold.host.ringEn = 0 ∧
      heldSources sHold = [] ∧ (∀ r, r < 7 → ringSizeOk r ((16 : BitVec 32).toNat % 2 ^ 17) = true ∧ ringSizeOk r ((24 : BitVec 32).toNat % 2 ^ 17) = false) ∧
      (0x40 : BitVec 32).toNat % 64 = 0 ∧ (0x41 : BitVec 32).toNat % 64 ≠ 0) ∧
    (islandReach (sRing 0 0 0) ∧ ringOn (sRing 0 0 0) 6 = true ∧ (sRing 0 0 0).host.ringEn ≠ 0 ∧ (sRing 0 0 0).host.outst = [] ∧
      ({ sRing 0 0 0 with host := { (sRing 0 0 0).host with outst := [⟨0, 1, zeros 64, false, false⟩] } } : State).host.outst ≠ []) ∧
    (dmaOk sHold = true ∧ dmaOk { sHold with host := { HostSt.reset with d3 := true } } = false) := by
  unfold islandReach eventsPlaced; decide +kernel

theorem wit_DoorbellsFollowCredits :
    (islandReach (sRing 0 5 5) ∧ evtReady (sRing 0 5 5) ∧ (sRing 0 5 5).host.rings.length = 7 ∧ ringOn (sRing 0 5 5) 0 = true ∧ hostRing 0 = true ∧
      ((21 : BitVec 32) - (ringAt (sRing 0 5 5) 0).c).toNat ≤ (ringAt (sRing 0 5 5) 0).size ∧
      ((21 : BitVec 32) - (ringAt (sRing 0 5 5) 0).p).toNat ≤ (ringAt (sRing 0 5 5) 0).size ∧
      (ringAt (sRing 0 5 5) 0).size < ((22 : BitVec 32) - (ringAt (sRing 0 5 5) 0).c).toNat) ∧
    (ringOn (sRing 3 5 0) 3 = true ∧ hostRing 3 = false ∧
      ((5 : BitVec 32) - (ringAt (sRing 3 5 0) 3).c).toNat ≤ ((ringAt (sRing 3 5 0) 3).p - (ringAt (sRing 3 5 0) 3).c).toNat ∧
      ((ringAt (sRing 3 5 0) 3).p - (ringAt (sRing 3 5 0) 3).c).toNat < ((6 : BitVec 32) - (ringAt (sRing 3 5 0) 3).c).toNat) ∧
    ringOn sHold 2 = false := by
  unfold islandReach evtReady eventsPlaced; decide +kernel

/-- A command entry (R319): opcode, FLAGS, tag 7, ADDR 0x5000, LEN, operands. -/
def cmd (op flags len : Nat) (opnds : Bytes) : Bytes :=
  [BitVec.ofNat 8 op, BitVec.ofNat 8 flags, 7, 0, 0, 0, 0, 0] ++ leBytes 8 0x5000 ++ leBytes 4 len ++ zeros 4 ++ opnds ++ zeros (40 - opnds.length)

/-- The outstanding command with that entry. -/
def outst (e : Bytes) : Outst := ⟨0, 7, e, false, false⟩

/-- A state in which it is that command's turn. -/
def withCmd (s : State) (e : Bytes) : State := { s with host := { s.host with outst := [outst e] } }

/-- The command's name. -/
def ref : CmdRef := ⟨0, 7⟩

theorem wit_CommandsAreFetchedAndCompleted :
    (awake (sRing 0 6 5) = true ∧ evtReady (sRing 0 6 5) ∧ (sRing 0 6 5).host.rings.length = 7 ∧ mayFetch (sRing 0 6 5) 0 = true ∧
      (cmd 0 0 0 []).length = 64 ∧ (zeros 63).length < 64 ∧
      (sRing 0 6 5).host.outst.any (fun x => x.ring == 0 && x.tag == BitVec.ofNat 16 (leAt (cmd 0 0 0 []) 2 2)) = false ∧
      mayFetch (sRing 0 5 5) 0 = false) ∧
    (mayFetch (withCmd (sRing 0 6 5) (cmd 0 0 0 [])) 0 = true ∧ hedgeOp (byteAt (cmd 0 0 0 []) 0) = false ∧
      (withCmd (sRing 0 6 5) (cmd 0 0 0 [])).host.outst.any (fun x => x.ring == 0 && x.tag == BitVec.ofNat 16 (leAt (cmd 0 0 0 []) 2 2)) = true) ∧
    (dmaOk (sRing 0 0 0) = true ∧ ringOn (sRing 0 0 0) 2 = true ∧
      ({ sRing 0 0 0 with host := { (sRing 0 0 0).host with done := [⟨0, 7, zeros 32, true⟩] } } : State).host.done = [⟨0, 7, zeros 32, true⟩]) ∧
    dmaOk { sHold with host := { HostSt.reset with d3 := true } } = false ∧
    (evtRoom (sRing 0 0 0) = true ∧
      heldSources { sRing 0 0 0 with evt := { EvtSt.reset with held := (List.replicate 256 0).set 250 3 } } = [250]) ∧
    evtRoom sHold = false := by
  unfold evtReady eventsPlaced; decide +kernel

/-- REQ and TUNRX hold an entry each. -/
def sReq : State := { sRun with host := { HostSt.reset with
  ringEn := 0x7F, rings := ((List.replicate 7 RingSt.reset).set 6 ⟨0x1000, 16, 6, 5⟩).set 5 ⟨0x2000, 16, 6, 5⟩ } }

theorem wit_RingEntriesAreTaken :
    awake sReq = true ∧ eventsPlaced sReq ∧ sReq.host.rings.length = 7 ∧ mayConsume sReq 6 = true ∧ mayConsume sReq 5 = true ∧
    sReq.host.slots.length = 256 ∧ sReq.cfg = some cfg0 ∧ sReq.lan.inRun = true ∧
    (byteAt ([1, 3] ++ zeros 14) 0 = 1 ∧ reqSlot sReq (byteAt ([1, 3] ++ zeros 14) 1) = some ⟨4, 0, 0, 3⟩ ∧ leAt ([1, 3] ++ zeros 14) 8 8 ≤ 1 ∧
      reqSlot sReq (byteAt ([1, 4] ++ zeros 14) 1) = none) ∧
    (zeros 15).length < 16 ∧ (zeros 127).length < 128 ∧ ([1, 3] ++ zeros 14).length = 16 ∧ (zeros 128).length = 128 ∧
    byteAt (2 :: zeros 15) 0 = 2 ∧ (byteAt (3 :: zeros 15) 0 ≠ 1 ∧ byteAt (3 :: zeros 15) 0 ≠ 2) ∧
    (mayConsume { sReq with lan := { sReq.lan with inRun := false } } 6 = true) ∧ mayConsume sRun 6 = false ∧
    consWith sReq (parseKsl (slice (zeros 128) 0x10 96)).connId = none := by
  unfold eventsPlaced; decide +kernel

theorem wit_HostPowerAndIslandReset :
    eventsPlaced sReq ∧ sReq.sys.powered = true ∧ awake sReq = true ∧ ringOn sReq 2 = true ∧ sReq.host.done.length ≤ 16 ∧ islandReach sReq ∧
    sReq.host.piEn = false ∧ ({ sReq with host := { sReq.host with piEn := true } } : State).host.piEn = true := by
  unfold eventsPlaced islandReach; decide +kernel

theorem wit_RefusedCommandsEndInOrder :
    (hostRow (.start ref) = some (ref, fun o => o.op == 7, []) ∧ awake (withCmd sHold (cmd 7 0 0 [])) = true ∧
      eventsPlaced (withCmd sHold (cmd 7 0 0 [])) ∧ cmdAt (withCmd sHold (cmd 7 0 0 [])) ref (fun o => o.op == 7) = some (outst (cmd 7 0 0 [])) ∧
      refusal (withCmd sHold (cmd 7 0 0 [])) (outst (cmd 7 0 0 [])) [] = some (5, []) ∧
      cmdAt (withCmd sHold (cmd 7 0 0 [])) ref (fun o => o.op == 0) = none) ∧
    tagBusy { sHold with host := { HostSt.reset with outst := [outst (cmd 1 0 0 []), outst (cmd 0 0 0 [])] } } (outst (cmd 0 0 0 [])) = true ∧
    (tagBusy sHold (outst (cmd 0x14 0 0 [])) = false ∧ 0x13 < (outst (cmd 0x14 0 0 [])).op) ∧
    ((sPwr 1 false false true).sys.halt = true ∧ (outst (cmd 6 0 0 [])).op ∉ [0, 7, 9, 0x0B, 0x0C, 0x0D, 0x0E, 0x0F, 0x10]) ∧
    ((sStep 5).sys.halt = false ∧ (sStep 5).sys.running ≠ 0 ∧ (outst (cmd 6 0 0 [])).op ∉ [0, 9, 0x0B, 0x0C]) ∧
    (gateStatus sHold 6 = none ∧ ownStatus sHold (outst (cmd 6 0 0 [])) [] = some 5) ∧
    (gateStatus sHold 0 = none ∧ ownStatus sHold (outst (cmd 0 1 0 [])) [] = none ∧ reservedBad (outst (cmd 0 1 0 [])) = true) ∧
    (gateStatus { sHold with sys := { sHold.sys with variant := 2 } } 0x12 = none ∧
      reservedBad (outst (cmd 0x12 0 32 [1])) = false ∧ opndBad { sHold with sys := { sHold.sys with variant := 2 } } (outst (cmd 0x12 0 32 [1])) = false ∧
      unitAbsent { sHold with sys := { sHold.sys with variant := 2 } } (outst (cmd 0x12 0 32 [1])) = true) ∧
    (opndBad sHold (outst (cmd 0x0E 0 0 [0])) = false ∧ unitAbsent sHold (outst (cmd 0x0E 0 0 [0])) = false ∧ hedgeOp (outst (cmd 0x0E 0 0 [0])).op = true ∧
      ownStatus sHold (outst (cmd 0x0E 0 0 [0])) [] = none ∧ reservedBad (outst (cmd 0x0E 0 0 [0])) = false ∧
      ({ sHold with sys := { sHold.sys with hedgeStalled := true } } : State).sys.hedgeStalled = true) := by
  refine ⟨⟨rfl, ?_⟩, by decide +kernel⟩
  unfold eventsPlaced; decide +kernel

theorem wit_RefusedCommandsEndInOrder_response :
    hostRow (.response ref []) = some (ref, authRow 1, []) ∧
    (awake (withCmd (sStep 5) (cmd 0x10 0 160 [1])) = true ∧ eventsPlaced (withCmd (sStep 5) (cmd 0x10 0 160 [1])) ∧
      cmdAt (withCmd (sStep 5) (cmd 0x10 0 160 [1])) ref (authRow 1) = some (outst (cmd 0x10 0 160 [1])) ∧
      refusal (withCmd (sStep 5) (cmd 0x10 0 160 [1])) (outst (cmd 0x10 0 160 [1])) [] = some (5, []) ∧
      (outst (cmd 0x10 0 160 [1])).opnd 0 = 1 ∧ (sStep 5).evt.cnt.length = 256) := by
  refine ⟨rfl, ?_⟩
  unfold eventsPlaced; decide +kernel

/-- A host command's row may start: its conditions one by one. -/
theorem starts_of {i : Instr} {s : State} {o : Outst} (c : CmdRef) (p : Outst → Bool) (buf : Bytes) (h : hostRow i = some (c, p, buf))
    (g : awake s = true ∧ s.evt.raised = [] ∧ cmdAt s c p = some o ∧ refusal s o buf = none) : Starts i s o :=
  ⟨g.1, g.2.1, c, p, buf, h, g.2.2.1, g.2.2.2⟩

/-- The same for a row of an entry that is the only outstanding one. -/
theorem starts {i : Instr} {s : State} (e : Bytes) (p : Outst → Bool) (buf : Bytes) (h : hostRow i = some (ref, p, buf))
    (g : awake (withCmd s e) = true ∧ s.evt.raised = [] ∧ cmdAt (withCmd s e) ref p = some (outst e) ∧
      refusal (withCmd s e) (outst e) buf = none) : Starts i (withCmd s e) (outst e) := starts_of ref p buf h g

/-- HOLD with an accepted plan: START may run. -/
def sReady : State := { sHold with plt := { PltSt.reset with state := 4, accepted := true, plan := some ⟨[], [], 5⟩ } }

theorem wit_OrderlyCommandsEnd :
    Starts (.nop ref) (withCmd sHold (cmd 0 0 0 [])) (outst (cmd 0 0 0 [])) ∧
    (awake (withCmd sHold (cmd 0x14 0 0 [])) = true ∧
      cmdAt (withCmd sHold (cmd 0x14 0 0 [])) ref (fun o => !opcodeKnown o.op) = some (outst (cmd 0x14 0 0 [])) ∧
      tagBusy (withCmd sHold (cmd 0x14 0 0 [])) (outst (cmd 0x14 0 0 [])) = false) ∧
    Starts (.tunnelCfg ref) (withCmd sHold (cmd 0x11 0 0 [1])) (outst (cmd 0x11 0 0 [1])) ∧
    Starts (.start ref) (withCmd sReady (cmd 7 0 0 [])) (outst (cmd 7 0 0 [])) ∧
    (Starts (.toHold ref) (withCmd sRun (cmd 8 0 0 [])) (outst (cmd 8 0 0 [])) ∧ sRun.lan.inRun = true ∧ sRun.lan.pendFault = none) ∧
    (Starts (.readDiag ref) (withCmd sHold (cmd 9 0 64 [])) (outst (cmd 9 0 64 [])) ∧ sHold.lan.timerOn = true) ∧
    (Starts (.readDiag ref) (withCmd sBase (cmd 9 0 64 [])) (outst (cmd 9 0 64 [])) ∧ sBase.lan.timerOn = false ∧ dmaOk sBase = true ∧
      (diagSnapshot (withCmd sBase (cmd 9 0 64 [])) 0).length ≤ 64) ∧
    Starts (.clearStd ref) (withCmd sHold (cmd 0x0A 0 0 [0, 0, 0x10])) (outst (cmd 0x0A 0 0 [0, 0, 0x10])) ∧
    Starts (.abort ref) (withCmd sHold (cmd 0x13 0 0 [7, 0, 0])) (outst (cmd 0x13 0 0 [7, 0, 0])) ∧
    Starts (.abort ref) (withCmd sHold (cmd 0x13 0 0 [8, 0, 1])) (outst (cmd 0x13 0 0 [8, 0, 1])) :=
  ⟨starts _ _ _ rfl (by decide +kernel), by decide +kernel, starts _ _ _ rfl (by decide +kernel), starts _ _ _ rfl (by decide +kernel),
    ⟨starts _ _ _ rfl (by decide +kernel), by decide +kernel⟩, ⟨starts _ _ _ rfl (by decide +kernel), by decide +kernel⟩,
    ⟨starts _ _ _ rfl (by decide +kernel), by decide +kernel⟩, starts _ _ _ rfl (by decide +kernel), starts _ _ _ rfl (by decide +kernel),
    starts _ _ _ rfl (by decide +kernel)⟩

/-- An ABORT behind the command it names, which is a READ_DIAG that waits, or one that has ended. -/
def sAbort (ended : Bool) : State := { sHold with
  host := { HostSt.reset with outst := [⟨1, 9, cmd 9 0 64 [], ended, !ended⟩, outst (cmd 0x13 0 0 [9, 0, 1])] } }

theorem wit_OrderlyCommandsEnd_abort :
    ∀ e, Starts (.abort ref) (sAbort e) (outst (cmd 0x13 0 0 [9, 0, 1])) ∧
      ((sAbort e).host.outst.takeWhile (fun x => !sameCmd (outst (cmd 0x13 0 0 [9, 0, 1])) x)).find?
        (fun x => x.ring == (outst (cmd 0x13 0 0 [9, 0, 1])).opnd 2 && x.tag == BitVec.ofNat 16 ((outst (cmd 0x13 0 0 [9, 0, 1])).opndLe 0 2)) =
        some ⟨1, 9, cmd 9 0 64 [], e, !e⟩ ∧ commitsAtFetch ⟨1, 9, cmd 9 0 64 [], e, !e⟩ = false := by
  intro e
  cases e <;> exact ⟨starts_of ref _ _ rfl (by decide +kernel), by decide +kernel, by decide⟩

/-! Keys, images and records. The signatures are of brainpoolP384r1 over SHA-384 (R75, R387). -/

/-- The public keys of owner slots 0 and 1. -/
def ownKey (i : Nat) : Bytes := 4 :: (if i == 0 then
    (beBytes 48 0x850DBDFB39A203EA2DF5B3F5167DCCA933E25667493158C8923A86FB3A9A5EF7DA56452C95080FA0F054DB64667DEBC0 ++
    beBytes 48 0x0550EBFD6BE498F161FD8EBC8800138B0A2E2FAC9B0E8ACA5E4C06942BAB64238FB341D11614A082FC3BE6B530938B11)
  else
    (beBytes 48 0x48BF6FCD5B8A216A9DC91DE9129270A029AFC0BC031B5F71DBEA7FB3BC8E32B4F5106F6ED77586359DC4EB7871634692 ++
    beBytes 48 0x64913D3273239274C96ECC03638A272E37ED8CEEF4B63581494C2FE31A9B4A5EF3432EFF3BA808BC00425BE9F6BB5CC9))

/-- The OKEY region with both keys, its check word and its lock (R375, R376, R386). -/
def okeyFuse : List FuseWord :=
  let words := digestWords (sha384 (ownKey 0)) ++ digestWords (sha384 (ownKey 1))
  let l := words.zipIdx.foldl (fun l x => setFuse l (128 + x.2) x.1) NvSt.reset.fuse
  setFuse (setFuse l 176 (crc32c (3 :: words.flatMap (fun w => bytesOf w 4) ++ zeros 96))) 205 0xFFFFFFFF

/-- A module in lifecycle k with those keys. -/
def sKeys (k : Nat) : State := { sHold with
  nv := { NvSt.reset with fuse := okeyFuse, keys := [none, none, some (ownKey 0), some (ownKey 1), none, none] },
  fus := { FusSt.reset with sensed := true, lcy := k } }

/-- A section table entry (R74). -/
def sectEntry (type off len count : Nat) : Bytes := leBytes 2 type ++ zeros 2 ++ leBytes 4 off ++ leBytes 4 len ++ leBytes 4 count

/-- The smallest image (R73, R74, R75, R271, R272): one node, no functions; signed for owner slot 0. -/
def image0 : Bytes :=
  leBytes 4 0x46435853 ++ leBytes 2 1 ++ leBytes 2 0x80 ++ leBytes 4 512 ++ leBytes 2 5 ++ zeros 2 ++ leBytes 2 0x972 ++ zeros 2 ++ leBytes 4 7
    ++ leBytes 4 1 ++ zeros 100
    ++ sectEntry 1 0xD0 32 1 ++ sectEntry 2 0xF0 32 1 ++ sectEntry 3 0x110 0 0 ++ sectEntry 5 0x110 0 0 ++ sectEntry 6 0x110 0 0
    ++ leBytes 4 7 ++ leBytes 2 1 ++ zeros 26 ++ leBytes 2 0 ++ leBytes 1 1 ++ zeros 9 ++ leBytes 2 100 ++ zeros 18 ++ zeros 112
    ++ leBytes 4 0x47535853 ++ zeros 4 ++
    (beBytes 48 0x80D348BC5A4807319EEE3CA344681BD91D274448859AD91C38A55AADA6844F8B137AC6C4777906867595FEAC6339FDF7 ++
    beBytes 48 0x05975D89898BA23E5049DCC74F4F969A11563EA6C466E0F558DA286D33E056D87D0B40930693399E147ADE94A67CB12A) ++ zeros 24

set_option maxRecDepth 100000 in
theorem wit_image : hasOk (checkImage (checkEnv (sKeys 2)) image0 512) = true := by decide +kernel

theorem wit_ConfigurationCommandsRun :
    (Starts (.loadCfg ref image0 image0) (withCmd (sKeys 2) (cmd 1 0 512 [0])) (outst (cmd 1 0 512 [0])) ∧ (sKeys 2).nv.slots.length = 2 ∧
      ((sKeys 2).nv.slots.getD 0 .empty).isActive = false ∧ dmaOk (sKeys 2) = true ∧ (∃ j, checkImage (checkEnv (sKeys 2)) [] 512 = .error j) ∧
      (∃ r, checkImage (checkEnv (sKeys 2)) image0 512 = .ok r)) ∧
    (SlotCfg.active []).isActive = true ∧
    (Starts (.verifyCfg ref) (withCmd { sKeys 2 with nv := { (sKeys 2).nv with slots := [.loaded [], .empty] } } (cmd 2 0 0 [0])) (outst (cmd 2 0 0 [0])) ∧
      ∃ j, checkSlot { sKeys 2 with nv := { (sKeys 2).nv with slots := [.loaded [], .empty] } } 0 = .error j) ∧
    (Starts (.activateCfg ref) (withCmd { sKeys 2 with nv := { (sKeys 2).nv with slots := [.empty, .loaded image0] } } (cmd 3 0 0 [1]))
        (outst (cmd 3 0 0 [1])) ∧ (SlotCfg.loaded image0).bytes = image0 ∧ image0.length = 512) := by
  refine ⟨⟨starts _ _ _ rfl (by decide +kernel), by decide +kernel, by decide +kernel, by decide +kernel, error_of (by decide +kernel), ok_of wit_image⟩,
    rfl, ⟨starts _ _ _ rfl (by decide +kernel), error_of (by decide +kernel)⟩, ⟨starts _ _ _ rfl (by decide +kernel), rfl, by decide +kernel⟩⟩

/-- A module with those keys in which DMA is stopped. -/
def sStopped : State := { sKeys 2 with host := { HostSt.reset with d3 := true } }

theorem wit_ConfigurationCommandsRun_reads :
    (Starts (.loadCfg ref [] []) (withCmd sStopped (cmd 1 0 512 [0])) (outst (cmd 1 0 512 [0])) ∧ dmaOk sStopped = false ∧
      (sStopped.nv.slots.getD 0 .empty).isActive = false) ∧
    passFails (sKeys 2) image0 512 = false ∧ passFails (sKeys 2) (zeros 512) 512 = false ∧
    (image0.length ≤ (zeros 512).length ∧ (zeros 512).take image0.length ≠ image0) ∧ ([] : Bytes).length < image0.length ∧
    (Starts (.loadCfg ref image0 image0) (withCmd { sKeys 2 with nv := { (sKeys 2).nv with slots := [.active [], .empty] } } (cmd 1 0 512 [0]))
      (outst (cmd 1 0 512 [0]))) :=
  ⟨⟨starts _ _ _ rfl (by decide +kernel), by decide +kernel⟩, by decide +kernel, by decide +kernel, by decide +kernel, by decide +kernel,
    starts _ _ _ rfl (by decide +kernel)⟩

/-- Slot 0 holds the image. -/
def sSlot : State := { sKeys 2 with nv := { (sKeys 2).nv with slots := [.loaded image0, .empty] } }

theorem wit_ConfigurationCommandsRun_slot : (∃ img, checkSlot sSlot 0 = .ok img) ∧
    Starts (.verifyCfg ref) (withCmd sSlot (cmd 2 0 0 [0])) (outst (cmd 2 0 0 [0])) ∧
    Starts (.activateCfg ref) (withCmd sSlot (cmd 3 0 0 [0])) (outst (cmd 3 0 0 [0])) :=
  have ⟨x, h⟩ := ok_of wit_image
  have n : image0.length = 512 := by decide +kernel
  have e : checkSlot sSlot 0 = (checkImage (checkEnv (sKeys 2)) image0 image0.length).map (fun x => x.1) := rfl
  ⟨⟨x.1, by rw [e, n, h]; rfl⟩, starts _ _ _ rfl (by decide +kernel), starts _ _ _ rfl (by decide +kernel)⟩

/-- An acceptance record of digests of zeros, signed for owner slot 0 (R286). -/
def record0 : Bytes := leBytes 4 0x43415853 ++ zeros 4 ++ zeros 144 ++
    (beBytes 48 0x430DF80208B00F23D3BD33DDE34284DE5F2FCF55DE419D6D61D5101330BEDEEF954BEC6B73F0A7AEB230BFA091E6FF1E ++
    beBytes 48 0x77F1A325A5D7F80D07668F4FFFF985C82D3CC3C2A7487E618AE15CF12919D5A80894299F9AF42F7F969A253FC18E307D) ++ zeros 8

/-- AWAIT_ACCEPT with a plan. -/
def sAwait : State := { sKeys 2 with plt := { PltSt.reset with state := 3, plan := some ⟨[], [], 0⟩ } }

set_option maxRecDepth 100000 in
theorem wit_record : recordStatus sAwait (record0.take 256) = 0 := by decide +kernel

/-- A neighbour that has sent all fragments of the record but the last. -/
def nbrFrags : NbrSt := ⟨1, false, none, none, false, false, (List.range 6).map (fun i => (i, slice record0 (40 * i) 40)), 0, 0, 0⟩

/-- The last fragment (R275). -/
def lastFrag : Bytes := [4, 6] ++ slice record0 240 16 ++ zeros 30

theorem wit_PeerMessagesJoinAndAgree_record :
    nbrOf { sAwait with plt := { sAwait.plt with nbrs := [nbrFrags] } } 1 = some nbrFrags ∧ byteAt lastFrag 0 = 4 ∧ byteAt lastFrag 1 ≤ 6 ∧
    sAwait.plt.state = 3 ∧ sAwait.plt.plan = some ⟨[], [], 0⟩ ∧
    joinFrags ((byteAt lastFrag 1, slice lastFrag 2 40) :: nbrFrags.frags.filter (fun x => x.1 != byteAt lastFrag 1)) = some (record0.take 256) := by
  decide +kernel

/-- Start-up is at step 10 and slot 0 is ACTIVE with the image. -/
def sBoot : State := { sKeys 2 with
  nv := { (sKeys 2).nv with slots := [.active image0, .empty] }, sys := { (sStep 10).sys with convA := true, convB := true }, cfg := none, lan := LanSt.reset }

set_option maxRecDepth 100000 in
theorem wit_StartupStepsGoOn_accepted :
    atStep sBoot 10 ∧ sBoot.fus.alarmOpen = false ∧ activeSlot sBoot = some image0 ∧ obs.ok = true ∧ obsBad.ok = false ∧
    ∃ x, checkImage (checkEnv sBoot) image0 image0.length = .ok x := by
  refine ⟨?_, by decide +kernel, by decide +kernel, rfl, rfl, ok_of (by decide +kernel)⟩
  unfold atStep; decide +kernel

/-- A configuration of one node without functions, whose plan is being made at step 11. -/
def sAlone : State := { sKeys 2 with
  cfg := some { cfg0 with nodes := [nodeR 0], paths := [], fns := [] }, plt := { PltSt.reset with state := 1 }, sys := { sHold.sys with step := 11 } }

/-- An acceptance record of that plan, signed for owner slot 0 (R286). -/
def record1 : Bytes := leBytes 4 0x43415853 ++ zeros 4 ++ beBytes 48 5 ++
    beBytes 48 0x65F5779BDEAD489DCD237802E2B0D0E76383D71BFDCE23A32CEC49D3B43D61AC0BF8D22D79E0103B26ADDCEE16A23ECF ++
    beBytes 48 0x23BD174639CB06959C94A89110F8D3404D11DF6764FC3F68026E44E2F6A87D8854E55355FC353F25DEDC51CA21ED9A8B ++
    (beBytes 48 0x5431371A28F9641603C0BEF7FF6ED52A8E315B83633AA2A8BB0DEAA5B7F52E3CA83428DDD6E338B111677946EE971FA7 ++
    beBytes 48 0x3BA5D210DE66D925987F6D9BE72122F114976ADCA7F9D02EC7F329BD75F8791D1E063E30A603F125BCDD0D062AF9387B) ++ zeros 8

theorem wit_StartupStepsGoOn_plan :
    awake sAlone = true ∧ sAlone.plt.state = 1 ∧ sAlone.sys.halt = false ∧ sAlone.sys.hedgeStalled = false ∧ sAlone.plt.nbrs = [] ∧
    (∃ c, sAlone.cfg = some c ∧ hasOk (makePlan c) = true ∧ (c.fns.map (fun f => f.fid)).Nodup ∧ (∀ f ∈ c.fns, f.nword ≤ 4096) ∧ treeDiam c = 0 ∧
      slowPath sAlone c = none) ∧ sAlone.nv.accRec = none ∧ recordStatus (planDoneEffect 0 [] sAlone) (zeros 256) ≠ 0 := by
  refine ⟨by decide +kernel, rfl, rfl, rfl, rfl, ⟨_, rfl, by decide +kernel⟩, rfl, by decide +kernel⟩

set_option maxRecDepth 100000 in
theorem wit_StartupStepsGoOn_record :
    recordStatus (planDoneEffect 0 [] { sAlone with nv := { sAlone.nv with accRec := some record1 } }) record1 = 0 := by decide +kernel

theorem wit_PlanAndModeCommandsRun :
    (Starts (.readPlan ref) (withCmd sReady (cmd 4 0 64 [])) (outst (cmd 4 0 64 [])) ∧ sReady.plt.plan = some ⟨[], [], 5⟩ ∧ sReady.cfg = some cfg0 ∧
      planBytes cfg0.nodes.length ⟨[], [], 5⟩ ≠ [] ∧ dmaOk sReady = true) ∧
    (Starts (.acceptPlan ref record0) (withCmd sAwait (cmd 5 0 256 [])) (outst (cmd 5 0 256 [])) ∧ dmaOk sAwait = true ∧ sAwait.plt.state = 3 ∧
      sAwait.plt.plan = some ⟨[], [], 0⟩ ∧ sAwait.cfg = some cfg0 ∧ recordStatus sAwait (zeros 256) ≠ 0) ∧
    (Starts (.modeReq ref) (withCmd sReady (cmd 6 0 0 [1])) (outst (cmd 6 0 0 [1])) ∧
      cfg0.mode.any (fun m => 1 < m.nmode && m.allow.getLsbD (8 * sReady.mode.applied + 1)) = true ∧
      cfg0.mode.any (fun m => 2 < m.nmode && m.allow.getLsbD (8 * sReady.mode.applied + 2)) = false ∧
      sReady.net.syncOk = false ∧ sMode.net.syncOk = true ∧ sMode.mode.pending ≠ [] ∧ sReady.mode.pending = [] ∧ sReady.mode.arrived = []) :=
  ⟨⟨starts _ _ _ rfl (by decide +kernel), by decide +kernel⟩, ⟨starts _ _ _ rfl (by decide +kernel), by decide +kernel⟩,
    ⟨starts _ _ _ rfl (by decide +kernel), by decide +kernel⟩⟩

theorem wit_ReadingCommandsAnswer_stopped :
    Starts (.readLog ref) (withCmd sStopped (cmd 0x0B 0 32 (leBytes 4 0 ++ leBytes 4 1))) (outst (cmd 0x0B 0 32 (leBytes 4 0 ++ leBytes 4 1))) ∧
    dmaOk sStopped = false ∧ sStopped.nv.log = [] ∧
    Starts (.smuRead ref) (withCmd sStopped (cmd 0x12 0 32 [2])) (outst (cmd 0x12 0 32 [2])) ∧
    Starts (.attest ref) (withCmd { sStopped with fus := { FusSt.reset with sensed := true, idUsable := true } } (cmd 0x0C 0 512 []))
      (outst (cmd 0x0C 0 512 [])) :=
  ⟨starts _ _ _ rfl (by decide +kernel), by decide +kernel, rfl, starts _ _ _ rfl (by decide +kernel), starts _ _ _ rfl (by decide +kernel)⟩

/-- DMA is stopped and the log holds a record. -/
def sLogged : State := { sStopped with nv := { sStopped.nv with log := [(0, zeros 32)] } }

theorem wit_ReadingCommandsAnswer_record :
    Starts (.readLog ref) (withCmd sLogged (cmd 0x0B 0 32 (leBytes 4 0 ++ leBytes 4 1))) (outst (cmd 0x0B 0 32 (leBytes 4 0 ++ leBytes 4 1))) ∧
    dmaOk sLogged = false ∧
    (sLogged.nv.log.filter (fun r => (r.1 + 2 ^ 32 - (outst (cmd 0x0B 0 32 (leBytes 4 0 ++ leBytes 4 1))).opndLe 0 4) % 2 ^ 32 <
      (outst (cmd 0x0B 0 32 (leBytes 4 0 ++ leBytes 4 1))).opndLe 4 4)).flatMap (fun r => r.2) = zeros 32 :=
  ⟨starts _ _ _ rfl (by decide +kernel), by decide +kernel, by decide +kernel⟩

theorem wit_ReadingCommandsAnswer :
    (Starts (.readLog ref) (withCmd sHold (cmd 0x0B 0 32 (leBytes 4 0 ++ leBytes 4 1))) (outst (cmd 0x0B 0 32 (leBytes 4 0 ++ leBytes 4 1))) ∧
      dmaOk sHold = true) ∧
    (Starts (.smuRead ref) (withCmd sHold (cmd 0x12 0 32 [2])) (outst (cmd 0x12 0 32 [2])) ∧ axesOf 2 ≠ []) ∧
    (Starts (.attest ref) (withCmd { sHold with fus := { FusSt.reset with sensed := true, idUsable := true } } (cmd 0x0C 0 512 []))
      (outst (cmd 0x0C 0 512 [])) ∧ sHold.fus.idUsable = false) :=
  ⟨⟨starts _ _ _ rfl (by decide +kernel), by decide +kernel⟩, ⟨starts _ _ _ rfl (by decide +kernel), by decide +kernel⟩,
    ⟨starts _ _ _ rfl (by decide +kernel), by decide +kernel⟩⟩

/-- An authorisation record of a purpose for target 0, signed for owner slot 1, lifecycle DEPLOYED (R388). -/
def auth0 (purpose : Nat) : Bytes := leBytes 4 0x41465853 ++ leBytes 1 purpose ++ [0, 1, 0] ++ zeros 8 ++ [2] ++ zeros 15 ++ (if purpose == 2 then
    (beBytes 48 0x80D348BC5A4807319EEE3CA344681BD91D274448859AD91C38A55AADA6844F8B137AC6C4777906867595FEAC6339FDF7 ++
    beBytes 48 0x5FA422F7C25BEE7BE2BE9614AEAC588886627357181F003BF1D08DAD5338B16D2A29DDDE2AAEE7EF1F2E328EAA5CCA7C)
  else
    (beBytes 48 0x430DF80208B00F23D3BD33DDE34284DE5F2FCF55DE419D6D61D5101330BEDEEF954BEC6B73F0A7AEB230BFA091E6FF1E ++
    beBytes 48 0x1CA235B04946C6EAE471E1E9FFB99DB302366E982FF7987BE9FF880F6FA4564DEEDE00CF0003ED4C4189F5EAED9190E1))

set_option maxRecDepth 100000 in
theorem wit_authRevoke : authOk (sKeys 2) (auth0 2) 2 0 = true ∧ inUse (sKeys 2) 0 = false ∧ otherUsable (sKeys 2) 2 = true := by decide +kernel

set_option maxRecDepth 100000 in
theorem wit_authReturn : authOk (sKeys 2) (auth0 3) 3 0 = true ∧ fuseVal (sKeys 2) 196 ≠ 0xFFFFFFFF := by decide +kernel

/-- A module of lifecycle k whose fuses are these. -/
def sFuse (k : Nat) (l : List FuseWord) : State := { sHold with nv := { NvSt.reset with fuse := l }, fus := { FusSt.reset with sensed := true, lcy := k } }

/-- Every region is locked. -/
def lockedFuse : List FuseWord := (List.range 8).foldl (fun l r => setFuse l (202 + r) 0xFFFFFFFF) NvSt.reset.fuse

theorem wit_FuseCommandsBlow_program :
    (sFuse 0 NvSt.reset.fuse).nv.fuse.length = 512 ∧ (sFuse 0 NvSt.reset.fuse).nv.keys.length = 6 ∧ dmaOk (sFuse 0 NvSt.reset.fuse) = true ∧
    (Starts (.fuseProgProgram ref (zeros 8) none []) (withCmd (sFuse 0 NvSt.reset.fuse) (cmd 0x0D 0 8 [0, 0, 2, 0, 0])) (outst (cmd 0x0D 0 8 [0, 0, 2, 0, 0])) ∧
      (∀ i, i < 2 → fuseVal (sFuse 0 NvSt.reset.fuse) i &&& ~~~ BitVec.ofNat 32 (leAt (zeros 8) (4 * i) 4) = 0) ∧
      (∀ i, i < 2 → programmable (sFuse 0 NvSt.reset.fuse) i = true)) ∧
    (Starts (.fuseProgProgram ref (zeros 8) none []) (withCmd (sFuse 0 NvSt.reset.fuse) (cmd 0x0D 0 8 [31, 1, 2, 0, 0])) (outst (cmd 0x0D 0 8 [31, 1, 2, 0, 0])) ∧
      programmable (sFuse 0 NvSt.reset.fuse) 287 = false) ∧
    (Starts (.fuseProgRepair ref none []) (withCmd (sFuse 0 NvSt.reset.fuse) (cmd 0x0D 0 0 [214, 0, 2, 0, 1])) (outst (cmd 0x0D 0 0 [214, 0, 2, 0, 1])) ∧
      214 + 2 ≤ 216) :=
  ⟨by decide +kernel, by decide +kernel, by decide +kernel, ⟨starts _ _ _ rfl (by decide +kernel), by decide +kernel⟩,
    ⟨starts _ _ _ rfl (by decide +kernel), by decide +kernel⟩, ⟨starts _ _ _ rfl (by decide +kernel), by decide +kernel⟩⟩

theorem wit_FuseCommandsBlow_key :
    (Starts (.fuseProgKey ref (ownKey 0) none []) (withCmd (sFuse 1 NvSt.reset.fuse) (cmd 0x0D 0 97 [128, 0, 12, 0, 2])) (outst (cmd 0x0D 0 97 [128, 0, 12, 0, 2])) ∧
      byteAt (ownKey 0) 0 = 4 ∧ slotOfWord 128 = 2 ∧ lockSet (sFuse 1 NvSt.reset.fuse) 3 = false ∧ (sFuse 1 NvSt.reset.fuse).fus.lcy ≤ 1 ∧
      (∀ i, i < 12 → fuseVal (sFuse 1 NvSt.reset.fuse) (keyWord 2 + i) &&& ~~~ (digestWords (sha384 ((ownKey 0).take 97))).getD i 0 = 0)) ∧
    (Starts (.fuseProgKey ref (ownKey 0) none []) (withCmd (sFuse 1 lockedFuse) (cmd 0x0D 0 97 [128, 0, 12, 0, 2])) (outst (cmd 0x0D 0 97 [128, 0, 12, 0, 2])) ∧
      keyHash (sFuse 1 lockedFuse) 2 ≠ digestWords (sha384 ((ownKey 0).take 97)) ∧ lockSet (sFuse 1 lockedFuse) 3 = true) :=
  ⟨⟨starts _ _ _ rfl (by decide +kernel), by decide +kernel⟩, ⟨starts _ _ _ rfl (by decide +kernel), by decide +kernel⟩⟩

theorem wit_FuseCommandsBlow_marker :
    (Starts (.fuseProgMarker ref (auth0 2) none []) (withCmd (sKeys 2) (cmd 0x0D 0 128 [177, 0, 1, 0, 3])) (outst (cmd 0x0D 0 128 [177, 0, 1, 0, 3])) ∧
      authOk (sKeys 2) (zeros 128) 2 0 = false) ∧
    (Starts (.fuseLock ref none []) (withCmd (sFuse 0 lockedFuse) (cmd 0x0E 0 0 [0])) (outst (cmd 0x0E 0 0 [0])) ∧ lockSet (sFuse 0 lockedFuse) 0 = true) ∧
    (Starts (.fuseLock ref none []) (withCmd (sFuse 0 NvSt.reset.fuse) (cmd 0x0E 1 0 [0])) (outst (cmd 0x0E 1 0 [0])) ∧
      lockSet (sFuse 0 NvSt.reset.fuse) 0 = false ∧ lockableIn 0 0 = true ∧ (outst (cmd 0x0E 1 0 [0])).flags = 1) ∧
    (Starts (.fuseLock ref none []) (withCmd (sFuse 0 NvSt.reset.fuse) (cmd 0x0E 0 0 [0])) (outst (cmd 0x0E 0 0 [0])) ∧
      regionState (sFuse 0 NvSt.reset.fuse) 0 ≠ 2 ∧ (outst (cmd 0x0E 0 0 [0])).flags = 0) ∧
    regionState (sFuse 0 (setFuse NvSt.reset.fuse 201 (crc32c (5 :: zeros 4)))) 5 = 2 ∧
    (Starts (.fuseLock ref none []) (withCmd (sFuse 3 NvSt.reset.fuse) (cmd 0x0E 1 0 [1])) (outst (cmd 0x0E 1 0 [1])) ∧
      (sFuse 3 NvSt.reset.fuse).fus.lcy = 3 ∧ lockSet (sFuse 3 NvSt.reset.fuse) 1 = false) := by
  set_option maxRecDepth 100000 in
  exact ⟨⟨starts _ _ _ rfl (by decide +kernel), by decide +kernel⟩, ⟨starts _ _ _ rfl (by decide +kernel), by decide +kernel⟩,
    ⟨starts _ _ _ rfl (by decide +kernel), by decide +kernel⟩, ⟨starts _ _ _ rfl (by decide +kernel), by decide +kernel⟩, by decide +kernel,
    ⟨starts _ _ _ rfl (by decide +kernel), by decide +kernel⟩⟩

/-- COMMISSION with OKEY and the policy region sealed. -/
def sSealed : State := { sKeys 1 with nv := { (sKeys 1).nv with fuse := setFuse (setFuse okeyFuse 201 (crc32c (5 :: zeros 4))) 207 0xFFFFFFFF } }

set_option maxRecDepth 100000 in
theorem wit_FuseCommandsBlow_advance :
    (Starts (.lcyAdvance ref [] none []) (withCmd (sFuse 0 NvSt.reset.fuse) (cmd 0x0F 0 0 [1])) (outst (cmd 0x0F 0 0 [1])) ∧
      advanceOk (sFuse 0 NvSt.reset.fuse) 1 = false) ∧
    (Starts (.lcyAdvance ref [] none []) (withCmd sSealed (cmd 0x0F 0 0 [2])) (outst (cmd 0x0F 0 0 [2])) ∧ advanceOk sSealed 2 = true) ∧
    Starts (.lcyAdvance ref (auth0 3) none []) (withCmd (sKeys 2) (cmd 0x0F 0 128 [3])) (outst (cmd 0x0F 0 128 [3])) :=
  ⟨⟨starts _ _ _ rfl (by decide +kernel), by decide +kernel⟩, ⟨starts _ _ _ rfl (by decide +kernel), by decide +kernel⟩,
    starts _ _ _ rfl (by decide +kernel)⟩

theorem wit_FuseCommandsBlow_scrapped :
    (sFuse 4 NvSt.reset.fuse).fus.lcy = 4 ∧ (sFuse 2 NvSt.reset.fuse).fus.lcy ≠ 4 ∧
    Starts (.fuseProgProgram ref (zeros 8) none []) (withCmd (sFuse 4 NvSt.reset.fuse) (cmd 0x0D 0 8 [0, 0, 2, 0, 0])) (outst (cmd 0x0D 0 8 [0, 0, 2, 0, 0])) ∧
    Starts (.fuseProgRepair ref none []) (withCmd (sFuse 4 NvSt.reset.fuse) (cmd 0x0D 0 0 [214, 0, 2, 0, 1])) (outst (cmd 0x0D 0 0 [214, 0, 2, 0, 1])) ∧
    Starts (.fuseProgKey ref (ownKey 0) none []) (withCmd (sFuse 4 NvSt.reset.fuse) (cmd 0x0D 0 97 [128, 0, 12, 0, 2]))
      (outst (cmd 0x0D 0 97 [128, 0, 12, 0, 2])) ∧
    Starts (.fuseProgMarker ref (zeros 128) none []) (withCmd (sFuse 4 NvSt.reset.fuse) (cmd 0x0D 0 128 [177, 0, 1, 0, 3]))
      (outst (cmd 0x0D 0 128 [177, 0, 1, 0, 3])) ∧
    Starts (.fuseLock ref none []) (withCmd (sFuse 4 NvSt.reset.fuse) (cmd 0x0E 0 0 [0])) (outst (cmd 0x0E 0 0 [0])) ∧
    Starts (.lcyAdvance ref [] none []) (withCmd (sFuse 4 NvSt.reset.fuse) (cmd 0x0F 0 0 [5])) (outst (cmd 0x0F 0 0 [5])) :=
  ⟨by decide +kernel, by decide +kernel, starts _ _ _ rfl (by decide +kernel), starts _ _ _ rfl (by decide +kernel), starts _ _ _ rfl (by decide +kernel),
    starts _ _ _ rfl (by decide +kernel), starts _ _ _ rfl (by decide +kernel), starts _ _ _ rfl (by decide +kernel)⟩

/-! Debug, the TAP, timers and registers. -/

/-- A debug record for the challenge of zeros, unsigned, for BENCH or an AUTH session of 5 min, in MANUFACTURE (R401). -/
def debug0 (target : Nat) : Bytes :=
  leBytes 4 0x41445853 ++ leBytes 1 target ++ [0xFF] ++ leBytes 2 (if target == 1 then 0 else 5) ++ zeros 152

/-- A challenge of zeros stands; the debug policy is p. -/
def sChal (s : State) (p : BitVec 3) : State :=
  { s with lcy := { LcySt.reset with chal := some (zeros 32, 100) }, fus := { FusSt.reset with dbgpol := p } }

theorem wit_DebugAuthorisationRuns :
    (Starts (.challenge ref) (withCmd sHold (cmd 0x10 0 32 [0])) (outst (cmd 0x10 0 32 [0])) ∧ dmaOk sHold = true) ∧
    (Starts (.response ref (debug0 1)) (withCmd (sChal sHold 0) (cmd 0x10 0 160 [1])) (outst (cmd 0x10 0 160 [1])) ∧ byteAt (debug0 1) 4 = 1 ∧
      (debug0 1).length = 160 ∧ sHold.lan.inRun = false ∧ (sChal sHold 0).fus.dbgpol.getLsbD 0 = false ∧ (sChal sHold 7).fus.dbgpol.getLsbD 0 = true ∧
      validChal (sChal sHold 0) = some (slice (debug0 1) 0x20 32) ∧ validChal sHold ≠ some (slice (debug0 1) 0x20 32) ∧
      debugRecordOk (sChal sHold 0) (debug0 1) = true ∧ debugRecordOk (sChal sHold 0) (1 :: (debug0 1).drop 1) = false ∧
      slice (1 :: (debug0 1).drop 1) 0x20 32 = zeros 32 ∧ (sChal sHold 0).lcy.dbg ≠ .bench) ∧
    (Starts (.response ref (debug0 1)) (withCmd (sChal sRun 0) (cmd 0x10 0 160 [1])) (outst (cmd 0x10 0 160 [1])) ∧ sRun.lan.inRun = true) ∧
    (Starts (.response ref (debug0 2)) (withCmd (sChal sRun 0) (cmd 0x10 0 160 [1])) (outst (cmd 0x10 0 160 [1])) ∧ byteAt (debug0 2) 4 = 2 ∧
      (debug0 2).length = 160 ∧ (sChal sRun 0).fus.dbgpol.getLsbD 1 = false ∧ validChal (sChal sRun 0) = some (slice (debug0 2) 0x20 32) ∧
      debugRecordOk (sChal sRun 0) (debug0 2) = true) ∧
    (Starts (.close ref) (withCmd sHold (cmd 0x10 0 0 [2])) (outst (cmd 0x10 0 0 [2])) ∧ awake sHold = true) :=
  ⟨⟨starts _ _ _ rfl (by decide +kernel), by decide +kernel⟩, ⟨starts _ _ _ rfl (by decide +kernel), by decide +kernel⟩,
    ⟨starts _ _ _ rfl (by decide +kernel), by decide +kernel⟩, ⟨starts _ _ _ rfl (by decide +kernel), by decide +kernel⟩,
    ⟨starts _ _ _ rfl (by decide +kernel), by decide +kernel⟩⟩

/-- HOLD in a debug state. -/
def sDbg (d : DbgState) : State := { sHold with lcy := { LcySt.reset with dbg := d } }

/-- A challenge of zeros stands in a SCRAPPED module. -/
def sGone : State := { sChal sHold 0 with fus := { FusSt.reset with dbgpol := 0, lcy := 4 } }

theorem wit_DebugAuthorisationRuns_limits :
    sGone.fus.lcy = 4 ∧ Starts (.challenge ref) (withCmd sGone (cmd 0x10 0 32 [0])) (outst (cmd 0x10 0 32 [0])) ∧
    Starts (.response ref (debug0 1)) (withCmd sGone (cmd 0x10 0 160 [1])) (outst (cmd 0x10 0 160 [1])) ∧
    Starts (.close ref) (withCmd sGone (cmd 0x10 0 0 [2])) (outst (cmd 0x10 0 0 [2])) ∧
    (sDbg .auth).lcy.dbg = .auth ∧ (sDbg .auth).lcy.authEnd.toNat ≤ (sDbg .auth).tb.toNat ∧
    ({ sDbg .auth with lcy := { (sDbg .auth).lcy with authEnd := 9 } } : State).tb.toNat < 9 ∧ eventsPlaced (sDbg .closed) ∧
    validChal sHold = none ∧ validChal (sChal sHold 0) ≠ none :=
  ⟨by decide +kernel, starts _ _ _ rfl (by decide +kernel), starts _ _ _ rfl (by decide +kernel), starts _ _ _ rfl (by decide +kernel), by decide +kernel,
    by decide +kernel, by decide +kernel, rfl, by decide +kernel, by decide +kernel⟩

/-- BENCH with a challenge of zeros. -/
def sBench : State := { sChal sHold 0 with lcy := { LcySt.reset with dbg := .bench, chal := some (zeros 32, 100) } }

theorem wit_DebugAuthorisationRuns_bench :
    (Starts (.response ref (debug0 1)) (withCmd sBench (cmd 0x10 0 160 [1])) (outst (cmd 0x10 0 160 [1])) ∧ dmaOk sBench = true ∧
      sBench.lan.inRun = false ∧ sBench.fus.lcy ≠ 4 ∧ sBench.fus.dbgpol.getLsbD 0 = false ∧
      validChal sBench = some (slice (debug0 1) 0x20 32) ∧ debugRecordOk sBench (debug0 1) = true ∧ sBench.lcy.dbg = .bench ∧
      sBench.evt.cnt.length = 256) ∧
    (Starts (.response ref []) (withCmd sStopped (cmd 0x10 0 160 [1])) (outst (cmd 0x10 0 160 [1])) ∧ dmaOk sStopped = false) ∧
    (Starts (.close ref) (withCmd (sDbg .auth) (cmd 0x10 0 0 [2])) (outst (cmd 0x10 0 0 [2])) ∧ (sDbg .auth).fus.lcy ≠ 4) :=
  ⟨⟨starts _ _ _ rfl (by decide +kernel), by decide +kernel⟩, ⟨starts _ _ _ rfl (by decide +kernel), by decide +kernel⟩,
    ⟨starts _ _ _ rfl (by decide +kernel), by decide +kernel⟩⟩

theorem wit_TapInstructionsRun_bench :
    ({ sDbg .bench with lan := { (sDbg .bench).lan with halted := true } } : State).lan.halted = true ∧
    debugOpen { sDbg .bench with lan := { (sDbg .bench).lan with halted := true } } = true ∧
    debugOpen { sDbg .bench with lan := LanSt.reset } = true ∧ LanSt.reset.timerOn = false ∧ LanSt.reset.halted = false ∧
    (hasSmuOf 3 = false ∧ sRun.lan.inRun = true) := by
  decide +kernel

theorem wit_TapInstructionsRun :
    (sDbg .closed).sys.powered = true ∧ hasSmuOf (sDbg .closed).sys.variant = true ∧ debugOpen (sDbg .closed) = false ∧ debugOpen (sDbg .auth) = true ∧
    (debugOpen (sDbg .bench) = true ∧ (sDbg .bench).lcy.dbg = .bench ∧ forceTarget (sDbg .bench) 95 = true ∧ forceTarget (sDbg .bench) 511 = true ∧
      (sDbg .bench).lan.halted = false ∧ (sDbg .bench).lan.timerOn = true) ∧
    (sChal sHold 4).fus.dbgpol.getLsbD 2 = true ∧ (sChal sHold 3).fus.dbgpol.getLsbD 2 = false := by
  decide +kernel

theorem wit_HaltOutsideBenchIsLaneFault :
    ((sDbg .auth).sys.powered = true ∧ (sDbg .auth).sys.pwr ≠ 3 ∧ (sDbg .auth).lcy.dbg = .auth ∧ (sDbg .closed).lcy.dbg = .closed) ∧
    ∃ t, ({ sHold with lan := { sHold.lan with needReset := true } } : State).lan.needReset = true ∧
      exec .modeWindowEnd { sHold with lan := { sHold.lan with needReset := true } } = .next t :=
  ⟨by decide +kernel, _, rfl, rfl⟩

/-- HOLD with timers of one mode: 0, 1 UPDOWN, 2. -/
def sTimer (mode : BitVec 32) : State := { sHold with
  ttu := { TtuSt.reset with gts := List.replicate 16 { GtSt.reset with cfg := mode <<< 30 } } }

/-- The lanes are halted and every timer freezes with them. -/
def sFrozen : State := { sTimer 0 with lan := { sHold.lan with halted := true }, ttu := { (sTimer 0).ttu with freeze := 0xFFFF } }

/-- What a timer's start or stop asks of the state. -/
def timersReady (x : State) : Bool :=
  awake x && hostReach x && !x.sys.hostStalled && x.evt.raised.isEmpty && !x.lan.inRun && x.ttu.gts.length == 16 && !x.ttu.en.getLsbD 15
    && !highHalf x 15 && !linked x 15

theorem wit_TimersStartAndStop :
    timersReady (sTimer 0) = true ∧ timersReady (sTimer 1) = true ∧ (gtAt (sTimer 0) 15).mode = 0 ∧ (gtAt (sTimer 1) 15).mode = 1 ∧
    timersReady sFrozen = true ∧ frozen sFrozen 15 = true ∧ frozen (sTimer 0) 15 = false := by
  decide +kernel

/-- Timer 15 and channel 31 are enabled, the channel armed. -/
def sTick : State := { sHold with ttu := { TtuSt.reset with
  en := 0x8000, ccEn := 0x80000000, ccs := TtuSt.reset.ccs.set 31 { CcSt.reset with armed := true } } }

theorem wit_TimersAndChannelsRun :
    sTick.ttu.gts.length = 16 ∧ sTick.ttu.ccs.length = 32 ∧ sTick.pending = [] ∧ awake sTick = true ∧ (busReach sRun ∧ sRun.lan.inRun = true) ∧
    (busReach sHold ∧ sHold.lan.inRun = false ∧ (∀ m, m < 8 → (gtAt sHold (2 * m)).mode ≠ 1) ∧ sHold.ttu.en = 0 ∧ sHold.ttu.ccEn = 0) ∧
    ((8 : BitVec 32).getLsbD 3 = true ∧ (sTimer 1).ttu.link.getLsbD 3 = false ∧ (gtAt (sTimer 1) 6).mode = 1 ∧ busReach (sTimer 1)) ∧
    (ccAt sHold 31).tgt = 16 ∧
    (evtReady sTick ∧ sTick.ttu.en.getLsbD 15 = true ∧ linked sTick 15 = false ∧ frozen sTick 15 = false ∧ (gtAt sTick 15).mode ≠ 1 ∧
      ccReady sTick 31 = true ∧ ccReady sTick 0 = false) := by
  unfold busReach evtReady eventsPlaced; decide +kernel

/-- Timer 15 is enabled with this configuration and master 0, whose event and output are on; channel 31 waits for tick v. -/
def sSource (cfg : BitVec 32) (v : BitVec 64) : State := { sTick with ttu := { sTick.ttu with
  gts := (List.replicate 16 { GtSt.reset with cfg := cfg, ev := true, out := true }),
  ccs := TtuSt.reset.ccs.set 31 { CcSt.reset with armed := true, v := v } } }

theorem wit_TimersAndChannelsRun_sources :
    ((gtAt (sSource 0 1) 15).src = 0 ∧ ((gtAt (sSource 0 1) 15).presc + 1) % 2 ^ (gtAt (sSource 0 1) 15).psc = 0 ∧ (gtAt (sSource 0 1) 15).cnt = 0 ∧
      (gtAt (sSource 0 1) 15).due = false) ∧
    ((gtAt (sSource 0x10000000 1) 15).src = 1 ∧ ((sSource 0 1).tb + 1).toNat % 2 ^ (gtAt (sSource 0x10000000 1) 15).psc = 0) ∧
    (2 ≤ (gtAt (sSource 0x20000000 1) 15).src ∧ (gtAt (sSource 0x20000000 1) (gtAt (sSource 0x20000000 1) 15).csrc).ev = true) ∧
    ((gtAt (sSource 0x4000 1) 15).smode = 1 ∧ (gtAt (sSource 0x4000 1) (gtAt (sSource 0x4000 1) 15).msrc).out = true) ∧
    ((gtAt sTick 15).smode ≠ 2 ∧ (gtAt sTick (gtAt sTick 15).msrc).ev = false) ∧
    ((ccAt (sSource 0 1) 31).tgt = 16 ∧ (ccAt (sSource 0 1) 31).v = (sSource 0 1).tb + 1 ∧ ccReady (sSource 0 1) 31 = true) ∧
    ccReaches (sSource 0 1) (busTick (sSource 0 1)) 31 = true ∧ ccReaches (sSource 0 2) (busTick (sSource 0 2)) 31 = false := by
  decide +kernel

theorem wit_RegisterWritesFollowAccess :
    (busReach sHold ∧ eventsPlaced sHold ∧ sHold.lan.inRun = false ∧ (0x1018 / 0x1000 ≠ 14 ∧ 0x1018 / 0x1000 ≠ 15 ∧ 8 ≠ 4) ∧
      (0xF000 % 4 = 0 ∧ 0xF000 / 0x1000 ∈ [4, 5, 6, 7, 8, 9, 11, 12, 15]) ∧ ((0xC3A40000 : BitVec 32) >>> 16).toNat ≠ 0xC3A5 ∧
      sHold.evt.map.length = 256 ∧ sHold.host.msix.length = 32 ∧ dmaOk sHold = true) ∧
    (busReach sRun ∧ eventsPlaced sRun ∧ sRun.lan.inRun = true) ∧
    (0x1000 / 4 = 0x400 ∧ absentReg 3 (0x6034 / 0x1000) (0x6034 % 0x1000) = true ∧
      absentReg sHold.sys.variant (0x1018 / 0x1000) (0x1018 % 0x1000) = false ∧ hasSmuOf 3 = false) ∧
    (({ sHold with host := { sHold.host with pba := 1 } } : State).host.pba.getLsbD 0 = true ∧ sHold.host.pci.msixEn = true ∧
      sHold.host.pci.msixMask = false) ∧
    (quietReg sRun.sys.variant 1 0x18 = false ∧ runRefused sRun 1 0x18 = true ∧ runRefused sHold 1 0x18 = false ∧
      quietReg sHold.sys.variant 4 0 = true) := by
  unfold busReach eventsPlaced; decide +kernel

theorem wit_RegisterWritesFollowAccess_reads :
    State.reset.sys.answers = false ∧ sHold.sys.answers = true ∧ sHold.sys.hostStalled = false ∧
    (({ sHold with sys := { sHold.sys with hostStalled := true } } : State).sys.hostStalled = true ∧ 0x1000 / 0x1000 ∉ [0, 2, 14, 15] ∧
      0x2000 / 0x1000 ∈ [0, 2, 14, 15] ∧ islandPage (0x1000 / 0x1000) = false ∧
      islandReach { sHold with sys := { sHold.sys with hostStalled := true } } ∧ evtReady { sHold with sys := { sHold.sys with hostStalled := true } }) ∧
    (hasSmuOf ({ sHold with sys := { sHold.sys with variant := 3 } } : State).sys.variant = false ∧ 0x1001 % 4 + 2 ≤ 4) := by
  unfold islandReach evtReady eventsPlaced; decide +kernel

theorem wit_EveryCommandAnswersNext : awake State.reset = false ∧ actsInReset .commitInstant = false := by decide +kernel

/-! The invariants hold at reset, and steps run from there. -/

theorem wit_EventsArePlacedAndCounted : eventsPlaced State.reset ∧ (∃ t, step State.reset = .next t) ∧ State.reset.evt.cnt.length = 256 :=
  ⟨rfl, ⟨_, rfl⟩, by decide +kernel⟩

theorem wit_RingsStayWithinTheirSizes : ringsOk State.reset ∧ ∃ t, step State.reset = .next t := by
  refine ⟨?_, ⟨_, rfl⟩⟩
  unfold ringsOk ringSizesOk creditsOk; decide +kernel

theorem wit_FusesOnlyGainBits : ∃ t, step State.reset = .next t := ⟨_, rfl⟩

theorem wit_CommandsKeepOtherParts : touched .modeApply = some [.mode, .evt, .mail] ∧ ∃ t, exec .modeApply sMode = .next t := ⟨rfl, _, rfl⟩

/-! Single steps and shared operations, with expected values from the spec. -/

/-- The next state of a command. -/
def after (i : Instr) (s : State) : State := match exec i s with
  | .next t => t
  | .fault _ => s
  | .refused _ => s

/-- R4: the 48S of revision A0 reads 0x5997_2310. -/
theorem test_idrev : readReg { sHold with sys := { sHold.sys with variant := 3 } } 0x1000 = 0x59972310 := by decide +kernel

/-- R6: Vendor ID and Device ID of the PCIe function. -/
theorem test_pciId : pciConfigRead sHold 0 = some 0x09721D9E ∧ pciConfigRead State.reset 0 = none := by decide +kernel

/-- Chapter 20, example: what RDL_INJ_RESULT shows of injection A71 of RH1. -/
theorem test_injectionResult : injWord .rh1 0 71 = 0x80000447 := by decide

/-- R121: there are 152 injections, and the reference pair is one of w = 4. -/
theorem test_injections : injections.length = 152 ∧ injDiff 2 0 = 0x010101010101010101 ∧ injDiff 0 71 = 0x800000000000000000 := by decide +kernel

/-- The code word with slot t in bit t. -/
def codeWord (c : Nat) : Nat := (List.range 24).foldl (fun n t => if codeBit c t then n + 2 ^ t else n) 0

/-- R162: the words of codes 0, 1 and 14. -/
theorem test_codeWords : codeWord 0 = 0x00FFFFFF ∧ codeWord 1 = 0x000A66BE ∧ codeWord 14 = 0x00D7C298 := by decide +kernel

/-- Chapter 05, example: a stuck bit 5 of the word at offset 4 of six words leaves bit 10 above K(6). -/
theorem test_stuckBit :
    signature .a 3 [1, 2, 3, 4, 0x20, 6] ^^^ signature .b 3 [~~~1, ~~~2, ~~~3, ~~~4, ~~~0, ~~~6] = kOf 6 ^^^ 0x400 := by decide +kernel

/-- Chapter 05, example: decoy count 286 puts the difference at bit 71. -/
theorem test_decoyBit : decoyDiff 286 = 0x800000000000000000 := by decide +kernel

/-- R46, example: 108,349 cycles take 111,700 ticks, and end exactly at E(n). -/
theorem test_frameTicks :
    ticks97 108349 = 111700 ∧ framesFeasible (108349 :: List.replicate 63 0) 100000 25000 = true ∧
    framesFeasible (108350 :: List.replicate 63 0) 100000 25000 = false := by decide +kernel

/-- R234, example: the seeds of CONN_ID 0xB00 under CK 0x5D2E_91C4. -/
theorem test_kslSeeds : kslSeedA 0x5D2E91C4 0xB00 = 0x5D2E9AC4 ∧ kslSeedB 0x5D2E91C4 0xB00 = 0x6E3BA9D1 := by decide +kernel

/-- FIPS 180-4: the digest of the three bytes "abc". -/
theorem test_sha384 : sha384 [0x61, 0x62, 0x63] =
    0xCB00753F45A35E8BB5A03D699AC65007272C32AB0EDED1631A8B605A43FF5BED8086072BA1E7CC2358BAECA134C825A7 := by decide +kernel

/-- R296: the next odd and the next even epoch. -/
theorem test_nextEpoch : nextEpoch 4 true = 5 ∧ nextEpoch 5 true = 7 ∧ nextEpoch 5 false = 6 ∧ nextEpoch 6 false = 8 := by decide

/-- GT4 counts down at 4,000 and CC5 targets it with LATE_FIRE = 0, ONESHOT = 0. -/
def sGt4 : State := { sHold with ttu := { TtuSt.reset with
  en := 0x10, ccEn := 0x20, gts := TtuSt.reset.gts.set 4 { GtSt.reset with cfg := 0x1A000000, buf := 9765, cnt := 4000, down := true, started := true },
  ccs := TtuSt.reset.ccs.set 5 { CcSt.reset with cfg := 0x22000000 } } }

/-- Chapter 15, example: writing 4,001 to CC5 sets PAST and raises EV213 at once; 4,000 only arms. -/
theorem test_latePast :
    ((ccAt (after (.cmpLoWrite 5 4001) sGt4) 5).past = true ∧ (after (.cmpLoWrite 5 4001) sGt4).evt.cnt.getD 213 0 = 1) ∧
    ((ccAt (after (.cmpLoWrite 5 4000) sGt4) 5).armed = true ∧ (after (.cmpLoWrite 5 4000) sGt4).evt.cnt.getD 213 0 = 0) := by decide +kernel

/-- R437, chapter 21, example: FEED_SAG of bank B2 is source 67, on vector 8. -/
theorem test_feedSagVector : 48 + 8 * 2 + 3 = 67 ∧ vectorOf State.reset 67 = 8 := by decide +kernel

/-- R317, R318: a doorbell of CMDH moves P alone; one past the ring's size is ignored and sets HST_ERR.DB. -/
theorem test_doorbell :
    ringAt (after (.doorbell 0 21) (sRing 0 5 5)) 0 = ⟨0x1000, 16, 21, 5⟩ ∧ ringAt (after (.doorbell 0 22) (sRing 0 5 5)) 0 = ⟨0x1000, 16, 5, 5⟩ ∧
    (after (.doorbell 0 22) (sRing 0 5 5)).host.err = 4 := by decide +kernel

/-- R320: the completion of a NOP with tag 7 on CMDH. -/
theorem test_nopCompletion : (after (.nop ref) (withCmd sHold (cmd 0 0 0 []))).host.done = [⟨0, 7, [0, 0, 7, 0] ++ zeros 28, true⟩] := by decide +kernel

/-- R372: START in HOLD with an accepted plan names frame F(n+1). -/
theorem test_start :
    (after (.start ref) (withCmd sReady (cmd 7 0 0 []))).lan.startAt = some 7 ∧
    ((after (.start ref) (withCmd sReady (cmd 7 0 0 []))).host.done.map (fun d => slice d.entry 16 8)) = [[7, 0, 0, 0, 0, 0, 0, 0]] := by decide +kernel

/-- R323: an opcode above 0x13 completes with BAD_OPCODE, 0x0008. -/
theorem test_badOpcode :
    (after (.badOpcode ref) (withCmd sHold (cmd 0x14 0 0 []))).host.done.map (fun d => leAt d.entry 4 2) = [8] := by decide +kernel

/-- R179, R180: a short circuit seen by FA opens both switches of channel 16; a thermal shutdown opens its own. -/
theorem test_shortAndThermal :
    ((outChan (after (.shortCircuit .a 16) sOut) 16).swB.opened = true ∧ (outChan (after (.shortCircuit .a 16) sOut) 16).causes.map (·.cause) = [4]) ∧
    ((outChan (after (.thermalShutdown .a 16) sOut) 16).swA.opened = true ∧ (outChan (after (.thermalShutdown .a 16) sOut) 16).swB.opened = false) := by
  decide +kernel

/-- Three equal samples of a port, with this level of A (R207). -/
def samples (a : Bool) : List Levels := List.replicate 3 ⟨a, false, false⟩

/-- R207: a pickup port counts a rising edge of A up, no falling edge, and no level of two samples. -/
theorem test_pickup :
    (axisAt (after (.encoderEdge 1 1 (samples true) true false) sHold) 1).sA.pos = 1 ∧
    (axisAt (after (.encoderEdge 1 1 (samples false) true false) (after (.encoderEdge 1 1 (samples true) true false) sHold)) 1).sA.pos = 1 ∧
    (axisAt (after (.encoderEdge 1 1 ((samples true).take 2) true false) sHold) 1).sA.pos = 0 := by decide +kernel

/-- R438: a soft reset needs the key 0xC3A5. -/
theorem test_resetKey : (after (.registerWrite 0x1014 4 0xC3A40001) sHold).sys.err = 4 ∧ (after .modrst sHold).sys.rstcause = 8 := by decide +kernel

/-- R384, R375: FUSE_LOCK with FORCE blows every bit of the lock word of region 0, FW202. -/
theorem test_fuseLock :
    fuseVal (after (.fuseLock ref none []) (withCmd (sFuse 0 NvSt.reset.fuse) (cmd 0x0E 1 0 [0]))) 202 = 0xFFFFFFFF := by decide +kernel

/-- R399, R402: with policy 7 a BENCH record is refused, and the challenge is spent. -/
theorem test_benchRefused :
    (after (.response ref (debug0 1)) (withCmd (sChal sHold 7) (cmd 0x10 0 160 [1]))).lcy.chal = none ∧
    (after (.response ref (debug0 1)) (withCmd (sChal sHold 7) (cmd 0x10 0 160 [1]))).lcy.authFail = 1 := by decide +kernel

/-- How many lands there are of a kind. -/
def landCount (p : Land → Bool) : Nat := (allLands.filter p).length

/-- R426 to R428: 1,296 lands, with the numbers of the land table. -/
theorem test_landCounts :
    allLands.length = 1296 ∧ landCount (· == .vdd) = 96 ∧ landCount (· == .gnd) = 437 ∧ landCount (· == .fgnd) = 370 ∧
    landCount (fun x => match x with
      | .enc _ _ _ => true
      | _ => false) = 48 := by decide +kernel

/-- R427: eight feed and eight return lands of a bank, two lands of a channel, one of a source. -/
theorem test_landsOfBanks :
    landCount (· == .feed 5) = 8 ∧ landCount (· == .ret 0) = 8 ∧ landCount (· == .field 95) = 2 ∧ landCount (· == .source 23) = 1 := by decide +kernel

/-- The outputs, sources, inputs and clamps of the example of R421, in µW. -/
def hatchUw : Nat := fieldPowerUw (List.replicate 20 400) (List.replicate 8 60) 28000 (List.replicate 16 7) 80000

/-- R421, example: 6.096 W and 9.196 W. -/
theorem test_dissipation : hatchUw = 6096000 ∧ totalPowerUw hatchUw 0 = 9196000 ∧ dissipationOk hatchUw 0 = true := by decide +kernel

/-- R155: the limits of the bands. -/
theorem test_bands : [399, 400, 549, 550, 1500, 1501, 1999, 2000].map bandOf = [1, 2, 2, 3, 3, 2, 2, 4] := by decide

/-- R263: the servo's rate is bounded, and PT steps only above 1 ms. -/
theorem test_servo :
    (servo sHold 1000000 600000).net.ptRate = 500000 ∧ ptAt (servo sHold 1000000 600000) = 0 ∧
    ptAt (servo { sHold with tb := 200000 } 1000001 0) = 999999 := by decide +kernel

/-- The time base ticks once in a step on an empty queue. -/
theorem test_tick : (match step sHold with
    | .next t => t.tb
    | _ => 0) = 1 := by decide +kernel

end Sys2Proof.Tests
end

/-! Laws of completion, frames and counts. -/
namespace Sys2Proof.Machine

/-! ### How a command completes -/

theorem Completes.mono {i : Instr} {s : State} {p q : State → Prop} (h : Completes i s p) (hpq : ∀ t, p t → q t) : Completes i s q :=
  h.imp fun t ht => ht.imp id (hpq t)

/-- A command that ends with `finish` completes with its effect, once the events have their places. -/
theorem completes_finish {i : Instr} {s t : State} {p : State → Prop} (hexec : exec i s = finish s t) (hs : awake s = true) (hp : p (flush t)) :
    Completes i s p := ⟨flush t, hexec.trans (finish_awake hs), hp⟩

/-- Between commands, a command without an effect in a state leaves it as it is. -/
theorem exec_finish_idle {i : Instr} {s t : State} (hexec : exec i s = finish s t) (ht : t = s) (hev : eventsPlaced s) : exec i s = .next s := by
  rw [hexec, ht, finish, flush_of_placed s hev, ite_self]

/-! ### Parts that an update leaves alone -/

theorem onlyTouches.mono {l k : List Part} {s t : State} (h : onlyTouches l s t) (hlk : l ⊆ k) : onlyTouches k s t :=
  fun p => (h p).imp (fun hp => hlk hp) id

theorem samePart.trans {s t u : State} {p : Part} (h : samePart s t p) (k : samePart t u p) : samePart s u p := by
  cases p <;> simp_all [samePart]

theorem onlyTouches.trans {l : List Part} {s t u : State} (h : onlyTouches l s t) (k : onlyTouches l t u) : onlyTouches l s u := fun p =>
  (h p).elim .inl (fun hp => (k p).imp id hp.trans)

theorem onlyTouches_sys (s : State) (x : SysSt) : onlyTouches [.sys] s { s with sys := x } := by
  intro p; cases p <;> simp [samePart]

theorem onlyTouches_evt (s : State) (x : EvtSt) : onlyTouches [.evt] s { s with evt := x } := by
  intro p; cases p <;> simp [samePart]

theorem onlyTouches_rdl (s : State) (x : RdlSt) : onlyTouches [.rdl] s { s with rdl := x } := by
  intro p; cases p <;> simp [samePart]

theorem onlyTouches_host (s : State) (x : HostSt) : onlyTouches [.host, .mail] s { s with host := x } := by
  intro p; cases p <;> simp [samePart]

/-- An update of the host island that leaves what posted writes move. -/
theorem onlyTouches_island (s : State) (x : HostSt) (hp : x.posted = s.host.posted) (hr : x.rings = s.host.rings) (hb : x.pba = s.host.pba) :
    onlyTouches [.host] s { s with host := x } := by
  intro p; cases p <;> simp [samePart, hp, hr, hb]

theorem onlyTouches_flush (s : State) : onlyTouches [.evt, .mail] s (flush s) := by
  intro p; cases p <;> simp [samePart]

theorem onlyTouches_raise (s : State) (src a b c : Nat) : onlyTouches [.evt] s (raise s src a b c) := by
  intro p; cases p <;> simp [samePart]

theorem onlyTouches_sysErr (s : State) (bit : Nat) : onlyTouches [.sys, .evt] s (sysErr s bit) :=
  ((onlyTouches_sys s _).mono (by simp)).trans ((onlyTouches_raise _ _ _ _ _).mono (by simp))

/-- Placing events keeps the frame of an effect that may touch them. -/
theorem onlyTouches.flush {l : List Part} {s t : State} (h : onlyTouches l s t) (hl : [.evt, .mail] ⊆ l) : onlyTouches l s (flush t) :=
  h.trans ((onlyTouches_flush t).mono hl)

theorem onlyTouches.evt_eq {l : List Part} {s t : State} (h : onlyTouches l s t) (hl : .evt ∉ l) : t.evt = s.evt := (h .evt).resolve_left hl

theorem onlyTouches.island_eq {l : List Part} {s t : State} (h : onlyTouches l s t) (hl : .host ∉ l) : islandCore t.host = islandCore s.host :=
  (h .host).resolve_left hl

/-! ### Raising events -/

/-- A source that the variant raises joins the events of the command in hand. -/
theorem raise_eq {s : State} {src : Nat} (h : neverRaised s.sys.variant src = false) (a b c : Nat) :
    raise s src a b c = { s with evt := { s.evt with raised := s.evt.raised ++ [⟨src, a, b, c, none⟩] } } := by
  simp [raise, h]

@[simp] theorem raise_cnt (s : State) (src a b c : Nat) : (raise s src a b c).evt.cnt = s.evt.cnt := by
  unfold raise; split <;> rfl

@[simp] theorem raise_map (s : State) (src a b c : Nat) : (raise s src a b c).evt.map = s.evt.map := by
  unfold raise; split <;> rfl

@[simp] theorem sysErr_sys (s : State) (bit : Nat) : (sysErr s bit).sys = { s.sys with err := setBit s.sys.err bit } := by
  simp [sysErr]

@[simp] theorem sysErr_cnt (s : State) (bit : Nat) : (sysErr s bit).evt.cnt = s.evt.cnt := by simp [sysErr]

@[simp] theorem sysErr_map (s : State) (bit : Nat) : (sysErr s bit).evt.map = s.evt.map := by simp [sysErr]

/-- The error event of the SYS page is raised on every variant. -/
theorem sysErr_raised (s : State) (bit : Nat) :
    (sysErr s bit).evt.raised = s.evt.raised ++ [⟨1, (setBit s.sys.err bit).toNat, 0, 0, none⟩] := by
  unfold sysErr; rw [raise_eq (by simp [neverRaised])]

/-! ### Counting events -/

theorem modAt_length {α : Type} (l : List α) (i : Nat) (f : α → α) : (modAt l i f).length = l.length := by
  unfold modAt; split <;> simp

theorem modAt_getD_same {α : Type} (l : List α) (i : Nat) (f : α → α) (d : α) (h : i < l.length) : (modAt l i f).getD i d = f (l.getD i d) := by
  simp [modAt, h]

theorem modAt_getD_ne {α : Type} (l : List α) (i j : Nat) (f : α → α) (d : α) (h : i ≠ j) : (modAt l i f).getD j d = l.getD j d := by
  unfold modAt; split <;> simp [h]

theorem satAdd_satAdd {w : Nat} (x : BitVec w) (a b : Nat) : satAdd (satAdd x a) b = satAdd x (a + b) := by
  have hpos := Nat.two_pow_pos w
  apply BitVec.eq_of_toNat_eq
  simp only [satAdd, BitVec.toNat_ofNat]
  rw [Nat.mod_eq_of_lt (by omega : min (x.toNat + a) (2 ^ w - 1) < 2 ^ w)]
  congr 1; omega

theorem satAdd_zero {w : Nat} (x : BitVec w) : satAdd x 0 = x := by
  have hx := x.isLt
  simp [satAdd, Nat.min_eq_left (by omega : x.toNat ≤ 2 ^ w - 1)]

/-- t has as many event counters as s, and the same count of a source. -/
def SameCount (src : Nat) (s t : State) : Prop :=
  t.evt.cnt.length = s.evt.cnt.length ∧ t.evt.cnt.getD src 0 = s.evt.cnt.getD src 0

theorem SameCount.of_cnt {src : Nat} {s t : State} (h : t.evt.cnt = s.evt.cnt) : SameCount src s t := by simp [SameCount, h]

theorem SameCount.refl (src : Nat) (s : State) : SameCount src s s := .of_cnt rfl

theorem SameCount.trans {src : Nat} {s t u : State} (h : SameCount src s t) (k : SameCount src t u) : SameCount src s u :=
  ⟨k.1.trans h.1, k.2.trans h.2⟩

theorem SameCount.foldl {src : Nat} {α : Type} (f : State → α → State) (hf : ∀ s a, SameCount src s (f s a)) (l : List α) (s : State) :
    SameCount src s (l.foldl f s) := by
  induction l generalizing s with
  | nil => exact .refl src s
  | cons a l ih => exact (hf s a).trans (ih _)

theorem countEvt_other {src other : Nat} (h : other ≠ src) (s : State) : SameCount src s (countEvt s other) :=
  ⟨modAt_length _ _ _, modAt_getD_ne _ _ _ _ _ h⟩

theorem assertVector_sameCount (src : Nat) (s : State) (v : Nat) : SameCount src s (assertVector s v) := by
  refine .of_cnt ?_
  unfold assertVector; dsimp only; split <;> simp

theorem notify_other {src other : Nat} (h : other ≠ src) (s : State) : SameCount src s (notify s other) :=
  (countEvt_other h s).trans (assertVector_sameCount src _ _)

theorem putEntry_sameCount (src : Nat) (s : State) (r : Nat) (data : Bytes) : SameCount src s (putEntry s r data) := .of_cnt rfl

theorem writeStatus_sameCount (src : Nat) (s : State) (r : Nat) : SameCount src s (writeStatus s r) := .of_cnt rfl

theorem summariesLoop_sameCount (src n : Nat) (s : State) : SameCount src s (summariesLoop n s) := by
  induction n generalizing s with
  | zero => exact .refl src s
  | succ n ih =>
    unfold summariesLoop; split
    · exact SameCount.trans (.of_cnt rfl) (ih _)
    · exact .refl src s

theorem writeSummaries_sameCount {src : Nat} (h : 185 ≠ src) (s : State) : SameCount src s (writeSummaries s) := by
  have hloop := summariesLoop_sameCount src 43 s
  unfold writeSummaries; dsimp only; split
  · exact hloop
  · exact (hloop.trans ((writeStatus_sameCount src _ _).trans (notify_other h _))).trans
      (.foldl _ (fun t i => assertVector_sameCount src t _) _ _)

/-- Queueing an entry counts only the notification of the EVT ring. -/
theorem tryQueue_sameCount {src : Nat} (h : 185 ≠ src) (s : State) (data : Bytes) : SameCount src s (tryQueue s data).1 := by
  have hput : ∀ u : State, SameCount src u
      (if evtRoom u && (heldSources u).isEmpty then (notify (writeStatus (putEntry u 3 data) 3) 185, true) else (u, false)).1 := by
    intro u; split
    · exact (putEntry_sameCount src _ _ _).trans ((writeStatus_sameCount src _ _).trans (notify_other h _))
    · exact .refl src u
  unfold tryQueue
  refine SameCount.trans ?_ (hput _)
  split
  · exact writeSummaries_sameCount h s
  · exact .refl src s

/-- What follows an event's own count and the try to queue its entry counts EVT_OVERFLOW at most. -/
theorem placeEvt_sameCount {src : Nat} (h : 189 ≠ src) (p : State × Bool) (v own : Nat) :
    SameCount src p.1 (if p.2 = true then assertVector { p.1 with evt := { p.1.evt with wasQueued := true } } v
      else if p.1.evt.wasQueued = true then
        holdEvt { countEvt (holdEvt p.1 own) 189 with
          evt := { (countEvt (holdEvt p.1 own) 189).evt with eseq := (countEvt (holdEvt p.1 own) 189).evt.eseq + 1 } } 189
      else holdEvt p.1 own) := by
  have hset (b : Bool) : SameCount src p.1 { p.1 with evt := { p.1.evt with wasQueued := b } } := .of_cnt rfl
  have hhold : SameCount src p.1 (holdEvt p.1 own) := .of_cnt rfl
  split
  · exact (hset true).trans (assertVector_sameCount src _ v)
  · split
    · exact hhold.trans ((countEvt_other h _).trans (.of_cnt rfl))
    · exact hhold

/-- An event that takes its place counts once for its own source and, the rings' notifications and EVT_OVERFLOW aside, for no other. -/
theorem emitEvt_sameCount {src : Nat} (hn : 185 ≠ src) (ho : 189 ≠ src) (s : State) (e : RawEvt) :
    ∃ u, SameCount src s u ∧ SameCount src (countEvt u e.src) (emitEvt s e) := by
  have hown : ∀ u, SameCount src (countEvt u e.src) (emitEvt u { e with record := none }) := fun u =>
    SameCount.trans (t := { countEvt u e.src with evt := { (countEvt u e.src).evt with eseq := (countEvt u e.src).evt.eseq + 1 } }) (.of_cnt rfl)
      ((tryQueue_sameCount hn _ _).trans (placeEvt_sameCount ho _ _ _))
  obtain ⟨_, _, _, _, _ | r⟩ := e
  · exact ⟨s, .refl src s, hown s⟩
  · exact ⟨(tryQueue s r).1, tryQueue_sameCount hn s r, hown _⟩

/-- The number of events of a source. -/
def eventsOf (src : Nat) (l : List RawEvt) : Nat := (l.filter (fun e => e.src == src)).length

theorem eventsOf_cons (src : Nat) (e : RawEvt) (l : List RawEvt) : eventsOf src (e :: l) = eventsOf src l + if e.src = src then 1 else 0 := by
  by_cases h : e.src = src <;> simp [eventsOf, h]

theorem emitEvt_count {src : Nat} (hn : 185 ≠ src) (ho : 189 ≠ src) (s : State) (e : RawEvt) (h : src < s.evt.cnt.length) :
    (emitEvt s e).evt.cnt.length = s.evt.cnt.length ∧
    (emitEvt s e).evt.cnt.getD src 0 = satAdd (s.evt.cnt.getD src 0) (if e.src = src then 1 else 0) := by
  obtain ⟨u, ⟨hlen, hcnt⟩, hlen', hcnt'⟩ := emitEvt_sameCount hn ho s e
  have hown : (countEvt u e.src).evt.cnt.getD src 0 = satAdd (u.evt.cnt.getD src 0) (if e.src = src then 1 else 0) := by
    split
    next heq => rw [heq]; exact modAt_getD_same _ _ _ _ (hlen ▸ h)
    next hne => rw [satAdd_zero]; exact modAt_getD_ne _ _ _ _ _ hne
  exact ⟨hlen'.trans ((modAt_length _ _ _).trans hlen), by rw [hcnt', hown, hcnt]⟩

theorem foldl_emitEvt_count {src : Nat} (hn : 185 ≠ src) (ho : 189 ≠ src) (l : List RawEvt) (s : State) (h : src < s.evt.cnt.length) :
    (l.foldl emitEvt s).evt.cnt.getD src 0 = satAdd (s.evt.cnt.getD src 0) (eventsOf src l) := by
  induction l generalizing s with
  | nil => exact (satAdd_zero _).symm
  | cons e l ih =>
    obtain ⟨hlen, hcnt⟩ := emitEvt_count hn ho s e h
    rw [List.foldl_cons, ih _ (hlen ▸ h), hcnt, satAdd_satAdd, eventsOf_cons, Nat.add_comm]

theorem insertEvt_perm (e : RawEvt) (l : List RawEvt) : (insertEvt e l).Perm (e :: l) := by
  induction l with
  | nil => exact .refl _
  | cons x l ih =>
    unfold insertEvt; split
    · exact .refl _
    · exact (ih.cons x).trans (.swap e x l)

theorem foldl_insertEvt_perm (l acc : List RawEvt) : (l.foldl (fun acc e => insertEvt e acc) acc).Perm (l ++ acc) := by
  induction l generalizing acc with
  | nil => exact .refl _
  | cons e l ih => exact (ih _).trans (((insertEvt_perm e acc).append_left l).trans List.perm_middle)

theorem sortEvts_perm (l : List RawEvt) : (sortEvts l).Perm l := by
  simpa [sortEvts] using foldl_insertEvt_perm l []

/-- Placing the events counts every one of them for its source (R443). -/
theorem flush_count {src : Nat} (hn : 185 ≠ src) (ho : 189 ≠ src) (s : State) (h : src < s.evt.cnt.length) :
    (flush s).evt.cnt.getD src 0 = satAdd (s.evt.cnt.getD src 0) (eventsOf src s.evt.raised) := by
  have hperm : eventsOf src (sortEvts s.evt.raised) = eventsOf src s.evt.raised := ((sortEvts_perm _).filter _).length_eq
  rw [← hperm]
  exact foldl_emitEvt_count hn ho _ { s with evt := { s.evt with raised := [] } } h

/-- A command that raises one event of a source, and counts nothing itself, counts it once. -/
theorem counted_of_raised {src : Nat} {s t : State} (hs : s.evt.cnt.length = 256) (hsrc : src < 256) (hn : 185 ≠ src) (ho : 189 ≠ src)
    (hcnt : t.evt.cnt = s.evt.cnt) (hone : eventsOf src t.evt.raised = 1) : counted src s (flush t) := by
  rw [counted, flush_count hn ho t (by rwa [hcnt, hs]), hcnt, hone]

end Sys2Proof.Machine

/-! The network island. -/
namespace Sys2Proof.Machine

/-! ### What the module's configuration and links decide -/

theorem ownAddr_congr {s t : State} (h : t.cfg = s.cfg) : ownAddr t = ownAddr s := by simp [ownAddr, h]

theorem pmodeOf_congr {s t : State} (h : t.cfg = s.cfg) : pmodeOf t = pmodeOf s := by simp [pmodeOf, ownAddr_congr h]

theorem carriesKsl_congr {s t : State} (hc : t.cfg = s.cfg) (hv : t.sys = s.sys) (h0 : t.net.speed0 = s.net.speed0)
    (h1 : t.net.speed1 = s.net.speed1) (p : Nat) : carriesKsl t p = carriesKsl s p := by
  simp [carriesKsl, hasPort, kslPorts, portSpeed, pmodeOf_congr hc, hv, h0, h1]

/-! ### Counters of the ports and learned addresses -/

@[simp] theorem countRx_net (s : State) (p : Nat) :
    (countRx s p).net.speed0 = s.net.speed0 ∧ (countRx s p).net.speed1 = s.net.speed1 ∧ (countRx s p).net.egress0 = s.net.egress0 ∧
    (countRx s p).net.egress1 = s.net.egress1 ∧ (countRx s p).net.dropCnt = s.net.dropCnt ∧ (countRx s p).net.errCnt = s.net.errCnt := by
  unfold countRx; split <;> simp

@[simp] theorem errorFrame_net (s : State) (p : Nat) : (errorFrame s p).net = { s.net with errCnt := satAdd s.net.errCnt 1 } := by
  simp [errorFrame]

@[simp] theorem addrConflict_net (s : State) (p : Nat) : (addrConflict s p).net = s.net := by simp [addrConflict]

@[simp] theorem learnMac_net (s : State) (mac : BitVec 48) (p : Nat) :
    (learnMac s mac p).net.speed0 = s.net.speed0 ∧ (learnMac s mac p).net.speed1 = s.net.speed1 ∧
    (learnMac s mac p).net.egress0 = s.net.egress0 ∧ (learnMac s mac p).net.egress1 = s.net.egress1 ∧
    (learnMac s mac p).net.macs.head? = some (mac, p) := by simp [learnMac]

@[simp] theorem ownAddr_countRx (s : State) (p : Nat) : ownAddr (countRx s p) = ownAddr s := ownAddr_congr (by simp)

@[simp] theorem carriesKsl_learnMac (s : State) (mac : BitVec 48) (p k : Nat) : carriesKsl (learnMac s mac p) k = carriesKsl s k :=
  carriesKsl_congr (by simp) (by simp) (by simp) (by simp) k

/-! ### Egress queues -/

theorem egressAt_congr {s t : State} (h0 : t.net.egress0 = s.net.egress0) (h1 : t.net.egress1 = s.net.egress1) (p q : Nat) :
    egressAt t p q = egressAt s p q := by simp [egressAt, h0, h1]

@[simp] theorem egressAt_flush (s : State) (p q : Nat) : egressAt (flush s) p q = egressAt s p q := egressAt_congr (by simp) (by simp) p q

/-- A frame joins its queue behind those that wait in it. -/
theorem egressAt_enqueue_same {s : State} (hq : queuesOk s) (p q : Nat) (x : NetOut) (h : q < 8) :
    egressAt (enqueue s p q x) p q = egressAt s p q ++ [x] := by
  obtain ⟨h0, h1⟩ := hq
  by_cases hp : p = 0
  · subst hp; exact modAt_getD_same s.net.egress0 q _ [] (by omega)
  · simp only [egressAt, enqueue, beq_iff_eq, hp, if_false]; exact modAt_getD_same s.net.egress1 q _ [] (by omega)

/-- A frame for one port leaves the queues of the other. -/
theorem egressAt_enqueue_other (s : State) {p k : Nat} (h : p = 0 ↔ k ≠ 0) (q r : Nat) (x : NetOut) :
    egressAt (enqueue s p q x) k r = egressAt s k r := by
  by_cases hp : p = 0 <;> simp_all [egressAt, enqueue]

theorem queuesOk_congr {s t : State} (h0 : t.net.egress0 = s.net.egress0) (h1 : t.net.egress1 = s.net.egress1) (h : queuesOk s) : queuesOk t := by
  simpa [queuesOk, h0, h1] using h

theorem queuesOk_enqueue {s : State} (h : queuesOk s) (p q : Nat) (x : NetOut) : queuesOk (enqueue s p q x) := by
  by_cases hp : p = 0 <;> simpa [queuesOk, enqueue, hp, modAt_length] using h

@[simp] theorem enqueue_macs (s : State) (p q : Nat) (x : NetOut) : (enqueue s p q x).net.macs = s.net.macs := by
  unfold enqueue; dsimp only; split <;> rfl

theorem takeHighest_empty (l : List (List NetOut)) (h : ∀ w ∈ l, w = []) : takeHighest l = none := by
  induction l with
  | nil => rfl
  | cons w l ih => simp [takeHighest, ih (fun v hv => h v (.tail _ hv)), h w]

/-- Strict priority: the oldest frame of the highest queue that holds one (R258). -/
theorem takeHighest_eq {l : List (List NetOut)} {q : Nat} {x : NetOut} {rest : List NetOut} (hq : l[q]?.getD [] = x :: rest)
    (hhigh : ∀ r, q < r → l[r]?.getD [] = []) : takeHighest l = some (x, l.set q rest) := by
  induction l generalizing q with
  | nil => simp at hq
  | cons w l ih =>
    cases q with
    | zero =>
      have hempty : takeHighest l = none := takeHighest_empty l (fun v hv => by
        obtain ⟨i, hi, rfl⟩ := List.getElem_of_mem hv
        simpa [hi] using hhigh (i + 1) (by omega))
      obtain rfl : w = x :: rest := by simpa using hq
      simp [takeHighest, hempty]
    | succ q =>
      have hrest := ih (q := q) (by simpa using hq) (fun r hr => by simpa using hhigh (r + 1) (by omega))
      simp [takeHighest, hrest]

/-- The frames of port p's queues that it may send. -/
def sendable (s : State) (p : Nat) : List (List NetOut) := (if p == 0 then s.net.egress0 else s.net.egress1).map (fun w => w.filter (mayLeave s p))

@[simp] theorem sendable_queue (s : State) (p q : Nat) : (sendable s p)[q]?.getD [] = (egressAt s p q).filter (mayLeave s p) := by
  simp only [sendable, egressAt, List.getD_eq_getElem?_getD, List.getElem?_map]
  cases (if (p == 0) = true then s.net.egress0 else s.net.egress1)[q]? <;> simp

theorem servePort_down {s : State} {p : Nat} (h : portSpeed s p = 0) : servePort s p = s := by simp [servePort, h]

/-- With no frame that may leave, a port sends none. -/
theorem servePort_idle {s : State} {p : Nat} (h : takeHighest (sendable s p) = none) : servePort s p = s := by
  unfold servePort; split
  · rfl
  · split
    next => rfl
    next heq => cases heq.symm.trans h

theorem servePort_sends {s : State} {p : Nat} {x : NetOut} {rest : List (List NetOut)} (hup : portSpeed s p ≠ 0)
    (h : takeHighest (sendable s p) = some (x, rest)) :
    (servePort s p).net.out = s.net.out ++ [(p, x)] ∧ ∀ q, egressAt (servePort s p) p q = rest.getD q [] := by
  unfold servePort; rw [if_neg (by simpa using hup)]; split
  next heq => cases heq.symm.trans h
  next heq =>
    obtain ⟨rfl, rfl⟩ : _ = x ∧ _ = rest := by simpa using heq.symm.trans h
    by_cases hp : p = 0 <;> simp [egressAt, hp]

/-- A port sends the first of its highest queue, if it may leave; what it may not send any more is gone from the queue (R257, R258). -/
theorem servePort_highest {s : State} {p q : Nat} {x : NetOut} {rest : List NetOut} (hup : portSpeed s p ≠ 0) (hq : egressAt s p q = x :: rest)
    (hx : mayLeave s p x = true) (hhigh : ∀ r, q < r → egressAt s p r = []) :
    (servePort s p).net.out = s.net.out ++ [(p, x)] ∧ egressAt (servePort s p) p q = rest.filter (mayLeave s p) := by
  have hfirst : (sendable s p)[q]?.getD [] = x :: rest.filter (mayLeave s p) := by simp [hq, hx]
  have hlen : q < (sendable s p).length := by
    refine Nat.lt_of_not_le fun hle => ?_
    rw [List.getElem?_eq_none hle] at hfirst
    cases hfirst
  obtain ⟨hout, hleft⟩ := servePort_sends hup (takeHighest_eq hfirst (fun r hr => by simp [hhigh r hr]))
  exact ⟨hout, by simp [hleft, hlen]⟩

theorem servePort_nothing {s : State} {p : Nat} (h : ∀ q, ∀ x ∈ egressAt s p q, mayLeave s p x = false) : servePort s p = s := by
  refine servePort_idle (takeHighest_empty _ (fun w hw => ?_))
  obtain ⟨q, hq, rfl⟩ := List.getElem_of_mem hw
  have hqueue : (sendable s p)[q] = (egressAt s p q).filter (mayLeave s p) := by simpa [hq] using sendable_queue s p q
  rw [hqueue, List.filter_eq_nil_iff]
  intro x hx; simp [h q x hx]

/-! ### A link change -/

@[simp] theorem endStartup_net (s : State) : (endStartup s).net = s.net := by
  unfold endStartup; split <;> simp

@[simp] theorem planFailed_net (s : State) (e : PlanErr) : (planFailed s e).net = s.net := by simp [planFailed]

@[simp] theorem riseLevel_net (k : Nat) (s : State) : (riseLevel k s).net = s.net := by
  induction k generalizing s with
  | zero => rfl
  | succ k ih =>
    unfold riseLevel; split
    · exact ih _
    · rfl

@[simp] theorem enterAccepted_net (s : State) (c : Image) (p : Plan) : (enterAccepted s c p).net = s.net := by
  simp [enterAccepted, installPlan]

@[simp] theorem acceptPlan_net (s : State) : (acceptPlan s).net = s.net := by
  unfold acceptPlan; split <;> simp

@[simp] theorem enterAwait_net (s : State) (byRejoin : Bool) : (enterAwait s byRejoin).net = s.net := by
  unfold enterAwait; dsimp only; split
  · split <;> simp
  · simp

/-- Joining and agreement leave the network island alone. -/
@[simp] theorem tryAgree_net (s : State) : (tryAgree s).net = s.net := by
  unfold tryAgree; split
  · rfl
  · dsimp only; split
    · simp
    · split
      · rfl
      · split
        · simp
        · split
          · simp
          · split <;> simp

@[simp] theorem noteGm_speeds (s : State) (gm : BitVec 64) :
    (noteGm s gm).net.speed0 = s.net.speed0 ∧ (noteGm s gm).net.speed1 = s.net.speed1 := by
  unfold noteGm; split <;> simp

@[simp] theorem decideMaster_speeds (s : State) :
    (decideMaster s).net.speed0 = s.net.speed0 ∧ (decideMaster s).net.speed1 = s.net.speed1 := by
  unfold decideMaster; dsimp only; split <;> simp

@[simp] theorem judgeSync_speeds (s : State) :
    (judgeSync s).net.speed0 = s.net.speed0 ∧ (judgeSync s).net.speed1 = s.net.speed1 := by
  unfold judgeSync; dsimp only; split <;> simp

/-- The speed that a link change leaves a port with: none for a port that is held down (R257, R259). -/
def linkedSpeed (s : State) (p : Nat) (up : Bool) (speed : Nat) : Nat := if !up || (p == 1 && pmodeOf s == 0) then 0 else min 3 (max 1 speed)

theorem portSpeed_linkChange {s : State} {p : Nat} (h : hasPort s p = true) (up : Bool) (speed : Nat) :
    portSpeed (linkChangeEffect p up speed s) p = linkedSpeed s p up speed := by
  have hlt : linkedSpeed s p up speed < 4 := by unfold linkedSpeed; split <;> omega
  unfold linkChangeEffect; rw [if_neg (by simp [h]), ← linkedSpeed]
  generalize linkedSpeed s p up speed = now at hlt ⊢
  by_cases hp : p = 0 <;> simp [portSpeed, hp, apply_ite State.net, Nat.mod_eq_of_lt hlt]

end Sys2Proof.Machine

/-! Links, frames, line forwarding and PRP, as O35 states them. -/
namespace Sys2Proof.Machine

theorem linkChange_completes {s : State} {p : Nat} (hs : awake s = true) (h : hasPort s p = true) (up : Bool) (speed : Nat) :
    Completes (.linkChange p up speed) s (fun t => portSpeed t p = linkedSpeed s p up speed) :=
  completes_finish rfl hs (by rw [← portSpeed_linkChange h up speed]; simp [portSpeed])

/-! ### ARP and discarded frames -/

theorem fromOwn_other {a : AddrRec} {mac : BitVec 48} {ip : BitVec 32} (hm : mac ≠ a.mac) (hi : ip ≠ a.ipv4) : fromOwn a mac ip = false := by
  simp [fromOwn, hm, hi]

/-- A request for the own address is answered to its sender (R261). -/
theorem arpRequest_answers {s : State} {p : Nat} {a : AddrRec} {mac : BitVec 48} {ip : BitVec 32} (h : hasPort s p = true)
    (ha : ownAddr s = some a) (h4 : a.ipv4 ≠ 0) (hm : mac ≠ a.mac) (hi : ip ≠ a.ipv4) :
    arpRequestEffect p a.ipv4 mac ip s = enqueue (countRx s p) p 0 (.arp mac ip) := by
  simp [arpRequestEffect, h, ha, fromOwn_other hm hi, show a.ipv4 ≠ 0#32 from h4]

theorem arpRequest_completes {s : State} {p : Nat} {a : AddrRec} {mac : BitVec 48} {ip : BitVec 32} (hs : awake s = true) (hq : queuesOk s)
    (h : hasPort s p = true) (ha : ownAddr s = some a) (h4 : a.ipv4 ≠ 0) (hm : mac ≠ a.mac) (hi : ip ≠ a.ipv4) :
    Completes (.arpRequest p a.ipv4 mac ip) s (fun t => egressAt t p 0 = egressAt s p 0 ++ [.arp mac ip]) := by
  refine completes_finish rfl hs ?_
  have hqueues : queuesOk (countRx s p) := queuesOk_congr (by simp) (by simp) hq
  rw [egressAt_flush, arpRequest_answers h ha h4 hm hi, egressAt_enqueue_same hqueues p 0 _ (by omega), egressAt_congr (s := s) (by simp) (by simp)]

/-- What a discarded frame leaves in the network island, by the reason for which it is discarded (R257, R260 to R262, R269). -/
theorem netFrameDrop_completes {s : State} {p : Nat} (hs : awake s = true) (h : hasPort s p = true) :
    Completes (.netFrameDrop p .notForUs) s (fun t => t.net.dropCnt = satAdd s.net.dropCnt 1) ∧
    Completes (.netFrameDrop p .overflow) s (fun t => t.net.dropCnt = satAdd s.net.dropCnt 1) ∧
    Completes (.netFrameDrop p .badFrame) s (fun t => t.net.errCnt = satAdd s.net.errCnt 1 ∧ t.net.rx0 = s.net.rx0 ∧ t.net.rx1 = s.net.rx1) ∧
    Completes (.netFrameDrop p .ownAddress) s (fun t => t.net.dropCnt = s.net.dropCnt) ∧
    Completes (.netFrameDrop p .prpDuplicate) s (fun t => t.net.dropCnt = s.net.dropCnt ∧ t.net.errCnt = s.net.errCnt) := by
  refine ⟨completes_finish rfl hs ?_, completes_finish rfl hs ?_, completes_finish rfl hs ?_, completes_finish rfl hs ?_,
    completes_finish rfl hs ?_⟩ <;> simp [netFrameDropEffect, h, dropNet]

/-- A port that the part does not have does nothing (R2). -/
theorem absentPort_idle {s : State} {p : Nat} (h : hasPort s p = false) (hev : eventsPlaced s) :
    (∀ why, exec (.netFrameDrop p why) s = .next s) ∧ (∀ target mac ip, exec (.arpRequest p target mac ip) s = .next s) ∧
    (∀ up speed, exec (.linkChange p up speed) s = .next s) :=
  ⟨fun why => exec_finish_idle rfl (by simp [netFrameDropEffect, h]) hev,
    fun target mac ip => exec_finish_idle rfl (by simp [arpRequestEffect, h]) hev,
    fun up speed => exec_finish_idle rfl (by simp [linkChangeEffect, h]) hev⟩

/-! ### Line forwarding -/

/-- The state in which a frame of sound length is judged: it is counted, unless another command counts it (R269). -/
def lineCounted (s : State) (p : Nat) (f : EthFrame) : State := if takenToo f then s else countRx s p

@[simp] theorem lineCounted_frame (s : State) (p : Nat) (f : EthFrame) :
    (lineCounted s p f).cfg = s.cfg ∧ (lineCounted s p f).sys = s.sys ∧ (lineCounted s p f).net.speed0 = s.net.speed0 ∧
    (lineCounted s p f).net.speed1 = s.net.speed1 ∧ (lineCounted s p f).net.egress0 = s.net.egress0 ∧
    (lineCounted s p f).net.egress1 = s.net.egress1 := by
  unfold lineCounted; split <;> simp

theorem lineForwarding_long {s : State} {p : Nat} {f : EthFrame} (h : hasPort s p = true) (hlen : 1522 < wireSize f) :
    lineForwardingEffect p f s = errorFrame s p := by
  simp [lineForwardingEffect, h, hlen]

/-- A frame of another node for another node, in a line: PAUSE is discarded, everything else forwarded (R258, R259). -/
theorem lineForwarding_passes {s : State} {p : Nat} {f : EthFrame} {a : AddrRec} {c : Image} (h : hasPort s p = true) (ha : ownAddr s = some a)
    (hc : s.cfg = some c) (hm : pmodeOf s = 1) (hlen : wireSize f ≤ 1522) (hown : fromOwn a f.src (wireSrcIp f) = false) (hdst : f.dst ≠ a.mac) :
    lineForwardingEffect p f s = if etherType f = 0x8808 then lineCounted s p f else forwardFrame (lineCounted s p f) c p f := by
  have ha' : ownAddr (lineCounted s p f) = some a := by rw [← ha]; exact ownAddr_congr (by simp)
  have hm' : pmodeOf (lineCounted s p f) = 1 := by rw [← hm]; exact pmodeOf_congr (by simp)
  unfold lineForwardingEffect
  rw [← lineCounted]
  simp [h, Nat.not_lt.mpr hlen, ha', hc, hm', hown, hdst]

/-- KSL and PTP traffic passes only if both ports carry it (R257). -/
theorem forwardFrame_slow {s : State} {c : Image} {p : Nat} {f : EthFrame} (hf : fastTraffic c f = true) (hp : carriesKsl s (1 - p) = false) :
    forwardFrame s c p f = learnMac s f.src p := by
  simp [forwardFrame, hf, hp]

/-- A frame without PTP passes unchanged into the queue of its PCP (R258, R265). -/
theorem forwardFrame_sends {s : State} {c : Image} {p : Nat} {f : EthFrame} (hptp : etherType f ≠ 0x88F7)
    (hf : fastTraffic c f = false ∨ carriesKsl s p = true ∧ carriesKsl s (1 - p) = true) :
    forwardFrame s c p f = enqueue (learnMac s f.src p) (1 - p) (f.tag.elim 0 (fun x => x.1 % 8)) (.forward f) := by
  have hgo : (fastTraffic c f && !(carriesKsl s p && carriesKsl s (1 - p))) = false := by
    rcases hf with hf | ⟨h0, h1⟩ <;> simp [*]
  unfold forwardFrame
  simp only [carriesKsl_learnMac, hgo]
  cases htag : f.tag <;> simp [throughClock, hptp]

theorem lineForwarding_long_completes {s : State} {p : Nat} {f : EthFrame} (hs : awake s = true) (h : hasPort s p = true)
    (hlen : 1522 < wireSize f) : Completes (.lineForwarding p f) s (fun t =>
      t.net.errCnt = satAdd s.net.errCnt 1 ∧ t.net.egress0 = s.net.egress0 ∧ t.net.egress1 = s.net.egress1) :=
  completes_finish rfl hs (by simp [lineForwarding_long h hlen])

theorem lineForwarding_completes {s : State} {p : Nat} {f : EthFrame} {a : AddrRec} {c : Image} (hs : awake s = true) (hp : p < 2)
    (hq : queuesOk s) (h : hasPort s p = true) (ha : ownAddr s = some a) (hc : s.cfg = some c) (hm : pmodeOf s = 1) (hlen : wireSize f ≤ 1522)
    (hown : fromOwn a f.src (wireSrcIp f) = false) (hdst : f.dst ≠ a.mac) :
    (etherType f = 0x8808 → Completes (.lineForwarding p f) s (fun t => t.net.egress0 = s.net.egress0 ∧ t.net.egress1 = s.net.egress1)) ∧
    (etherType f ≠ 0x8808 → etherType f ≠ 0x88F7 → fastTraffic c f = false ∨ (carriesKsl s 0 = true ∧ carriesKsl s 1 = true) →
      Completes (.lineForwarding p f) s (fun t => t.net.macs.head? = some (f.src, p) ∧
        egressAt t (1 - p) (f.tag.elim 0 (fun x => x.1 % 8)) = egressAt s (1 - p) (f.tag.elim 0 (fun x => x.1 % 8)) ++ [.forward f])) ∧
    (etherType f = 0x88B5 → carriesKsl s (1 - p) = false → Completes (.lineForwarding p f) s (fun t =>
      t.net.egress0 = s.net.egress0 ∧ t.net.egress1 = s.net.egress1)) := by
  have heffect := lineForwarding_passes h ha hc hm hlen hown hdst
  have hcarries (k : Nat) : carriesKsl (lineCounted s p f) k = carriesKsl s k := carriesKsl_congr (by simp) (by simp) (by simp) (by simp) k
  refine ⟨fun hty => completes_finish rfl hs ?_, fun hty hptp hfast => completes_finish rfl hs ?_,
    fun hty hslow => completes_finish rfl hs ?_⟩
  · simp [heffect, hty]
  · have hboth : fastTraffic c f = false ∨ carriesKsl (lineCounted s p f) p = true ∧ carriesKsl (lineCounted s p f) (1 - p) = true := by
      rw [hcarries, hcarries]
      obtain rfl | rfl : p = 0 ∨ p = 1 := by omega
      · exact hfast
      · exact hfast.imp id And.symm
    have hqueues : queuesOk (learnMac (lineCounted s p f) f.src p) := queuesOk_congr (by simp) (by simp) hq
    have hpcp : f.tag.elim 0 (fun x => x.1 % 8) < 8 := by cases f.tag <;> simp [Nat.mod_lt]
    rw [heffect, if_neg hty, forwardFrame_sends hptp hboth, egressAt_flush, egressAt_enqueue_same hqueues _ _ _ hpcp,
      egressAt_congr (s := s) (by simp) (by simp)]
    simp
  · have hfast : fastTraffic c f = true := by simp [fastTraffic, hty]
    simp [heffect, hty, forwardFrame_slow hfast (by rwa [hcarries])]

/-! ### PRP and ageing -/

theorem prpSupervision_completes {s : State} {a : AddrRec} (hs : awake s = true) (hq : queuesOk s) (ha : ownAddr s = some a) (hm : a.pmode = 2) :
    Completes .prpSupervision s (fun t => ∀ k, k < 2 → egressAt t k 0 = egressAt s k 0 ++ [.supervision a.mac]) := by
  refine completes_finish rfl hs (fun k hk => ?_)
  have heffect : prpSupervisionEffect s = enqueue (enqueue s 0 0 (.supervision a.mac)) 1 0 (.supervision a.mac) := by
    simp [prpSupervisionEffect, ha, hm]
  rw [egressAt_flush, heffect]
  obtain rfl | rfl : k = 0 ∨ k = 1 := by omega
  · rw [egressAt_enqueue_other _ (by simp), egressAt_enqueue_same hq _ _ _ (by omega)]
  · rw [egressAt_enqueue_same (queuesOk_enqueue hq _ _ _) _ _ _ (by omega), egressAt_enqueue_other _ (by simp)]

/-- The silence of a LAN of a doubly-attached node raises its own event (R260). -/
theorem prpLanSilent_completes {s : State} (hs : awake s = true) (hev : evtReady s) (hm : pmodeOf s = 2) (hv : s.sys.variant ≠ 3) {lan : Nat}
    (hlan : lan < 2) : Completes (.prpLanSilent lan) s (fun t => counted (148 + lan) s t ∧ onlyTouches [.evt, .mail] s t) := by
  obtain ⟨hplaced, hcnt⟩ := hev
  have heffect : prpLanSilentEffect lan s = raise s (148 + lan) lan 0 0 := by
    obtain rfl | rfl : lan = 0 ∨ lan = 1 := by omega
    all_goals simp [prpLanSilentEffect, hm]
  have hraised : neverRaised s.sys.variant (148 + lan) = false := by
    obtain rfl | rfl : lan = 0 ∨ lan = 1 := by omega
    all_goals simp [neverRaised, hv]
  refine completes_finish rfl hs ?_
  rw [heffect]
  refine ⟨counted_of_raised hcnt (by omega) (by omega) (by omega) (by simp) ?_, ((onlyTouches_raise _ _ _ _ _).mono (by simp)).flush (by simp)⟩
  rw [raise_eq hraised, show s.evt.raised = [] from hplaced]
  simp [eventsOf]

/-- Settles O35: each clause is the lemma of its command, and the queues' clauses those of `servePort`. -/
theorem networkIslandSwitches : Obligations.NetworkIslandSwitches := by
  intro s p hs hp hq
  refine ⟨fun h => ?_, fun h hev why ip mac up speed => ?_, fun a ha hm hv => ?_, fun mac hev => ?_, fun q x rest => servePort_highest,
    fun hnone => by rw [servePort_nothing hnone], servePort_down⟩
  · obtain ⟨hnotForUs, hoverflow, hbad, hownAddress, hduplicate⟩ := netFrameDrop_completes hs h
    refine ⟨fun speed h1 h3 hline => ?_, fun h1 hline up speed => ?_, fun speed => ?_, fun a mac ip ha h4 hmac hip => ?_, hnotForUs, hoverflow, hbad,
      hownAddress, hduplicate, fun f => lineForwarding_long_completes hs h, fun a c f => lineForwarding_completes hs hp hq h⟩
    · have hspeed : linkedSpeed s p true speed = speed := by
        rw [linkedSpeed, if_neg (by simpa using hline)]; omega
      simpa only [hspeed] using linkChange_completes hs h true speed
    · have hspeed : linkedSpeed s p up speed = 0 := by simp [linkedSpeed, h1, hline]
      simpa only [hspeed] using linkChange_completes hs h up speed
    · exact linkChange_completes hs h false speed
    · exact arpRequest_completes hs hq h ha h4 hmac hip
  · obtain ⟨hdrop, harp, hlink⟩ := absentPort_idle h hev
    exact ⟨hdrop why, harp ip mac ip, hlink up speed⟩
  · have hpmode : pmodeOf s = 2 := by simp [pmodeOf, ha, hm]
    exact ⟨prpSupervision_completes hs hq ha hm, fun hev lan => prpLanSilent_completes hs hev hpmode hv⟩
  · have hplaced : eventsPlaced (macAgeingEffect mac s) := hev
    exact (finish_awake hs).trans (by rw [flush_of_placed _ hplaced]; rfl)

end Sys2Proof.Machine

/-! Register accesses. -/
namespace Sys2Proof.Machine

/-! ### Reads -/

theorem readReg_unanswered {s : State} (h : s.sys.answers = false) (a : Nat) : readReg s a = 0xFFFFFFFF := by simp [readReg, h]

theorem readReg_stalled {s : State} {a : Nat} (h : s.sys.hostStalled = true) (hp : a / 0x1000 ∉ [0, 2, 14, 15]) : readReg s a = 0xFFFFFFFF := by
  simp only [List.mem_cons, List.not_mem_nil, or_false, not_or] at hp
  simp [readReg, h, hp]

/-- The host island's own pages are read past a stalled crossing (R18). -/
theorem readReg_island {s : State} {a : Nat} (h : s.sys.answers = true) (hp : a / 0x1000 ∈ [0, 2, 14, 15]) (b : Bool) :
    readReg { s with sys := { s.sys with hostStalled := b } } a = readReg s a := by
  simp only [List.mem_cons, List.not_mem_nil, or_false] at hp
  obtain hp | hp | hp | hp := hp <;> simp [readReg, h, hp] <;> rfl

theorem readSpan_word (s : State) {a size : Nat} (h1 : 1 ≤ size) (h4 : a % 4 + size ≤ 4) :
    readSpan s a size = ((bytesOf (readReg s (4 * (a / 4))) 4).drop (a % 4)).take size := by
  have hone : (a + size - 1) / 4 + 1 - a / 4 = 1 := by omega
  simp [readSpan, hone]

theorem readReg_absentSmu {s : State} (hv : hasSmuOf s.sys.variant = false) (ha : s.sys.answers = true) (hc : s.sys.hostStalled = false) {off : Nat}
    (h : off < 0x1000) : readReg s (0x5000 + off) = 0 := by
  have hpage : (0x5000 + off) / 0x1000 = 5 := by omega
  simp [readReg, ha, hc, hpage, smuReg, hv]

/-! ### The outcome of a write -/

theorem registerWrite_eq_finish {s : State} (h : busReach s) (a size : Nat) (x : BitVec 64) :
    exec (.registerWrite a size x) s = finish s (registerWriteEffect a size x s) := by
  obtain ⟨-, hreach, hclear⟩ := h
  change execRegisterWrite a size x s = _
  unfold execRegisterWrite
  split <;> simp [finishHost, finishBus, hreach, hclear]

theorem registerWrite_completes {s : State} {p : State → Prop} (h : busReach s) {a size : Nat} {x : BitVec 64}
    (hp : p (flush (registerWriteEffect a size x s))) : Completes (.registerWrite a size x) s p :=
  completes_finish (registerWrite_eq_finish h a size x) h.1 hp

/-- An effect that raises no event completes as it is. -/
theorem registerWrite_completes_as {s t : State} {p : State → Prop} (h : busReach s) {a size : Nat} {x : BitVec 64}
    (heffect : registerWriteEffect a size x s = t) (hev : eventsPlaced t) (hp : p t) : Completes (.registerWrite a size x) s p :=
  registerWrite_completes h (by rwa [heffect, flush_of_placed t hev])

theorem registerWrite_idle {s : State} (h : busReach s) (hev : eventsPlaced s) {a size : Nat} {x : BitVec 64}
    (hidle : registerWriteEffect a size x s = s) : exec (.registerWrite a size x) s = .next s :=
  exec_finish_idle (registerWrite_eq_finish h a size x) hidle hev

/-- A write across the stalled crossing is abandoned (R18, R432). -/
theorem registerWrite_stalled {s : State} (h : islandReach s) (hc : s.sys.hostStalled = true) {a : Nat} (hp : islandPage (a / 0x1000) = false)
    (size : Nat) (x : BitVec 64) : exec (.registerWrite a size x) s = finish s (raise (sysErr s 0) 2 a 0 0) := by
  change execRegisterWrite a size x s = _
  simp [execRegisterWrite, hp, finishBus, h.2, hc]

theorem setBit_err (e : BitVec 5) : setBit e 0 = e ||| 1 ∧ setBit e 2 = e ||| 4 ∧ setBit e 3 = e ||| 8 ∧ setBit e 4 = e ||| 16 := by
  simp [setBit]

theorem registerWrite_stalled_completes {s : State} (h : islandReach s) (hev : evtReady s) (hc : s.sys.hostStalled = true) {a : Nat}
    (hp : islandPage (a / 0x1000) = false) (size : Nat) (x : BitVec 64) : Completes (.registerWrite a size x) s (fun t =>
      t.sys.err = s.sys.err ||| 1 ∧ counted 1 s t ∧ counted 2 s t ∧ onlyTouches [.sys, .evt, .mail] s t) := by
  obtain ⟨hplaced, hcnt⟩ := hev
  have hraised : (raise (sysErr s 0) 2 a 0 0).evt.raised = [⟨1, (setBit s.sys.err 0).toNat, 0, 0, none⟩, ⟨2, a, 0, 0, none⟩] := by
    rw [raise_eq (by simp [neverRaised])]; simp [sysErr_raised, show s.evt.raised = [] from hplaced]
  refine completes_finish (registerWrite_stalled h hc hp size x) h.1 ⟨?_, ?_, ?_, ?_⟩
  · simp [setBit_err]
  · exact counted_of_raised hcnt (by omega) (by omega) (by omega) (by simp) (by rw [hraised]; rfl)
  · exact counted_of_raised hcnt (by omega) (by omega) (by omega) (by simp) (by rw [hraised]; rfl)
  · exact (((onlyTouches_sysErr s 0).mono (by simp)).trans ((onlyTouches_raise _ _ _ _ _).mono (by simp))).flush (by simp)

/-! ### Writes that are ignored -/

/-- A write of another size or alignment (R432, R435). -/
theorem registerWriteEffect_misfit {s : State} {a size : Nat} (hcfg : a / 0x1000 ≠ 16) (hmsix : a / 0x1000 ≠ 14) (hfit : size ≠ 4 ∨ a % 4 ≠ 0)
    (x : BitVec 64) : registerWriteEffect a size x s =
      (let t := if runRefused s (a / 0x1000) (a % 0x1000) then sysErr s 3 else s
       if quietReg s.sys.variant (a / 0x1000) (a % 0x1000) then t else sysErr t 4) := by
  have halign : a % 0x1000 % 4 = a % 4 := by omega
  simp [registerWriteEffect, hcfg, hmsix, halign, hfit]

/-- A write of another size or alignment sets no error at a register whose rule lets none be set (R432, log 91). -/
theorem registerWriteEffect_misfit_quiet {s : State} {a size : Nat} (hcfg : a / 0x1000 ≠ 16) (hfit : size ≠ 4 ∨ a % 4 ≠ 0)
    (hquiet : quietReg s.sys.variant (a / 0x1000) (a % 0x1000) = true) (hrun : runRefused s (a / 0x1000) (a % 0x1000) = false) (x : BitVec 64) :
    registerWriteEffect a size x s = s := by
  have hmsix : a / 0x1000 ≠ 14 := by
    intro h; simp [h, quietReg, absentReg] at hquiet
  simp [registerWriteEffect_misfit hcfg hmsix hfit, hquiet, hrun]

theorem registerWriteEffect_misfit_loud {s : State} {a size : Nat} (hmsix : a / 0x1000 ≠ 14) (hfit : size ≠ 4 ∨ a % 4 ≠ 0)
    (hquiet : quietReg s.sys.variant (a / 0x1000) (a % 0x1000) = false) (x : BitVec 64) :
    registerWriteEffect a size x s = sysErr (if runRefused s (a / 0x1000) (a % 0x1000) then sysErr s 3 else s) 4 := by
  have hcfg : a / 0x1000 ≠ 16 := by
    intro h; simp [h, quietReg] at hquiet
  simp [registerWriteEffect_misfit hcfg hmsix hfit, hquiet]

/-- The pages that take no write (R52, R172, R204, R228, R255, R269, R289, R394, R411, R440). -/
def readOnlyPages : List Nat := [4, 5, 6, 7, 8, 9, 11, 12, 15]

theorem registerWriteEffect_readOnly {s : State} {a : Nat} (h : a / 0x1000 ∈ readOnlyPages) (size : Nat) (x : BitVec 64) :
    registerWriteEffect a size x s = s := by
  by_cases hfit : size ≠ 4 ∨ a % 4 ≠ 0
  · refine registerWriteEffect_misfit_quiet ?_ hfit ?_ ?_ x
    all_goals generalize a / 0x1000 = page at h ⊢; revert page; simp [readOnlyPages, quietReg, runRefused]
  · obtain ⟨rfl, halign⟩ : size = 4 ∧ a % 0x1000 % 4 = 0 := by omega
    simp only [readOnlyPages, List.mem_cons, List.not_mem_nil, or_false] at h
    obtain h | h | h | h | h | h | h | h | h := h <;> simp [registerWriteEffect, h, halign]

/-- What an absent unit, bank or port lacks lies on pages that take no write (R7). -/
theorem readOnly_of_absentReg {v page off : Nat} (h : absentReg v page off = true) : page ∈ readOnlyPages := by
  simp only [absentReg, Bool.or_eq_true, Bool.and_eq_true, beq_iff_eq] at h
  obtain ((⟨rfl, -⟩ | ⟨rfl, -⟩) | ⟨⟨rfl, -⟩, -⟩) := h <;> decide

/-! ### Writes by page -/

theorem registerWriteEffect_sys {a : Nat} (hp : a / 0x1000 = 1) (halign : a % 4 = 0) (v : BitVec 32) (s : State) :
    registerWriteEffect a 4 (v.setWidth 64) s = writeSys (a % 0x1000) v s := by
  have halign : a % 0x1000 % 4 = 0 := by omega
  simp [registerWriteEffect, hp, halign, absentReg]

theorem registerWriteEffect_hst {a : Nat} (hp : a / 0x1000 = 2) (halign : a % 4 = 0) (v : BitVec 32) (s : State) :
    registerWriteEffect a 4 (v.setWidth 64) s = writeHst (a % 0x1000) v s := by
  have halign : a % 0x1000 % 4 = 0 := by omega
  simp [registerWriteEffect, hp, halign, absentReg]

theorem registerWriteEffect_rdl {a : Nat} (hp : a / 0x1000 = 10) (halign : a % 4 = 0) (v : BitVec 32) (s : State) :
    registerWriteEffect a 4 (v.setWidth 64) s = writeRdl (a % 0x1000) v s := by
  have halign : a % 0x1000 % 4 = 0 := by omega
  simp [registerWriteEffect, hp, halign, absentReg]

theorem registerWriteEffect_evt {a : Nat} (hp : a / 0x1000 = 13) (halign : a % 4 = 0) (v : BitVec 32) (s : State) :
    registerWriteEffect a 4 (v.setWidth 64) s = writeEvt (a % 0x1000) v s := by
  have halign : a % 0x1000 % 4 = 0 := by omega
  simp [registerWriteEffect, hp, halign, absentReg]

theorem registerWriteEffect_msix {a : Nat} (hp : a / 0x1000 = 14) (size : Nat) (x : BitVec 64) (s : State) :
    registerWriteEffect a size x s = writeMsixWide (a % 0x1000) size x s := by
  simp [registerWriteEffect, hp]

theorem registerWriteEffect_pci {a : Nat} (hp : a / 0x1000 = 16) (size : Nat) (x : BitVec 64) (s : State) :
    registerWriteEffect a size x s = pciConfigWrite (a % 0x1000) size x s := by
  simp [registerWriteEffect, hp]

/-- SYS_IDREV takes no write and records none (R4). -/
theorem registerWriteEffect_idrev {s : State} {a : Nat} (h : a / 4 = 0x400) (size : Nat) (x : BitVec 64) : registerWriteEffect a size x s = s := by
  have hp : a / 0x1000 = 1 := by omega
  have hoff : a % 0x1000 < 4 := by omega
  by_cases hfit : size ≠ 4 ∨ a % 4 ≠ 0
  · exact registerWriteEffect_misfit_quiet (by omega) hfit (by simp [hp, quietReg, hoff]) (by simp [hp, runRefused]; omega) x
  · obtain ⟨rfl, halign⟩ : size = 4 ∧ a % 4 = 0 := by omega
    simp [registerWriteEffect, hp, show a % 0x1000 = 0 by omega, absentReg, writeSys]

/-- In RUN the SYS page refuses every write but that to SYS_IDREV (R435). -/
theorem writeSys_run {s : State} (h : s.lan.inRun = true) {off : Nat} (hoff : off ≠ 0) (v : BitVec 32) : writeSys off v s = sysErr s 3 := by
  simp [writeSys, h, hoff]

/-- SYS_RESET without its key is recorded (R437). -/
theorem writeReset_badKey {s : State} (hrun : s.lan.inRun = false) {v : BitVec 32} (hkey : (v >>> 16).toNat ≠ 0xC3A5) :
    writeReset v s = sysErr s 2 := by
  unfold writeReset; rw [if_neg (by simp [hrun]), if_pos (bne_iff_ne.mpr hkey)]

/-! ### EVT_MAP -/

/-- A block of a list that is overwritten holds what was written, and the rest of the list is as it was. -/
theorem foldl_set_getD {α : Type} (f : Nat → α) (d : α) (base n : Nat) (l : List α) :
    (∀ k, k < n → base + n ≤ l.length → ((List.range n).foldl (fun l k => l.set (base + k) (f k)) l).getD (base + k) d = f k) ∧
    (∀ j, j < base ∨ base + n ≤ j → ((List.range n).foldl (fun l k => l.set (base + k) (f k)) l).getD j d = l.getD j d) := by
  have hlen : ∀ n, ((List.range n).foldl (fun l k => l.set (base + k) (f k)) l).length = l.length := by
    intro n; induction n with
    | zero => rfl
    | succ n ih => simp [List.range_succ, ih]
  induction n with
  | zero => simp
  | succ n ih =>
    obtain ⟨hin, hout⟩ := ih
    simp only [List.range_succ, List.foldl_append, List.foldl_cons, List.foldl_nil]
    refine ⟨fun k hk hl => ?_, fun j hj => ?_⟩
    · obtain rfl | hlt : k = n ∨ k < n := by omega
      · simp [hlen, show base + k < l.length by omega]
      · rw [← hin k hlt (by omega)]
        simp [List.getElem?_set_ne (show base + n ≠ base + k by omega)]
    · rw [← hout j (by omega)]
      simp [List.getElem?_set_ne (show base + n ≠ j by omega)]

/-- EVT_MAPi holds the vectors of sources 4i to 4i + 3, and no other register of the file changes (R439). -/
theorem writeEvt_map {s : State} (hrun : s.lan.inRun = false) {i : Nat} (hi : i < 64) (hmap : s.evt.map.length = 256) (v : BitVec 32) :
    ∃ m, writeEvt (4 * i) v s = { s with evt := { s.evt with map := m } } ∧
      (∀ k, k < 4 → m.getD (4 * i + k) 0 = BitVec.ofNat 5 (v.toNat / 2 ^ (8 * k))) ∧ ∀ j, j / 4 ≠ i → m.getD j 0 = s.evt.map.getD j 0 := by
  have hword := foldl_set_getD (fun k => BitVec.ofNat 5 (nbits v.toNat (8 * k + 4) (8 * k))) 0 (4 * i) 4 s.evt.map
  obtain ⟨hin, hout⟩ := hword
  refine ⟨_, ?_, fun k hk => ?_, fun j hj => hout j (by omega)⟩
  · have hoff : 4 * i / 4 * 4 = 4 * i := by omega
    unfold writeEvt
    rw [if_neg (by omega), if_neg (by simp [hrun]), hoff]
  · rw [hin k hk (by omega)]
    apply BitVec.eq_of_toNat_eq
    simp [nbits, show 8 * k + 4 + 1 - 8 * k = 5 by omega]

theorem writeEvt_run {s : State} (h : s.lan.inRun = true) {off : Nat} (hoff : off < 0x100) (v : BitVec 32) : writeEvt off v s = sysErr s 3 := by
  unfold writeEvt; rw [if_neg (Nat.not_le.mpr hoff), if_pos h]

/-! ### The MSI-X table -/

/-- Change entry k of the MSI-X table. -/
def modMsix (s : State) (k : Nat) (g : MsixSt → MsixSt) : State := { s with host := { s.host with msix := modAt s.host.msix k g } }

/-- Entry k of the MSI-X table. -/
def msixAt (s : State) (k : Nat) : MsixSt := s.host.msix.getD k MsixSt.reset

theorem msixAt_modMsix {s : State} {k : Nat} (h : k < s.host.msix.length) (g : MsixSt → MsixSt) : msixAt (modMsix s k g) k = g (msixAt s k) :=
  modAt_getD_same _ _ _ _ h

theorem modMsix_msix_length (s : State) (k : Nat) (g : MsixSt → MsixSt) : (modMsix s k g).host.msix.length = s.host.msix.length := modAt_length _ _ _

theorem onlyTouches_modMsix (s : State) (k : Nat) (g : MsixSt → MsixSt) : onlyTouches [.host] s (modMsix s k g) := onlyTouches_island s _ rfl rfl rfl

theorem writeMsix_addrLow {k : Nat} (h : k < 32) (v : BitVec 32) (s : State) :
    writeMsix (16 * k) v s = modMsix s k (fun m => { m with addr := setHalf m.addr false v }) := by
  have hk : 16 * k / 16 = k := by omega
  have hoff : 16 * k % 16 = 0 := by omega
  unfold writeMsix; rw [if_neg (by omega), hk, hoff]; rfl

theorem writeMsix_addrHigh {k : Nat} (h : k < 32) (v : BitVec 32) (s : State) :
    writeMsix (16 * k + 4) v s = modMsix s k (fun m => { m with addr := setHalf m.addr true v }) := by
  have hk : (16 * k + 4) / 16 = k := by omega
  have hoff : (16 * k + 4) % 16 = 4 := by omega
  unfold writeMsix; rw [if_neg (by omega), hk, hoff]; rfl

/-- Entry k of the MSI-X table takes a vector control word: its mask bit alone (R440). -/
def setVectorCtrl (s : State) (k : Nat) (v : BitVec 32) : State := modMsix s k (fun m => { m with ctrl := v &&& 1 })

theorem msixAt_setVectorCtrl {s : State} {k : Nat} (h : k < s.host.msix.length) (v : BitVec 32) :
    msixAt (setVectorCtrl s k v) k = { msixAt s k with ctrl := v &&& 1 } := msixAt_modMsix h _

/-- A vector that its control word unmasks may send where the function may (R314). -/
theorem maySend_setVectorCtrl {s : State} {k : Nat} {v : BitVec 32} (h : k < s.host.msix.length) (hdma : dmaOk s = true)
    (hen : s.host.pci.msixEn = true) (hmask : s.host.pci.msixMask = false) (hv : v.getLsbD 0 = false) :
    maySend (setVectorCtrl s k v) k = true := by
  rw [maySend, ← msixAt, msixAt_setVectorCtrl h]
  simp_all [setVectorCtrl, modMsix, dmaOk]

theorem writeMsix_ctrl {k : Nat} (h : k < 32) (v : BitVec 32) (s : State) :
    writeMsix (16 * k + 12) v s = sendPending (setVectorCtrl s k v) k := by
  have hk : (16 * k + 12) / 16 = k := by omega
  have hoff : (16 * k + 12) % 16 = 12 := by omega
  unfold writeMsix; rw [if_neg (by omega), hk, hoff]; rfl

/-- The two halves of a 64-bit value, written one after the other, are the value. -/
theorem setHalf_both (old x : BitVec 64) : setHalf (setHalf old false (x.setWidth 32)) true ((x >>> 32).setWidth 32) = x := by
  apply BitVec.eq_of_getLsbD_eq
  intro i hi
  simp only [setHalf, if_true, Bool.false_eq_true, if_false, BitVec.getLsbD_append, BitVec.getLsbD_setWidth, BitVec.getLsbD_ushiftRight]
  by_cases h : i < 32
  · simp [h]
  · simp [h, Nat.add_sub_cancel' (Nat.le_of_not_lt h), show i - 32 < 32 by omega]

/-- A 64-bit write at the start of an entry sets its address and nothing else of it (R440). -/
theorem writeMsixWide_addr {s : State} {k : Nat} (h : k < 32) (hlen : s.host.msix.length = 32) (x : BitVec 64) :
    onlyTouches [.host] s (writeMsixWide (16 * k) 8 x s) ∧ (writeMsixWide (16 * k) 8 x s).evt = s.evt ∧
    (msixAt (writeMsixWide (16 * k) 8 x s) k).addr = x ∧ (msixAt (writeMsixWide (16 * k) 8 x s) k).data = (msixAt s k).data := by
  have hoff : 16 * k % 8 = 0 := by omega
  have heffect : writeMsixWide (16 * k) 8 x s =
      writeMsix (16 * k + 4) ((x >>> 32).setWidth 32) (writeMsix (16 * k) (x.setWidth 32) s) := by simp [writeMsixWide, hoff]
  rw [heffect, writeMsix_addrLow h, writeMsix_addrHigh h]
  refine ⟨(onlyTouches_modMsix _ _ _).trans (onlyTouches_modMsix _ _ _), rfl, ?_⟩
  rw [msixAt_modMsix (by rw [modMsix_msix_length]; omega), msixAt_modMsix (by omega)]
  exact ⟨setHalf_both _ x, rfl⟩

theorem onlyTouches_sendPending (s : State) (v : Nat) : onlyTouches [.mail] s (sendPending s v) := by
  intro p; unfold sendPending; dsimp only; split <;> cases p <;> simp [samePart, islandCore]

theorem onlyTouches_sendAllPending (s : State) : onlyTouches [.mail] s (sendAllPending s) := by
  unfold sendAllPending
  generalize List.range 32 = l
  induction l generalizing s with
  | nil => exact fun p => by cases p <;> simp [samePart]
  | cons v l ih => exact (onlyTouches_sendPending s v).trans (ih _)

theorem clearBit_getLsbD_same {w : Nat} (x : BitVec w) {i : Nat} (h : i < w) : (clearBit x i).getLsbD i = false := by
  rw [clearBit, BitVec.getLsbD_and, BitVec.getLsbD_not, BitVec.getLsbD_ofNat, Nat.testBit_two_pow_self]; simp [h]

/-- A vector that becomes able to send has its pending bit cleared and its message sent (R314, R440). -/
theorem sendPending_sends {s : State} {v : Nat} (hv : v < 32) (hpba : s.host.pba.getLsbD v = true) (hsend : maySend s v = true) :
    (sendPending s v).host.pba.getLsbD v = false ∧ (sendPending s v).host.posted = s.host.posted ++ [.msix v (msixAt s v).addr (msixAt s v).data] := by
  simp [sendPending, hpba, hsend, post, clearBit_getLsbD_same _ hv, msixAt]

theorem sendPending_msix (s : State) (v : Nat) : (sendPending s v).host.msix = s.host.msix := by
  unfold sendPending; dsimp only; split <;> simp

/-! ### Configuration space -/

theorem leBytes_length (n x : Nat) : (leBytes n x).length = n := by
  induction n generalizing x with
  | zero => rfl
  | succ n ih => simp [leBytes, ih]

theorem leOf_leBytes (n x : Nat) : leOf (leBytes n x) = x % 256 ^ n := by
  induction n generalizing x with
  | zero => simp [leBytes, leOf, Nat.mod_one]
  | succ n ih => simp [leBytes, leOf, ih, Nat.pow_succ', Nat.mod_mul]

/-- The registers of configuration space that the host writes take new values. -/
def setPci (s : State) (p : PciSt) : State := { s with host := { s.host with pci := p } }

/-- A write of a whole word of configuration space replaces the word (R314). -/
theorem pciConfigWrite_word {off : Nat} (h : off % 4 = 0) (v : BitVec 32) (s : State) :
    pciConfigWrite off 4 (v.setWidth 64) s = sendAllPending (setPci s (pciSet off v s.host.pci)) := by
  have hbase : off / 4 * 4 = off := by omega
  have hbytes : leOf (bytesOf (v.setWidth 64) 4) = v.toNat := by simp [bytesOf, leOf_leBytes, Nat.mod_eq_of_lt v.isLt]
  have hlen : (bytesOf (v.setWidth 64) 4).length = 4 := leBytes_length _ _
  have hold (x : BitVec 32) : (bytesOf x 4).drop 4 = [] := by simp [bytesOf, leBytes_length]
  simp [pciConfigWrite, setPci, h, hbase, hold, leAt, slice, List.take_of_length_le (Nat.le_of_eq hlen), hbytes]

end Sys2Proof.Machine

/-! Register accesses, as O54 states them. -/
namespace Sys2Proof.Machine

/-! ### What a register write leaves -/

section
variable {s : State} (hs : busReach s)
include hs

theorem registerWrite_misfit_completes {a size : Nat} (hmsix : a / 0x1000 ≠ 14)
    (hquiet : quietReg s.sys.variant (a / 0x1000) (a % 0x1000) = false) (hfit : size ≠ 4 ∨ a % 4 ≠ 0) (x : BitVec 64) :
    Completes (.registerWrite a size x) s (fun t =>
      t.sys.err = s.sys.err ||| (if runRefused s (a / 0x1000) (a % 0x1000) then 24 else 16) ∧ onlyTouches [.sys, .evt, .mail] s t) := by
  refine registerWrite_completes hs ?_
  rw [registerWriteEffect_misfit_loud hmsix hfit hquiet]
  have herr (t : State) : onlyTouches [.sys, .evt, .mail] t (sysErr t 4) := (onlyTouches_sysErr t 4).mono (by simp)
  split
  · refine ⟨?_, (((onlyTouches_sysErr s 3).mono (by simp)).trans (herr _)).flush (by simp)⟩
    simp [setBit_err, BitVec.or_assoc]
  · exact ⟨by simp [setBit_err], (herr s).flush (by simp)⟩

/-- A register of the SYS page, of EVT_MAP or RDL_STATUS records a write of another size as ACCESS alone outside RUN (R435). -/
theorem registerWrite_size_completes {a size : Nat} (h : (a / 0x1000 = 1 ∧ 4 ≤ a % 0x1000 ∧ a % 0x1000 < 0x30) ∨
      (a / 0x1000 = 13 ∧ a % 0x1000 < 0x100) ∨ (a / 0x1000 = 10 ∧ a % 0x1000 < 4))
    (hrun : s.lan.inRun = false) (hsize : size ≠ 4) (x : BitVec 64) :
    Completes (.registerWrite a size x) s (fun t => t.sys.err = s.sys.err ||| 16) := by
  have hmsix : a / 0x1000 ≠ 14 := by omega
  have hquiet : quietReg s.sys.variant (a / 0x1000) (a % 0x1000) = false := by
    obtain ⟨hp, hlo, hhi⟩ | ⟨hp, hoff⟩ | ⟨hp, hoff⟩ := h <;> simp [quietReg, absentReg, hp] <;> omega
  refine (registerWrite_misfit_completes hs hmsix hquiet (.inl hsize) x).mono fun t ht => ?_
  simpa [runRefused, hrun] using ht.1

/-- The MSI-X control word of configuration space (R314, log 157). -/
theorem registerWrite_msixControl_completes (hev : eventsPlaced s) (v : BitVec 32) :
    Completes (.registerWrite 0x10050 4 (v.setWidth 64)) s (fun t =>
      t.host.pci = { s.host.pci with msixEn := v.getLsbD 31, msixMask := v.getLsbD 30 } ∧ onlyTouches [.host, .mail] s t) := by
  have heffect : registerWriteEffect 0x10050 4 (v.setWidth 64) s = sendAllPending (setPci s (pciSet 0x50 v s.host.pci)) := by
    rw [registerWriteEffect_pci (by omega), pciConfigWrite_word (by omega)]
  have hsent := onlyTouches_sendAllPending (setPci s (pciSet 0x50 v s.host.pci))
  have hplaced := congrArg EvtSt.raised (hsent.evt_eq (by simp))
  have hpci := congrArg HostSt.pci (hsent.island_eq (by simp))
  exact registerWrite_completes_as hs heffect (hplaced.trans hev) ⟨hpci, (onlyTouches_host s _).trans (hsent.mono (by simp))⟩

theorem registerWrite_msixAddr_completes (hev : eventsPlaced s) {k : Nat} (hk : k < 32) (hlen : s.host.msix.length = 32) (x : BitVec 64) :
    Completes (.registerWrite (0xE000 + 16 * k) 8 x) s (fun t =>
      (msixAt t k).addr = x ∧ (msixAt t k).data = (msixAt s k).data ∧ onlyTouches [.host] s t) := by
  have heffect : registerWriteEffect (0xE000 + 16 * k) 8 x s = writeMsixWide (16 * k) 8 x s := by
    rw [registerWriteEffect_msix (by omega), show (0xE000 + 16 * k) % 0x1000 = 16 * k by omega]
  obtain ⟨htouch, hevt, haddr, hdata⟩ := writeMsixWide_addr hk hlen x
  exact registerWrite_completes_as hs heffect ((congrArg EvtSt.raised hevt).trans hev) ⟨haddr, hdata, htouch⟩

theorem registerWrite_msixCtrl_completes (hev : eventsPlaced s) {k : Nat} (hk : k < 32) (hlen : s.host.msix.length = 32) (v : BitVec 32) :
    Completes (.registerWrite (0xE00C + 16 * k) 4 (v.setWidth 64)) s (fun t => (msixAt t k).ctrl = v &&& 1 ∧
      (s.host.pba.getLsbD k = true → dmaOk s = true → s.host.pci.msixEn = true → s.host.pci.msixMask = false → v.getLsbD 0 = false →
        t.host.pba.getLsbD k = false ∧ t.host.posted = s.host.posted ++ [.msix k (msixAt s k).addr (msixAt s k).data])) := by
  have hoff : (0xE00C + 16 * k) % 0x1000 = 16 * k + 12 := by omega
  have hwide : writeMsixWide (16 * k + 12) 4 (v.setWidth 64) s = writeMsix (16 * k + 12) v s := by
    simp [writeMsixWide, show (16 * k + 12) % 4 = 0 by omega]
  have heffect : registerWriteEffect (0xE00C + 16 * k) 4 (v.setWidth 64) s = sendPending (setVectorCtrl s k v) k := by
    rw [registerWriteEffect_msix (by omega), hoff, hwide, writeMsix_ctrl hk]
  have hplaced := congrArg EvtSt.raised ((onlyTouches_sendPending (setVectorCtrl s k v) k).evt_eq (by simp))
  have hentry := msixAt_setVectorCtrl (hlen ▸ hk) v
  refine registerWrite_completes_as hs heffect (hplaced.trans hev)
    ⟨by rw [msixAt, sendPending_msix, ← msixAt, hentry], fun hpba hdma hen hmask hv => ?_⟩
  have hmessage := sendPending_sends (s := setVectorCtrl s k v) hk hpba (maySend_setVectorCtrl (hlen ▸ hk) hdma hen hmask hv)
  rwa [hentry] at hmessage

theorem registerWrite_sysErr_completes (hev : eventsPlaced s) (hrun : s.lan.inRun = false) (v : BitVec 32) :
    Completes (.registerWrite 0x1018 4 (v.setWidth 64)) s (fun t =>
      t.sys = { s.sys with err := s.sys.err &&& ~~~ (v.setWidth 5) } ∧ onlyTouches [.sys] s t) := by
  have heffect : registerWriteEffect 0x1018 4 (v.setWidth 64) s = { s with sys := { s.sys with err := s.sys.err &&& ~~~ (v.setWidth 5) } } := by
    rw [registerWriteEffect_sys (by omega) (by omega)]; simp [writeSys, hrun]
  exact registerWrite_completes_as hs heffect hev ⟨rfl, onlyTouches_sys s _⟩

theorem registerWrite_wakeMask_completes (hev : eventsPlaced s) (hrun : s.lan.inRun = false) (v : BitVec 32) :
    Completes (.registerWrite 0x1020 4 (v.setWidth 64)) s (fun t => t.sys = { s.sys with wakeMask := v } ∧ onlyTouches [.sys] s t) := by
  have heffect : registerWriteEffect 0x1020 4 (v.setWidth 64) s = { s with sys := { s.sys with wakeMask := v } } := by
    rw [registerWriteEffect_sys (by omega) (by omega)]; simp [writeSys, hrun]
  exact registerWrite_completes_as hs heffect hev ⟨rfl, onlyTouches_sys s _⟩

/-- SYS_RESET without its key (R437). -/
theorem registerWrite_badKey_completes (hrun : s.lan.inRun = false) {v : BitVec 32} (hkey : (v >>> 16).toNat ≠ 0xC3A5) :
    Completes (.registerWrite 0x1014 4 (v.setWidth 64)) s (fun t =>
      t.sys = { s.sys with err := s.sys.err ||| 4 } ∧ onlyTouches [.sys, .evt, .mail] s t) := by
  have heffect : registerWriteEffect 0x1014 4 (v.setWidth 64) s = sysErr s 2 := by
    rw [registerWriteEffect_sys (by omega) (by omega), ← writeReset_badKey hrun hkey]; simp [writeSys, hrun]
  refine registerWrite_completes hs ?_
  rw [heffect]
  exact ⟨by simp [setBit_err], ((onlyTouches_sysErr s 2).mono (by simp)).flush (by simp)⟩

theorem registerWrite_evtMap_completes (hev : eventsPlaced s) (hrun : s.lan.inRun = false) {i k : Nat} (hi : i < 64) (hk : k < 4)
    (hmap : s.evt.map.length = 256) (v : BitVec 32) : Completes (.registerWrite (0xD000 + 4 * i) 4 (v.setWidth 64)) s (fun t =>
      t.evt.map.getD (4 * i + k) 0 = BitVec.ofNat 5 (v.toNat / 2 ^ (8 * k)) ∧
      (∀ j, j / 4 ≠ i → t.evt.map.getD j 0 = s.evt.map.getD j 0) ∧ onlyTouches [.evt] s t) := by
  obtain ⟨m, hwrite, hin, hout⟩ := writeEvt_map hrun hi hmap v
  have heffect : registerWriteEffect (0xD000 + 4 * i) 4 (v.setWidth 64) s = { s with evt := { s.evt with map := m } } := by
    rw [registerWriteEffect_evt (by omega) (by omega), show (0xD000 + 4 * i) % 0x1000 = 4 * i by omega, hwrite]
  exact registerWrite_completes_as hs heffect hev ⟨hin k hk, hout, onlyTouches_evt s _⟩

/-- A write that is refused in RUN records RUN (R435). -/
theorem registerWrite_refused_completes {a : Nat} {v : BitVec 32} (heffect : registerWriteEffect a 4 (v.setWidth 64) s = sysErr s 3) :
    Completes (.registerWrite a 4 (v.setWidth 64)) s (fun t => t.sys = { s.sys with err := s.sys.err ||| 8 } ∧ t.evt.map = s.evt.map) :=
  registerWrite_completes hs (by rw [heffect]; simp [setBit_err])

theorem registerWrite_hstErr_completes (hev : eventsPlaced s) (v : BitVec 32) :
    Completes (.registerWrite 0x2008 4 (v.setWidth 64)) s (fun t =>
      t.host = { s.host with err := s.host.err &&& ~~~ (v.setWidth 7) } ∧ onlyTouches [.host] s t) := by
  have heffect : registerWriteEffect 0x2008 4 (v.setWidth 64) s = { s with host := { s.host with err := s.host.err &&& ~~~ (v.setWidth 7) } } := by
    rw [registerWriteEffect_hst (by omega) (by omega)]; rfl
  exact registerWrite_completes_as hs heffect hev ⟨rfl, onlyTouches_island s _ rfl rfl rfl⟩

theorem registerWrite_rdlStatus_completes (hev : eventsPlaced s) (v : BitVec 32) :
    Completes (.registerWrite 0xA000 4 (v.setWidth 64)) s (fun t =>
      t.rdl = { s.rdl with entry := s.rdl.entry && !v.getLsbD 2, mismatch := s.rdl.mismatch && !v.getLsbD 1 } ∧ onlyTouches [.rdl] s t) := by
  have heffect : registerWriteEffect 0xA000 4 (v.setWidth 64) s =
      { s with rdl := { s.rdl with entry := s.rdl.entry && !v.getLsbD 2, mismatch := s.rdl.mismatch && !v.getLsbD 1 } } := by
    rw [registerWriteEffect_rdl (by omega) (by omega)]; rfl
  exact registerWrite_completes_as hs heffect hev ⟨rfl, onlyTouches_rdl s _⟩

end

/-- Settles O54: the reads from what `readReg` answers, each write from the effect that its page gives it. -/
theorem registerWritesFollowAccess : Obligations.RegisterWritesFollowAccess := by
  refine ⟨fun s a size => ⟨fun h => readReg_unanswered h a, readReg_stalled, readReg_island, readSpan_word s,
    fun hv ha hc off h => ⟨by simp [absentReg, hv], readReg_absentSmu hv ha hc h⟩,
    fun h hev hc hp x => registerWrite_stalled_completes h hev hc hp size x⟩, fun s v hs hev => ?_⟩
  refine ⟨fun a size x hmsix hquiet hfit => registerWrite_misfit_completes hs hmsix hquiet hfit x,
    fun a size x hp hquiet hrun hfit => registerWrite_idle hs hev (registerWriteEffect_misfit_quiet (by omega) hfit hquiet hrun x),
    fun a size x h => registerWrite_idle hs hev ?_,
    fun a size x h => registerWrite_idle hs hev (registerWriteEffect_readOnly h size x),
    fun a size x h hrun hsize => registerWrite_size_completes hs h hrun hsize x,
    registerWrite_msixControl_completes hs hev v,
    fun k x hk hlen => registerWrite_msixAddr_completes hs hev hk hlen x,
    fun hrun => ⟨registerWrite_sysErr_completes hs hev hrun v, registerWrite_wakeMask_completes hs hev hrun v,
      registerWrite_badKey_completes hs hrun, fun i k hi hk hmap => registerWrite_evtMap_completes hs hev hrun hi hk hmap v⟩,
    fun hrun => ⟨?_, ?_, fun i hi => ?_⟩,
    registerWrite_hstErr_completes hs hev v, registerWrite_rdlStatus_completes hs hev v,
    fun k hk hlen => registerWrite_msixCtrl_completes hs hev hk hlen v⟩
  · exact h.elim (fun hidrev => registerWriteEffect_idrev hidrev size x) (fun habsent =>
      registerWriteEffect_readOnly (readOnly_of_absentReg habsent) size x)
  · refine (registerWrite_refused_completes hs ?_).mono fun t ht => ht.1
    rw [registerWriteEffect_sys (by omega) (by omega), writeSys_run hrun (by omega)]
  · refine (registerWrite_refused_completes hs ?_).mono fun t ht => ht.1
    rw [registerWriteEffect_sys (by omega) (by omega), writeSys_run hrun (by omega)]
  · refine registerWrite_refused_completes hs ?_
    rw [registerWriteEffect_evt (by omega) (by omega), writeEvt_run hrun (by omega)]

end Sys2Proof.Machine

/-! Halts, power states and module-wide faults. -/
namespace Sys2Proof.Machine

/-! ### What a fold of effects leaves -/

/-- A fold of effects keeps what each of them keeps. -/
theorem foldl_keeps {σ α β : Type} (p : σ → β) {f : σ → α → σ} (hf : ∀ s a, p (f s a) = p s) (l : List α) (s : σ) : p (l.foldl f s) = p s := by
  induction l generalizing s with
  | nil => rfl
  | cons a l ih => exact (ih (f s a)).trans (hf s a)

theorem onlyTouches.refl {l : List Part} {s : State} : onlyTouches l s s := fun p => .inr (by cases p <;> simp [samePart])

theorem onlyTouches.foldl {α : Type} {k : List Part} {f : State → α → State} (hf : ∀ s a, onlyTouches k s (f s a)) (l : List α) (s : State) :
    onlyTouches k s (l.foldl f s) := by
  induction l generalizing s with
  | nil => exact .refl
  | cons a l ih => exact (hf s a).trans (ih _)

/-- A part outside the list is the same. -/
theorem onlyTouches.same {l : List Part} {s t : State} (h : onlyTouches l s t) (p : Part) (hp : p ∉ l) : samePart s t p := (h p).resolve_left hp

/-! ### Power states and halts -/

/-- Whether or not the power state changes, it is the new one, and no other register of the SYS page moves (R412). -/
@[simp] theorem enterPwr_sys (s : State) (p : Nat) : (enterPwr s p).sys = { s.sys with pwr := p } := by
  unfold enterPwr; split
  next h => rw [← beq_iff_eq.mp h]
  next => simp

theorem onlyTouches_enterPwr (s : State) (p : Nat) : onlyTouches [.sys, .evt] s (enterPwr s p) := by
  unfold enterPwr; split
  · exact .refl
  · exact ((onlyTouches_sys s _).mono (by simp)).trans ((onlyTouches_raise _ _ _ _ _).mono (by simp))

theorem onlyTouches_endStartup (s : State) : onlyTouches [.sys, .evt] s (endStartup s) := by
  unfold endStartup; split
  · exact .refl
  · exact ((onlyTouches_sys s _).mono (by simp)).trans ((onlyTouches_raise _ _ _ _ _).mono (by simp))

/-- The end of start-up is noted, and nothing else of the SYS page changes (R370). -/
@[simp] theorem endStartup_sys (s : State) : (endStartup s).sys = { s.sys with ended := true } := by
  unfold endStartup; split
  next h => rw [← h]
  next => simp

theorem onlyTouches_post (s : State) (x : Post) : onlyTouches [.mail] s (post s x) := by
  intro p; cases p <;> simp [samePart, post, islandCore]

theorem onlyTouches_endCmd (s : State) (o : Outst) (status : Nat) (rej : Nat × Nat) (outlen : Nat) (result : Bytes) :
    onlyTouches [.host, .fus] s (endCmd s o status rej outlen result) := by
  intro p; unfold endCmd endAt noteFusLast; dsimp only; split <;> cases p <;> simp [samePart]

theorem onlyTouches_endDiag (s : State) (n : Nat) (o : Outst) : onlyTouches [.host, .fus, .mail] s (endDiag s n o) := by
  have hend (t : State) (status : Nat) (rej : Nat × Nat) (outlen : Nat) (result : Bytes) :
      onlyTouches [.host, .fus, .mail] t (endCmd t o status rej outlen result) := (onlyTouches_endCmd t o status rej outlen result).mono (by simp)
  unfold endDiag; dsimp only; split
  · exact hend _ _ _ _ _
  · split
    · exact hend _ _ _ _ _
    · exact ((onlyTouches_post s _).mono (by simp)).trans (hend _ _ _ _ _)

theorem onlyTouches_settleDiags (s : State) : onlyTouches [.host, .fus, .mail] s (settleDiags s) := by
  unfold settleDiags; split
  · exact .refl
  · exact .foldl (fun t o => onlyTouches_endDiag t _ o) _ _

@[simp] theorem settleDiags_frame (s : State) :
    (settleDiags s).sys = s.sys ∧ (settleDiags s).lan = s.lan ∧ (settleDiags s).fns = s.fns ∧ (settleDiags s).cfg = s.cfg :=
  have h := onlyTouches_settleDiags s
  ⟨h.same .sys (by simp), h.same .lan (by simp), h.same .fns (by simp), h.same .cfg (by simp)⟩

@[simp] theorem enterPwr_frame (s : State) (p : Nat) :
    (enterPwr s p).lan = s.lan ∧ (enterPwr s p).fns = s.fns ∧ (enterPwr s p).cfg = s.cfg :=
  have h := onlyTouches_enterPwr s p
  ⟨h.same .lan (by simp), h.same .fns (by simp), h.same .cfg (by simp)⟩

@[simp] theorem endStartup_lan (s : State) : (endStartup s).lan = s.lan := (onlyTouches_endStartup s).same .lan (by simp)

/-- A halt leaves the module in HOLD with its cause, and no step or frame runs (R367, R368). -/
theorem haltModule_halts (s : State) (cause : Nat) : haltedFor cause (haltModule s cause) := by
  unfold haltModule haltedFor; dsimp only; split <;> simp [sendAllOff]

/-- A halt does not touch FSTATE. -/
@[simp] theorem haltModule_fstate (s : State) (cause : Nat) : (haltModule s cause).lan.fstate = s.lan.fstate := by
  unfold haltModule; dsimp only; split <;> simp [sendAllOff]

@[simp] theorem haltedFor_flush (cause : Nat) (s : State) : haltedFor cause (flush s) ↔ haltedFor cause s := by simp [haltedFor]

end Sys2Proof.Machine

/-! Module-wide faults. -/
namespace Sys2Proof.Machine

/-! ### What the safe states of the functions leave -/

/-- The lane page but for the diagnosis in progress, which a function that takes its safe state leaves (R135). -/
def lanCore (x : LanSt) : LanSt := { x with diag := none }

/-- t is s with functions in their safe states: their words, the log, the events and the diagnosis may differ. -/
structure SafeStep (s t : State) : Prop where
  touches : onlyTouches [.fns, .lan, .nv, .evt] s t
  lan : lanCore t.lan = lanCore s.lan

theorem SafeStep.refl (s : State) : SafeStep s s := ⟨.refl, rfl⟩

theorem SafeStep.trans {s t u : State} (h : SafeStep s t) (k : SafeStep t u) : SafeStep s u := ⟨h.touches.trans k.touches, k.lan.trans h.lan⟩

theorem onlyTouches_modFn (s : State) (ctx : Nat) (g : FnSt → FnSt) : onlyTouches [.fns] s (modFn s ctx g) := by
  intro p; cases p <;> simp [samePart]

theorem onlyTouches_demandRecord (s : State) (cause fid ctx frame flags : Nat) :
    onlyTouches [.nv, .evt] s (demandRecord s cause fid ctx frame flags) := by
  intro p; cases p <;> simp [samePart, demandRecord]

/-- An update that leaves the lane page alone. -/
theorem SafeStep.of_touches {s t : State} (h : onlyTouches [.fns, .nv, .evt] s t) : SafeStep s t :=
  ⟨h.mono (by simp), congrArg lanCore (h.same .lan (by simp))⟩

theorem leaveDiag_safeStep (s : State) (ctx : Nat) : SafeStep s (leaveDiag s ctx) := by
  unfold leaveDiag; split
  · exact .refl s
  · exact ⟨fun p => by cases p <;> simp [samePart], rfl⟩

theorem takeSafe_safeStep (s : State) (c : Image) (n : Nat) (f : FnSt) (cause : Nat) : SafeStep s (takeSafe s c n f cause) := by
  have hfn (t : State) (g : FnSt → FnSt) : SafeStep t (modFn t f.ctx g) := .of_touches ((onlyTouches_modFn t _ g).mono (by simp))
  have hrecord (t : State) (k flags : Nat) : SafeStep t (demandRecord t k f.fid f.ctx n flags) :=
    .of_touches ((onlyTouches_demandRecord t k f.fid f.ctx n flags).mono (by simp))
  have hthird (t : State) (third : Bool) : SafeStep t (if third then raise t 21 f.ctx f.fid 0x15 else t) := by
    split
    · exact .of_touches ((onlyTouches_raise t _ _ _ _).mono (by simp))
    · exact .refl t
  unfold takeSafe; dsimp only; split
  · exact .refl s
  · exact (((hfn s _).trans (leaveDiag_safeStep _ _)).trans (hrecord _ _ _)).trans (hthird _ _)

theorem allSafe_safeStep (s : State) (c : Image) (n cause : Nat) (except_ : FnSt → Bool) : SafeStep s (allSafe s c n cause except_) := by
  unfold allSafe
  generalize byCtx _ = l
  induction l generalizing s with
  | nil => exact .refl s
  | cons f l ih => exact (takeSafe_safeStep s c n f cause).trans (ih _)

/-! ### The way into HOLD -/

/-- Out of RUN no function keeps a gate closed and no spade is held (R130). -/
theorem leftRun_enterHold (s : State) : leftRun (enterHold s 3) := by
  refine ⟨by simp [enterHold], by simp [enterHold], ?_, ?_⟩
  · intro f hf g hg
    simp only [enterHold, releaseImages_frame, raise_frame, List.mem_map] at hf
    obtain ⟨f, -, rfl⟩ := hf
    obtain ⟨x, -, rfl⟩ := List.mem_map.mp hg
    rfl
  · intro x hx
    simp only [enterHold, releaseImages_frame, raise_frame, List.mem_map] at hx
    obtain ⟨x, -, rfl⟩ := hx
    rfl

/-- The links that HOLD leaves carry new images and are otherwise as they were (R107). -/
theorem linkAt_enterHold (s : State) (fstate : BitVec 2) (l : Lane) :
    linkAt (enterHold s fstate) l = { linkAt s l with image := (linkAt (enterHold s fstate) l).image } := by
  cases l <;> simp [enterHold, releaseImages, linkAt]

/-- t is s after a module-wide fault without fallow (R130, R148). -/
structure FaultTaken (cause : Nat) (s t : State) : Prop where
  notRun : t.lan.inRun = false
  modFault : t.lan.modFault = some cause
  needReset : t.lan.needReset = (s.lan.needReset || resetNeeded cause)
  blFault : t.lan.blFault = (s.lan.blFault || cause == 0x25)
  clkFault : t.lan.clkFault = s.lan.clkFault
  allOff : t.lan.allOff = s.lan.allOff
  clk : t.sys.clk = s.sys.clk
  linkSt : ∀ l, (linkAt t l).st = (linkAt s l).st
  linkAllOff : ∀ l, (linkAt t l).allOff = (linkAt s l).allOff
  left : s.lan.inRun = true → leftRun t

/-- In RUN the functions take their safe states and the module enters HOLD with FSTATE 0b11 (R130). -/
theorem moduleFault_run {s : State} {cause : Nat} (hrun : s.lan.inRun = true) (hcause : cause ≠ 0x30) (n : Nat) :
    ∃ u, SafeStep (noteFault s cause) u ∧ moduleFault s n cause = enterHold u 3 := by
  cases hcfg : s.cfg with
  | none => exact ⟨noteFault s cause, .refl _, by simp [moduleFault, noteFault, hrun, hcause, hcfg]⟩
  | some c => exact ⟨_, allSafe_safeStep (noteFault s cause) c n cause (fun _ => false), by simp [moduleFault, noteFault, hrun, hcause, hcfg]⟩

theorem moduleFault_hold {s : State} {cause : Nat} (hrun : s.lan.inRun = false) (hcause : cause ≠ 0x30) (n : Nat) :
    moduleFault s n cause = faultInHold (noteFault s cause) := by
  simp [moduleFault, noteFault, hrun, hcause]

theorem moduleFault_taken (s : State) {cause : Nat} (hcause : cause ≠ 0x30) (n : Nat) : FaultTaken cause s (moduleFault s n cause) := by
  by_cases hrun : s.lan.inRun = true
  · obtain ⟨u, ⟨htouch, hlan⟩, heq⟩ := moduleFault_run hrun hcause n
    have hsys : u.sys = s.sys := htouch.same .sys (by simp)
    have hfld : u.fld = s.fld := htouch.same .fld (by simp)
    have hlink (l : Lane) : linkAt u l = linkAt s l := by cases l <;> simp [linkAt, hfld]
    rw [heq]
    exact {
      notRun := by simp [enterHold]
      modFault := by simpa [enterHold, lanCore, noteFault, hcause] using congrArg LanSt.modFault hlan
      needReset := by simpa [enterHold, lanCore, noteFault] using congrArg LanSt.needReset hlan
      blFault := by simpa [enterHold, lanCore, noteFault] using congrArg LanSt.blFault hlan
      clkFault := by simpa [enterHold, lanCore, noteFault] using congrArg LanSt.clkFault hlan
      allOff := by simpa [enterHold, lanCore, noteFault] using congrArg LanSt.allOff hlan
      clk := by simp [enterHold, hsys]
      linkSt := fun l => by rw [linkAt_enterHold, hlink]
      linkAllOff := fun l => by rw [linkAt_enterHold, hlink]
      left := fun _ => leftRun_enterHold u }
  · have hhold : s.lan.inRun = false := by simpa using hrun
    rw [moduleFault_hold hhold hcause]
    exact {
      notRun := hhold
      modFault := by simp [faultInHold, noteFault, hcause]
      needReset := rfl
      blFault := rfl
      clkFault := rfl
      allOff := rfl
      clk := rfl
      linkSt := fun l => by cases l <;> rfl
      linkAllOff := fun l => by cases l <;> rfl
      left := fun h => absurd h hrun }

/-- A fault at once is taken by a module whose lanes send all-off (R124, R130). -/
theorem faultAtOnce_taken (s : State) (src : Nat) {cause : Nat} (hcause : cause ≠ 0x30) :
    FaultTaken cause (sendAllOff (raise s src 0xFFFFFFFF 0 cause)) (faultAtOnce s src cause) := moduleFault_taken _ hcause _

theorem faultAtOnce_acts (s : State) (src : Nat) {cause : Nat} (hcause : cause ≠ 0x30) : faultActed cause (faultAtOnce s src cause) :=
  have h := faultAtOnce_taken s src hcause
  ⟨h.notRun, h.allOff, h.linkAllOff .a, h.linkAllOff .b, h.modFault⟩

theorem faultAtOnce_leaves (s : State) (src : Nat) {cause : Nat} (hcause : cause ≠ 0x30) (hrun : s.lan.inRun = true) :
    leftRun (faultAtOnce s src cause) := (faultAtOnce_taken s src hcause).left (by simp [sendAllOff, hrun])

@[simp] theorem faultActed_flush (cause : Nat) (s : State) : faultActed cause (flush s) ↔ faultActed cause s := by simp [faultActed]

@[simp] theorem leftRun_flush (s : State) : leftRun (flush s) ↔ leftRun s := by simp [leftRun]

/-! ### Clock faults, stalled crossings and links, as O13 states them -/

theorem setBit_getLsbD_same {w : Nat} (x : BitVec w) {i : Nat} (h : i < w) : (setBit x i).getLsbD i = true := by
  rw [setBit, BitVec.getLsbD_or, BitVec.getLsbD_ofNat, Nat.testBit_two_pow_self]; simp [h]

/-- A clock fault that is taken, with its bits of LAN_FAULT and SYS_CLK (R20, R126, R435). -/
theorem clockFails_taken (k : ClockCause) (s : State) : ∃ u, clockFails k s = faultAtOnce u 20 0x22 ∧
    u.lan.clkFault = true ∧ u.sys.clk.getLsbD 7 = true ∧ u.lan.inRun = s.lan.inRun := by
  refine ⟨_, rfl, ?_, setBit_getLsbD_same _ (by omega), ?_⟩
  · rfl
  · rcases k with _ | _ | _ | ⟨_ | _, _⟩ <;> rfl

/-- While the lanes are halted a deviation is not measured; every other clock fault is (R125, R404). -/
theorem clockFaultEffect_fails {k : ClockCause} {s : State} (h : s.lan.halted = false ∨ ∀ x ppm, k ≠ .deviation x ppm) :
    clockFaultEffect k s = clockFails k s := by
  cases k with
  | deviation l ppm =>
    have hgo : s.lan.halted = false := h.resolve_right (fun h => h l ppm rfl)
    simp [clockFaultEffect, hgo]
  | _ => rfl

theorem clockFault_completes {k : ClockCause} {s : State} (hs : awake s = true) (h : s.lan.halted = false ∨ ∀ x ppm, k ≠ .deviation x ppm) :
    Completes (.clockFault k) s (fun t =>
      faultActed 0x22 t ∧ t.lan.clkFault = true ∧ t.sys.clk.getLsbD 7 = true ∧ t.lan.needReset = true ∧ (s.lan.inRun = true → leftRun t)) := by
  obtain ⟨u, heq, hfault, hclk, hrun⟩ := clockFails_taken k s
  have htaken := faultAtOnce_taken u 20 (cause := 0x22) (by decide)
  refine completes_finish rfl hs ?_
  rw [clockFaultEffect_fails h, heq]
  refine ⟨by simpa using faultAtOnce_acts u 20 (by decide), ?_, ?_, ?_, fun h => ?_⟩
  · simpa [sendAllOff, hfault] using htaken.clkFault
  · simpa [htaken.clk] using hclk
  · simpa [resetNeeded] using htaken.needReset
  · simpa using faultAtOnce_leaves u 20 (by decide) (hrun.trans h)

/-- A stalled crossing of a lane toward the other lane, the Riddle or its bus (R18). -/
theorem laneStall_completes {k : Crossing} {s : State} (hs : awake s = true) (hk : crossingStallEffect k s = faultAtOnce s 24 0x24) :
    Completes (.crossingStall k) s (fun t => faultActed 0x24 t ∧ t.lan.needReset = true ∧ (s.lan.inRun = true → leftRun t)) := by
  refine completes_finish rfl hs ?_
  rw [hk]
  refine ⟨by simpa using faultAtOnce_acts s 24 (by decide), ?_, fun h => by simpa using faultAtOnce_leaves s 24 (by decide) h⟩
  simpa [resetNeeded] using (faultAtOnce_taken s 24 (cause := 0x24) (by decide)).needReset

@[simp] theorem linkAt_flush (s : State) (l : Lane) : linkAt (flush s) l = linkAt s l := by cases l <;> simp [linkAt]

/-- The fault at once of a link that was up finds the link down (R131, R202). -/
theorem blFaultEffect_up {s : State} {l : Lane} (hup : (linkAt s l).st = .up) :
    ∃ u, blFaultEffect l s = faultAtOnce u 30 0x25 ∧ (linkAt (sendAllOff (raise u 30 0xFFFFFFFF 0 0x25)) l).st = .down ∧
      u.lan.inRun = s.lan.inRun := by
  refine ⟨modLink s l (fun k => { k with st := .down }), by simp [blFaultEffect, linkFault, hup], ?_, by simp⟩
  cases l <;> simp [linkAt, sendAllOff, modLink]

theorem blFault_completes {s : State} {l : Lane} (hs : awake s = true) (hup : (linkAt s l).st = .up) :
    Completes (.blFault l) s (fun t =>
      faultActed 0x25 t ∧ t.lan.blFault = true ∧ (linkAt t l).st = .down ∧ (s.lan.inRun = true → leftRun t)) := by
  obtain ⟨u, heq, hlink, hrun⟩ := blFaultEffect_up hup
  have htaken := faultAtOnce_taken u 30 (cause := 0x25) (by decide)
  refine completes_finish rfl hs ?_
  rw [heq]
  refine ⟨by simpa using faultAtOnce_acts u 30 (by decide), ?_, ?_, fun h => ?_⟩
  · simpa using htaken.blFault
  · simpa using (htaken.linkSt l).trans hlink
  · simpa using faultAtOnce_leaves u 30 (by decide) (hrun.trans h)

/-- Settles O13: every fault of it is a `faultAtOnce`, which `moduleFault_taken` describes. -/
theorem faultsAtOnceSendAllOff : Obligations.FaultsAtOnceSendAllOff := by
  refine fun s l hs => ⟨fun k hk => clockFault_completes hs hk, fun k hk => laneStall_completes hs ?_, blFault_completes hs⟩
  obtain rfl | rfl | rfl := hk <;> rfl

end Sys2Proof.Machine

/-! Stalled crossings, and start-up that fails. -/
namespace Sys2Proof.Machine

/-! ### Stalls of the host, the Hedge and the network, as O14 states them -/

theorem onlyTouches_net (s : State) (x : NetSt) : onlyTouches [.net] s { s with net := x } := by
  intro p; cases p <;> simp [samePart]

/-- The host's write is abandoned with SYS_ERR.STALL, and no lane notices (R18, R435). -/
theorem hostStall_completes {s : State} (hs : awake s = true) (r : Bool) (a : BitVec 32) :
    Completes (.crossingStall (.host r a)) s (fun t =>
      t.sys.hostStalled = true ∧ t.sys.err.getLsbD 0 = true ∧ onlyTouches [.evt, .mail, .sys] s t) := by
  refine completes_finish rfl hs ⟨by simp [crossingStallEffect], ?_, ?_⟩
  · simp [crossingStallEffect, setBit_err]
  · refine onlyTouches.flush ?_ (by simp)
    exact (((onlyTouches_sys s _).mono (by simp)).trans ((onlyTouches_sysErr _ 0).mono (by simp))).trans
      ((onlyTouches_raise _ _ _ _ _).mono (by simp))

/-- A stalled Hedge stops a start-up past step 1 in HOLD (R18). -/
theorem hedgeStall_pwr (s : State) (tag : BitVec 32) : (hedgeStall s tag).sys.pwr = if 2 ≤ s.sys.running then 1 else s.sys.pwr := by
  unfold hedgeStall; split <;> simp [*]

theorem onlyTouches_hedgeStall (s : State) (tag : BitVec 32) : onlyTouches [.sys, .evt] s (hedgeStall s tag) := by
  have hraised : onlyTouches [.sys, .evt] s (raise { s with sys := { s.sys with hedgeStalled := true } } 3 tag.toNat 0 0) :=
    ((onlyTouches_sys s _).mono (by simp)).trans ((onlyTouches_raise _ _ _ _ _).mono (by simp))
  unfold hedgeStall; dsimp only; split
  · exact hraised.trans (onlyTouches_enterPwr _ 1)
  · exact hraised

theorem hedgeStall_stalled (s : State) (tag : BitVec 32) : (hedgeStall s tag).sys.hedgeStalled = true := by
  unfold hedgeStall; dsimp only; split <;> simp

theorem hedgeStall_completes {s : State} (hs : awake s = true) (tag : BitVec 32) :
    Completes (.crossingStall (.hedge tag)) s (fun t =>
      t.sys.hedgeStalled = true ∧ (2 ≤ s.sys.running → t.sys.pwr = 1) ∧ (s.sys.running < 2 → t.sys.pwr = s.sys.pwr) ∧
      onlyTouches [.evt, .mail, .sys] s t) := by
  have hpwr : (flush (hedgeStall s tag)).sys.pwr = if 2 ≤ s.sys.running then 1 else s.sys.pwr := by simp [hedgeStall_pwr]
  refine completes_finish (t := hedgeStall s tag) rfl hs ⟨by simp [hedgeStall_stalled], fun h => by rw [hpwr, if_pos h],
    fun h => by rw [hpwr, if_neg (by omega)], ((onlyTouches_hedgeStall s tag).mono (by simp)).flush (by simp)⟩

/-- Of a connection that this node produces the next frame is to be lost (R18). -/
theorem netStall_produced {s : State} {conn : BitVec 32} {p : ProdSt} (hp : p ∈ s.ksl.prod) (hid : p.conn.id = conn.toNat) :
    netStall s conn = raise { s with net := { s.net with stalls := s.net.stalls ++ [conn.toNat] } } 135 conn.toNat 0 0 := by
  have hmine : s.ksl.prod.any (fun p => p.conn.id == conn.toNat) = true := List.any_eq_true.mpr ⟨p, hp, by simp [hid]⟩
  simp [netStall, hmine]

theorem netStall_completes {s : State} {conn : BitVec 32} {p : ProdSt} (hs : awake s = true) (hp : p ∈ s.ksl.prod) (hid : p.conn.id = conn.toNat)
    (l : Lane) : Completes (.crossingStall (.laneNet l conn)) s (fun t =>
      t.net.stalls = s.net.stalls ++ [conn.toNat] ∧ onlyTouches [.evt, .mail, .net] s t) := by
  refine completes_finish (t := netStall s conn) rfl hs ?_
  rw [netStall_produced hp hid]
  exact ⟨by simp, (((onlyTouches_net s _).mono (by simp)).trans ((onlyTouches_raise _ _ _ _ _).mono (by simp))).flush (by simp)⟩

/-- A frame whose connection has stalled is not sent, and the next one is (R18). -/
theorem sendKsl_stalled {s : State} {peer : Nat} {frame : Bytes} (hpath : (pathTo s peer).isSome = true)
    (hstall : beAt frame 4 4 ∈ s.net.stalls) :
    sendKsl s peer frame = { s with net := { s.net with stalls := s.net.stalls.erase (beAt frame 4 4) } } := by
  obtain ⟨r, hr⟩ := Option.isSome_iff_exists.mp hpath
  simp [sendKsl, hr, hstall]

/-- Settles O14: each clause is the lemma of its crossing. -/
theorem otherStallsAreContained : Obligations.OtherStallsAreContained := by
  refine fun s hs => ⟨hostStall_completes hs, hedgeStall_completes hs, ?_, fun l conn p hp hid => netStall_completes hs hp hid l,
    fun peer frame hpath hstall => ?_⟩
  · exact completes_finish rfl hs (by simp [crossingStallEffect])
  · rw [sendKsl_stalled hpath hstall]; exact ⟨rfl, rfl⟩

/-! ### The third failed training, which refutes O4 -/

/-- FIELD_POWER ends in HOLD, but FSTATE shows its fault only where frames run or the module was in HOLD already (R130, R367). -/
theorem fieldPowerHalt_fstate (s : State) :
    (fieldPowerHalt s).lan.fstate = if s.lan.timerOn || s.sys.pwr == 1 then 3 else s.lan.fstate := by
  simp [fieldPowerHalt, faultInHold, noteFault]

/-- What FSTATE shows after the third failed training of step 7 (R367). -/
theorem thirdTraining_fstate {s : State} {o : StepObs} (h : atStep s 7) (hok : o.ok = false) (htries : 2 ≤ s.sys.trainTries) :
    (startupStepDoneEffect o s).lan.fstate = if s.lan.timerOn || s.sys.pwr == 1 then 3 else s.lan.fstate := by
  obtain ⟨hpower, hsupply, hhalt, hhedge, hstep⟩ := h
  simp [startupStepDoneEffect, step7, linksDown, fieldPowerHalt_fstate, hpower, hsupply, hhalt, hhedge, hstep, hok, Nat.not_lt.mpr htries]

theorem Completes.of_exec {i : Instr} {s t : State} {p : State → Prop} (h : Completes i s p) (hexec : exec i s = .next t) : p t := by
  obtain ⟨u, hu, hp⟩ := h
  obtain rfl : u = t := Host.Outcome.next.inj (hu.symm.trans hexec)
  exact hp

/-- Step 7 runs for the third time in a module that has not come to HOLD: its power state is the one of before step 5. -/
def thirdTrainingBeforeHold : State :=
  { State.reset with sys := { SysSt.reset with running := 7, step := 7, trainTries := 2, answers := true } }

/-- A step of which nothing has succeeded. -/
def failedStep : StepObs := ⟨false, false, false, [], [], [], [], [], none, 0⟩

/-- Refutes O4: the third failed training of step 7 leaves FSTATE at 0 in a module whose power state is still 0, since the fault is noted before the
halt enters HOLD. Start-up has been in HOLD since step 4 by then, so that its sequence does not lead to the state. -/
theorem not_startupFailuresHaltOrHold : ¬ Obligations.StartupFailuresHaltOrHold := by
  intro h
  obtain ⟨-, -, -, -, -, -, -, -, hthird, -⟩ := h thirdTrainingBeforeHold failedStep
  have hstep : atStep thirdTrainingBeforeHold 7 := ⟨rfl, rfl, rfl, rfl, rfl⟩
  have hzero : (startupStepDoneEffect failedStep thirdTrainingBeforeHold).lan.fstate = 0 := thirdTraining_fstate hstep rfl (by decide)
  obtain ⟨-, hthree⟩ := (hthird hstep rfl (by decide)).of_exec rfl
  simp [hzero] at hthree

end Sys2Proof.Machine

/-! STANDBY, converters and temperature. -/
namespace Sys2Proof.Machine

/-! ### Requests for STANDBY and HOLD -/

/-- A write to a power register across a clear crossing takes its effect (R436). -/
theorem standbyRequest_completes {s : State} {p : State → Prop} (hs : busReach s) (hp : p (flush (standbyRequestEffect s))) :
    Completes .standbyRequest s p := ⟨_, finishBus_awake hs.1 hs.2.1 hs.2.2, hp⟩

theorem holdRequest_completes {s : State} {p : State → Prop} (hs : busReach s) (hp : p (flush (holdRequestEffect s))) :
    Completes .holdRequest s p := ⟨_, finishBus_awake hs.1 hs.2.1 hs.2.2, hp⟩

/-- A refused request sets its bit of SYS_ERR and changes nothing else (R435, R436). -/
theorem refused_leaves (s : State) {bit : Nat} (h : bit < 5) :
    (flush (sysErr s bit)).sys.err.getLsbD bit = true ∧ (flush (sysErr s bit)).sys.entering = s.sys.entering ∧
    (flush (sysErr s bit)).sys.pwr = s.sys.pwr ∧ onlyTouches [.sys, .evt, .mail] s (flush (sysErr s bit)) := by
  refine ⟨?_, by simp, by simp, ((onlyTouches_sysErr s bit).mono (by simp)).flush (by simp)⟩
  simpa using setBit_getLsbD_same s.sys.err h

theorem requests_inRun {s : State} (hs : busReach s) (hrun : s.lan.inRun = true) :
    Completes .standbyRequest s (fun t => t.sys.err.getLsbD 3 = true ∧ t.sys.entering = s.sys.entering ∧ onlyTouches [.sys, .evt, .mail] s t) ∧
    Completes .holdRequest s (fun t => t.sys.err.getLsbD 3 = true ∧ t.sys.pwr = s.sys.pwr ∧ onlyTouches [.sys, .evt, .mail] s t) := by
  obtain ⟨hbit, hentering, hpwr, htouch⟩ := refused_leaves s (bit := 3) (by omega)
  constructor
  · exact standbyRequest_completes hs (by rw [standbyRequestEffect, if_pos hrun]; exact ⟨hbit, hentering, htouch⟩)
  · exact holdRequest_completes hs (by rw [holdRequestEffect, if_pos hrun]; exact ⟨hbit, hpwr, htouch⟩)

/-- The way into STANDBY begins with all-off, and a START that waits is dropped (R409). -/
theorem standbyRequest_enters {s : State} (hs : busReach s) (hrun : s.lan.inRun = false) (hentering : s.sys.entering = false) (hpwr : s.sys.pwr ≠ 3)
    (hgo : standbyRefused s = false) : Completes .standbyRequest s (fun t =>
      t.sys.entering = true ∧ t.sys.pwrReq = 3 ∧ t.lan.allOff = true ∧ t.lan.startAt = none) :=
  standbyRequest_completes hs (by simp [standbyRequestEffect, sendAllOff, hrun, hentering, hpwr, hgo])

/-- In a halt, in start-up and while the plan is computed the request is refused (R436). -/
theorem standbyRequest_refused {s : State} (hs : busReach s) (hrun : s.lan.inRun = false) (hentering : s.sys.entering = false)
    (hpwr : s.sys.pwr ≠ 3) (hno : standbyRefused s = true) : Completes .standbyRequest s (fun t =>
      t.sys.err.getLsbD 1 = true ∧ t.sys.entering = false ∧ onlyTouches [.sys, .evt, .mail] s t) := by
  have heffect : standbyRequestEffect s = sysErr s 1 := by simp [standbyRequestEffect, hrun, hentering, hpwr, hno]
  obtain ⟨hbit, hsame, -, htouch⟩ := refused_leaves s (bit := 1) (by omega)
  exact standbyRequest_completes hs (by rw [heffect]; exact ⟨hbit, hsame.trans hentering, htouch⟩)

/-- While the way into STANDBY is under way a wake is noted, in STANDBY it begins (R409, R436). -/
theorem holdRequest_whileEntering {s : State} (hs : busReach s) (hrun : s.lan.inRun = false) (hentering : s.sys.entering = true) :
    Completes .holdRequest s (fun t => t.sys.wakeReq = true ∧ t.sys.pwrReq = 1) :=
  holdRequest_completes hs (by simp [holdRequestEffect, hrun, hentering])

/-- A wake runs step 5, in HOLD (R409). -/
theorem beginWake_sys (s : State) :
    (beginWake s).sys.wake = true ∧ (beginWake s).sys.running = 5 ∧ (beginWake s).sys.pwr = 1 := by simp [beginWake, goStep]

theorem holdRequest_inStandby {s : State} (hs : busReach s) (hrun : s.lan.inRun = false) (hentering : s.sys.entering = false)
    (hpwr : s.sys.pwr = 3) : Completes .holdRequest s (fun t => t.sys.wake = true ∧ t.sys.running = 5 ∧ t.sys.pwr = 1) :=
  holdRequest_completes hs (by simpa [holdRequestEffect, hrun, hentering, hpwr] using beginWake_sys _)

/-! ### The ends of both ways -/

@[simp] theorem clearPlan_frame (s : State) : (clearPlan s).sys = s.sys ∧ (clearPlan s).fns = [] ∧ (clearPlan s).cfg = s.cfg := ⟨rfl, rfl, rfl⟩

theorem standbyEntryEnd_completes {s : State} (hs : awake s = true) (hentering : s.sys.entering = true) (hwake : s.sys.wakeReq = false) :
    Completes .standbyEntryEnd s (fun t =>
      t.sys.pwr = 3 ∧ t.sys.entering = false ∧ t.sys.convA = false ∧ t.sys.convB = false ∧ t.lan.timerOn = false ∧ t.fns = [] ∧ t.cfg = s.cfg) :=
  completes_finish rfl hs (by simp [standbyEntryEndEffect, hentering, hwake])

/-- The woken module in HOLD raises its own event once (R409, R370). -/
theorem wakeEnd_completes {s : State} (hs : awake s = true) (hwake : s.sys.wake = true) (hrunning : s.sys.running = 0) (hplan : s.plt.state ≠ 1)
    (hev : evtReady s) : Completes .wakeEnd s (fun t => t.sys.wake = false ∧ counted 254 s t ∧ onlyTouches [.sys, .evt, .mail] s t) := by
  obtain ⟨hplaced, hcnt⟩ := hev
  have heffect : wakeEndEffect s =
      raise { s with sys := { s.sys with wake := false } } 254 (bootWord s) (startupInfo s).1 (startupInfo s).2 := by
    simp [wakeEndEffect, hwake, hrunning, show s.plt.state ≠ 1#4 from hplan]
  refine completes_finish (t := wakeEndEffect s) rfl hs ?_
  rw [heffect]
  refine ⟨by simp, counted_of_raised hcnt (by omega) (by omega) (by omega) (by simp) ?_,
    (((onlyTouches_sys s _).mono (by simp)).trans ((onlyTouches_raise _ _ _ _ _).mono (by simp))).flush (by simp)⟩
  rw [raise_eq (by simp [neverRaised]), show s.evt.raised = [] from hplaced]
  simp [eventsOf]

/-! ### Converters and temperature -/

/-- A converter fails: its sequencer's gates open, the other sequencer's switches stay as they are (R28). -/
theorem converterFailure_opens {s : State} (hs : awake s = true) (hstep : s.sys.running ≠ 7) :
    Completes (.isolatedConverterFailure .a) s (fun t =>
      t.sys.convA = false ∧ t.sys.convB = s.sys.convB ∧ (∀ x ∈ t.fld.outs, x.swA.gate = false) ∧
      t.fld.outs.map (·.swB) = s.fld.outs.map (·.swB)) ∧
    Completes (.isolatedConverterFailure .b) s (fun t =>
      t.sys.convB = false ∧ t.sys.convA = s.sys.convA ∧ (∀ x ∈ t.fld.outs, x.swB.gate = false) ∧
      t.fld.outs.map (·.swA) = s.fld.outs.map (·.swA)) :=
  ⟨completes_finish rfl hs (by simp [isolatedConverterFailureEffect, hstep]),
    completes_finish rfl hs (by simp [isolatedConverterFailureEffect, hstep])⟩

/-- In step 7 the failure of a converter is FIELD_POWER (R367). -/
theorem converterFailure_halts {s : State} (hs : awake s = true) (hstep : s.sys.running = 7) (l : Lane) :
    Completes (.isolatedConverterFailure l) s (haltedFor 8) := by
  have heffect : ∃ u, isolatedConverterFailureEffect l s = fieldPowerHalt u := by
    cases l <;> exact ⟨_, if_pos (beq_iff_eq.mpr hstep)⟩
  obtain ⟨u, hu⟩ := heffect
  refine completes_finish (t := isolatedConverterFailureEffect l s) rfl hs ?_
  rw [hu, haltedFor_flush]
  exact haltModule_halts _ 8

theorem temperature_completes {s : State} (hs : s.sys.powered = true) (x : TempState) :
    Completes (.temperatureOutOfRange x) s (fun t => t.sys.tempBad = decide (x = .outOfRange) ∧ t.sys.pwr = s.sys.pwr ∧ t.lan = s.lan) := by
  refine ⟨flush (temperatureEffect x s), (if_pos hs : finishPowered s _ = _), ?_⟩
  cases x <;> simp [temperatureEffect]

/-- A temperature out of range refuses START (R131, R372). -/
theorem startStatus_tempBad {s : State} (h : s.sys.tempBad = true) : startStatus s ≠ none := by
  unfold startStatus; split
  · simp
  · split <;> simp [h]

/-- Settles O36: each clause is the lemma of its command, and START's that of `startStatus`. -/
theorem standbyAndPowerLoss : Obligations.StandbyAndPowerLoss := by
  refine ⟨fun s hs => ⟨requests_inRun hs, fun hrun hentering hpwr => ⟨fun hhalt hrunning hplan => ?_, fun hno => ?_⟩,
    standbyEntryEnd_completes hs.1, holdRequest_whileEntering hs, holdRequest_inStandby hs, wakeEnd_completes hs.1⟩,
    fun s => ⟨converterFailure_opens, converterFailure_halts,
      fun hpower => ⟨temperature_completes hpower .outOfRange, temperature_completes hpower .backInRange⟩, startStatus_tempBad⟩⟩
  · exact standbyRequest_enters hs hrun hentering hpwr (by simpa [standbyRefused, hhalt, hrunning] using hplan)
  · exact standbyRequest_refused hs hrun hentering hpwr (by simpa [standbyRefused, or_assoc] using hno)

end Sys2Proof.Machine

/-! The gates of a sequencer. -/
namespace Sys2Proof.Machine

/-! ### Masks of channels -/

/-- A sum of distinct powers of two below n has the bits of its terms, and stays below 2 ^ n. -/
theorem sum_two_pow_bits (f : Nat → Bool) (n : Nat) :
    (List.range n).foldl (fun x i => x + (if f i then 2 ^ i else 0)) 0 < 2 ^ n ∧
    ∀ i, ((List.range n).foldl (fun x i => x + (if f i then 2 ^ i else 0)) 0).testBit i = (decide (i < n) && f i) := by
  induction n with
  | zero => simp
  | succ n ih =>
    obtain ⟨hlt, hbit⟩ := ih
    rw [List.range_succ, List.foldl_append]
    generalize (List.range n).foldl (fun x i => x + (if f i then 2 ^ i else 0)) 0 = x at hlt hbit ⊢
    simp only [List.foldl_cons, List.foldl_nil]
    cases hf : f n with
    | false =>
      refine ⟨by simp; omega, fun i => ?_⟩
      by_cases hi : i = n <;> simp [hbit, hi, hf, show i < n + 1 ↔ i < n ∨ i = n by omega]
    | true =>
      refine ⟨by simp; omega, fun i => ?_⟩
      have hor : x + 2 ^ n = 2 ^ n ||| x := by rw [Nat.add_comm]; simpa using Nat.two_pow_add_eq_or_of_lt hlt 1
      by_cases hi : i = n
      · simp [hor, hbit, hi, hf]
      · simp [hor, hbit, hi, Nat.testBit_two_pow_of_ne (Ne.symm hi), show i < n + 1 ↔ i < n ∨ i = n by omega]

theorem mask96_getLsbD (f : Nat → Bool) {ch : Nat} (h : ch < 96) : (mask96 f).getLsbD ch = f ch := by
  rw [mask96, BitVec.getLsbD_ofNat, (sum_two_pow_bits f 96).2]; simp [h]

/-! ### What tests and pulses leave -/

/-- The gate of every switch, and both links: what tests and off-pulses leave alone. -/
def driveState (s : State) : (Nat → Lane → Bool) × (Lane → LinkSt) := (fun ch l => (swAt (outChan s ch) l).gate, linkAt s)

theorem outChan_modOut_same {s : State} {ch : Nat} (h : ch < s.fld.outs.length) (g : OutCh → OutCh) :
    outChan (modOut s ch g) ch = g (outChan s ch) := modAt_getD_same _ _ _ _ h

theorem outChan_modOut_ne (s : State) {k ch : Nat} (h : k ≠ ch) (g : OutCh → OutCh) : outChan (modOut s k g) ch = outChan s ch :=
  modAt_getD_ne _ _ _ _ _ h

/-- A channel that does not exist is not changed. -/
theorem modOut_absent {s : State} {k : Nat} (h : s.fld.outs.length ≤ k) (g : OutCh → OutCh) : modOut s k g = s := by simp [modOut, modAt, h]

theorem driveState_modOut (s : State) (k : Nat) {g : OutCh → OutCh} (hg : ∀ o l, (swAt (g o) l).gate = (swAt o l).gate) :
    driveState (modOut s k g) = driveState s := by
  rcases Nat.lt_or_ge k s.fld.outs.length with hlen | hlen
  · refine Prod.ext (funext fun ch => funext fun l => ?_) (funext fun l => by cases l <;> rfl)
    by_cases hk : k = ch
    · subst hk; simp only [driveState, outChan_modOut_same hlen, hg]
    · simp only [driveState, outChan_modOut_ne s hk]
  · rw [modOut_absent hlen]

theorem driveState_modSw (s : State) (l : Lane) (k : Nat) {g : SwitchSt → SwitchSt} (hg : ∀ w, (g w).gate = w.gate) :
    driveState (modSw s l k g) = driveState s :=
  driveState_modOut s k fun o j => by cases l <;> cases j <;> simp [swAt, hg]

theorem driveState_beginTest (s : State) (ch : Nat) : driveState (beginTest s ch) = driveState s := by
  unfold beginTest
  refine foldl_keeps driveState (fun t k => driveState_modOut t k fun o l => ?_) _ s
  split <;> cases l <;> rfl

theorem driveState_startDue (s : State) : driveState (startDue s) = driveState s := by
  unfold startDue; split
  · rfl
  · refine foldl_keeps driveState (fun t ch => ?_) _ s
    split
    · rfl
    · exact driveState_beginTest t ch

theorem driveState_startPulse (s : State) (l : Lane) (ch : Nat) : driveState (startPulse s l ch) = driveState s := by
  have hall (g : SwitchSt → SwitchSt) (hg : ∀ w, (g w).gate = w.gate) (chs : List Nat) :
      driveState (chs.foldl (fun t k => modSw t l k g) s) = driveState s := foldl_keeps driveState (fun t k => driveState_modSw t l k hg) chs s
  unfold startPulse; dsimp only; split
  · exact hall (fun w => { w with deferred := true }) (fun _ => rfl) _
  · split
    · exact hall (fun w => { w with shifted := true }) (fun _ => rfl) _
    · exact hall pulseOn (fun _ => rfl) _

theorem driveState_nextPulse (s : State) (l : Lane) (ch : Nat) : driveState (nextPulse s l ch) = driveState s := by
  unfold nextPulse; dsimp only; split
  · exact driveState_startPulse s l.other ch
  · rfl

theorem driveState_runWaiting (s : State) : driveState (runWaiting s) = driveState s :=
  foldl_keeps driveState (fun t ch => (driveState_nextPulse _ .a ch).trans (driveState_nextPulse t .b ch)) _ s

/-! ### Setting the gates -/

theorem setGate_gate (tb : BitVec 64) (latched : Bool) (w : SwitchSt) (v : Bool) : (setGate tb latched w v).gate = v := by
  unfold setGate; split
  next h => exact beq_iff_eq.mp h
  next =>
    cases v with
    | true => rfl
    | false => cases latched <;> rfl

@[simp] theorem pauseTest_switches (o : OutCh) : (pauseTest o).swA = o.swA ∧ (pauseTest o).swB = o.swB := by
  unfold pauseTest; split <;> exact ⟨rfl, rfl⟩

/-- The gate that a sequencer applies to a channel for an image: none with default parameters or on an untested bank (R27, R200, R362). -/
def appliedGate (s : State) (l : Lane) (img : Nat → Bool) (ch : Nat) : Bool :=
  (seqCfg s l).any (fun c => gateFor c (linkAt s l) ch (img ch)) && !(untestedMask s).getLsbD ch

/-- After the gates are set a sequencer's switch of every channel has its applied gate, and the links are as they were. -/
theorem setGates_drive (s : State) (l : Lane) (img : Nat → Bool) :
    (∀ ch, ch < s.fld.outs.length → (swAt (outChan (setGates s l img) ch) l).gate = appliedGate s l img ch) ∧
    linkAt (setGates s l img) = linkAt s := by
  have hdrive (u : State) : driveState (runWaiting (startDue u)) = driveState u := (driveState_runWaiting _).trans (driveState_startDue u)
  refine ⟨fun ch hch => (congrFun (congrFun (congrArg Prod.fst (hdrive _)) ch) l).trans ?_, (congrArg Prod.snd (hdrive _)).trans ?_⟩
  · cases l <;> simp [driveState, outChan, hch, swAt, setGate_gate, appliedGate]
  · funext k; cases k <;> rfl

/-! ### Packets and silence, as O18 states them -/

theorem linkAt_modLink_same (s : State) (l : Lane) (g : LinkSt → LinkSt) : linkAt (modLink s l g) l = g (linkAt s l) := by cases l <;> rfl

section
variable {s : State} {l : Lane} {c : Image} {ch : Nat} (hch : channelHere s c ch isSafeOut)
include hch

/-- The gate of a safety output under a link whose sequencer follows the same configuration (R200, R202, R203). -/
theorem appliedGate_safeOut (g : LinkSt → LinkSt) (hpar : (g (linkAt s l)).par = (linkAt s l).par) (img : Nat → Bool) :
    appliedGate (modLink s l g) l img ch =
      (gateFor c (g (linkAt s l)) ch (img ch) && (bankAt s (ch / 16)).st != .untested) := by
  obtain ⟨-, -, -, -, htimer, hparA, hparB, hlt, -, -⟩ := hch
  have hcfg : seqCfg (modLink s l g) l = some c := by
    have htimer' : (modLink s l g).lan.timerOn = true := by simpa using htimer
    rw [seqCfg, if_pos htimer', linkAt_modLink_same, hpar]
    cases l
    · exact hparA
    · exact hparB
  have hbank : bankAt (modLink s l g) (ch / 16) = bankAt s (ch / 16) := by cases l <;> rfl
  simp only [appliedGate, hcfg, Option.any_some, linkAt_modLink_same, untestedMask, mask96_getLsbD _ hlt, hbank]
  rfl

/-- Of a channel here, what a sequencer that has set its gates under a changed link drives. -/
theorem setGates_safeOut (g : LinkSt → LinkSt) (hpar : (g (linkAt s l)).par = (linkAt s l).par) (img : Nat → Bool) :
    linkAt (setGates (modLink s l g) l img) l = g (linkAt s l) ∧
    (swAt (outChan (setGates (modLink s l g) l img) ch) l).gate =
      (gateFor c (g (linkAt s l)) ch (img ch) && (bankAt s (ch / 16)).st != .untested) := by
  obtain ⟨hgate, hlink⟩ := setGates_drive (modLink s l g) l img
  obtain ⟨-, -, -, -, -, -, -, hlt, -, -, -, -, houts⟩ := id hch
  have hlen : ch < (modLink s l g).fld.outs.length := by cases l <;> exact houts ▸ hlt
  exact ⟨by rw [hlink, linkAt_modLink_same], by rw [hgate ch hlen, appliedGate_safeOut hch g hpar]⟩

end

@[simp] theorem outChan_flush (s : State) (ch : Nat) : outChan (flush s) ch = outChan s ch := by simp [outChan]

/-- The link after a valid packet (R199, R200). -/
def packetTaken (p : Bytes) (k : LinkSt) : LinkSt :=
  { k with dnLast := byteAt p 0 % 16, badRun := 0, openRx := false, offRx := nbit (byteAt p 1) 1,
           latSend := if nbit (byteAt p 1) 0 then 2 else k.latSend }

/-- The link after an invalid packet: the second in a row opens the safety gates (R199, R202, R204). -/
def packetRefused (p : Bytes) (k : LinkSt) : LinkSt :=
  { countBad k with dnLast := seqAfter p 1 k.dnLast, badRun := k.badRun + 1, rxErr := true, openRx := k.openRx || 1 ≤ k.badRun }

/-- The link of a sequencer in its safe state (R202). -/
def silenced (k : LinkSt) : LinkSt := { k with safe := true }

theorem blSilenceSequencerEffect_on {s : State} {l : Lane} (hon : seqOn s l = true) :
    blSilenceSequencerEffect l s = holdGates (modLink s l silenced) l := by
  unfold blSilenceSequencerEffect; rw [if_neg (by simp [hon])]; rfl

theorem blDownlinkRxEffect_valid {s : State} {l : Lane} {p : Bytes} (hon : seqOn s l = true) (hvalid : validPacket p 1 (linkAt s l).dnLast = true)
    (htrain : nbit (byteAt p 1) 2 = false) :
    blDownlinkRxEffect l p s = setGates (modLink s l (packetTaken p)) l (nbit (beAt p 2 12)) := by
  unfold blDownlinkRxEffect; dsimp only
  rw [if_neg (by simp [hon]), if_neg (by simp [hvalid]), if_neg (by simp [htrain])]
  rfl

theorem blDownlinkRxEffect_invalid {s : State} {l : Lane} {p : Bytes} (hon : seqOn s l = true) (hbad : validPacket p 1 (linkAt s l).dnLast = false) :
    blDownlinkRxEffect l p s =
      if (packetRefused p (linkAt s l)).openRx then holdGates (modLink s l (packetRefused p)) l else modLink s l (packetRefused p) := by
  rw [← linkAt_modLink_same s l (packetRefused p)]
  unfold blDownlinkRxEffect; dsimp only
  rw [if_neg (by simp [hon]), if_pos (by simp [hbad])]
  rfl

/-- A safety gate is open in SAFE and after two invalid packets (R202). -/
theorem gateFor_open {c : Image} {k : LinkSt} {ch : Nat} (hsafe : isSafeOut c ch = true) (hopen : k.safe = true ∨ k.openRx = true) (bit : Bool) :
    gateFor c k ch bit = false := by
  obtain h | h := hopen <;> simp [gateFor, hsafe, h]

/-- A safety gate of a link that is up follows the image but for ALLOFF (R200, R202). -/
theorem gateFor_follows {c : Image} {k : LinkSt} {ch : Nat} (hsafe : isSafeOut c ch = true) (hup : k.st = .up) (hnotSafe : k.safe = false)
    (hnotOpen : k.openRx = false) (bit : Bool) : gateFor c k ch bit = (bit && !k.offRx) := by
  simp [gateFor, hsafe, hup, hnotSafe, hnotOpen]

section
variable {s : State} {l : Lane} {c : Image} {p : Bytes} {ch : Nat} (hch : channelHere s c ch isSafeOut) (hon : seqOn s l = true)
include hch hon

theorem validPacket_completes (hvalid : validPacket p 1 (linkAt s l).dnLast = true) (htrain : nbit (byteAt p 1) 2 = false)
    (hup : (linkAt s l).st = .up) (hsafe : (linkAt s l).safe = false) : Completes (.blDownlinkRx l p) s (fun t =>
      (linkAt t l).dnLast = byteAt p 0 % 16 ∧ (linkAt t l).badRun = 0 ∧
      (swAt (outChan t ch) l).gate = (nbit (beAt p 2 12) ch && !nbit (byteAt p 1) 1 && (bankAt s (ch / 16)).st != .untested)) := by
  obtain ⟨hlink, hgate⟩ := setGates_safeOut (l := l) hch (packetTaken p) rfl (nbit (beAt p 2 12))
  obtain ⟨hs, -, -, -, -, -, -, -, hout, -⟩ := id hch
  refine completes_finish rfl hs ?_
  rw [blDownlinkRxEffect_valid hon hvalid htrain, linkAt_flush, outChan_flush, hlink, hgate,
    gateFor_follows (k := packetTaken p (linkAt s l)) hout hup hsafe rfl]
  exact ⟨rfl, rfl, rfl⟩

theorem invalidPacket_completes (hbad : validPacket p 1 (linkAt s l).dnLast = false) : Completes (.blDownlinkRx l p) s (fun t =>
      (linkAt t l).err = satAdd (linkAt s l).err 1 ∧ (linkAt t l).rxErr = true ∧
      (linkAt t l).dnLast = (if soundPacket p 1 then byteAt p 0 % 16 else (linkAt s l).dnLast) ∧
      (1 ≤ (linkAt s l).badRun → (swAt (outChan t ch) l).gate = false)) := by
  obtain ⟨hlink, hgate⟩ := setGates_safeOut (l := l) hch (packetRefused p) rfl
    (fun ch => (swAt (outChan (modLink s l (packetRefused p)) ch) l).gate)
  obtain ⟨hs, -, -, -, -, -, -, -, hout, -⟩ := id hch
  refine completes_finish rfl hs ?_
  rw [blDownlinkRxEffect_invalid hon hbad, linkAt_flush, outChan_flush]
  split
  next hopen =>
    rw [holdGates, hlink, hgate, gateFor_open hout (.inr hopen)]
    exact ⟨rfl, rfl, rfl, fun _ => rfl⟩
  next hclosed =>
    rw [linkAt_modLink_same]
    refine ⟨rfl, rfl, rfl, fun hsecond => absurd ?_ hclosed⟩
    simp [packetRefused, hsecond]

theorem silence_completes : Completes (.blSilenceSequencer l) s (fun t => (linkAt t l).safe = true ∧ (swAt (outChan t ch) l).gate = false) := by
  obtain ⟨hlink, hgate⟩ := setGates_safeOut (l := l) hch silenced rfl (fun ch => (swAt (outChan (modLink s l silenced) ch) l).gate)
  obtain ⟨hs, -, -, -, -, -, -, -, hout, -⟩ := id hch
  refine completes_finish rfl hs ?_
  rw [blSilenceSequencerEffect_on hon, linkAt_flush, outChan_flush, holdGates, hlink, hgate, gateFor_open hout (.inl rfl)]
  exact ⟨rfl, rfl⟩

end

/-- Settles O18: each clause is the lemma of its packet, over what `setGates` drives. -/
theorem downlinkPacketSetsGates : Obligations.DownlinkPacketSetsGates := fun _ _ _ _ _ hch hon =>
  ⟨validPacket_completes hch hon, invalidPacket_completes hch hon, silence_completes hch hon⟩

end Sys2Proof.Machine

/-! Lanes with an uncorrectable memory error. -/
namespace Sys2Proof.Machine

/-! ### Functions that a fault locks -/

theorem stState_mkStatus (rem lane mm : Nat) {st : Nat} (h : st < 16) : stState (mkStatus rem lane mm st) = st := by
  simp only [stState, mkStatus, nbits, BitVec.toNat_ofNat]
  omega

@[simp] theorem leaveDiag_fns (s : State) (ctx : Nat) : (leaveDiag s ctx).fns = s.fns := by
  unfold leaveDiag; split <;> rfl

@[simp] theorem demandRecord_fns (s : State) (cause fid ctx frame flags : Nat) : (demandRecord s cause fid ctx frame flags).fns = s.fns := by
  simp [demandRecord]

/-- A lane fault locks every context of the function's number; the others keep their words (R129, R139). -/
theorem mem_takeSafe_laneFault {s : State} {c : Image} {n : Nat} {f x : FnSt} (hx : x ∈ (takeSafe s c n f 0x26).fns) :
    stState x.status = 3 ∨ (x ∈ s.fns ∧ (x.ctx = f.ctx → stState f.status = 3)) := by
  by_cases hlocked : stState f.status = 3
  · rw [takeSafe, if_pos (by simpa using hlocked)] at hx
    exact .inr ⟨hx, fun _ => hlocked⟩
  · simp only [takeSafe, hlocked, locksFn, countsMm, beq_iff_eq, Nat.reduceBEq, Bool.or_true, Bool.or_self, Bool.true_or, Bool.false_and,
      Bool.false_eq_true, ite_true, ite_false, demandRecord_fns, leaveDiag_fns, modFn, List.mem_map] at hx
    obtain ⟨y, hy, rfl⟩ := hx
    split
    · exact .inl (stState_mkStatus _ _ _ (by decide))
    next hctx => exact .inr ⟨hy, fun h => absurd h hctx⟩

theorem mem_foldl_takeSafe_laneFault {c : Image} {n : Nat} {x : FnSt} (l : List FnSt) (s : State)
    (hx : x ∈ (l.foldl (fun t f => takeSafe t c n f 0x26) s).fns) : stState x.status = 3 ∨ (x ∈ s.fns ∧ x ∉ l) := by
  induction l generalizing s with
  | nil => exact .inr ⟨hx, List.not_mem_nil⟩
  | cons f l ih =>
    rcases ih _ hx with h | ⟨hstep, hl⟩
    · exact .inl h
    rcases mem_takeSafe_laneFault hstep with h | ⟨hs, hctx⟩
    · exact .inl h
    by_cases hf : x = f
    · exact .inl (hf ▸ hctx (by rw [hf]))
    · exact .inr ⟨hs, by simp [hf, hl]⟩

theorem insertCtx_perm (f : FnSt) (l : List FnSt) : (insertCtx f l).Perm (f :: l) := by
  induction l with
  | nil => exact .refl _
  | cons x l ih =>
    unfold insertCtx; split
    · exact .refl _
    · exact (ih.cons x).trans (.swap f x l)

theorem foldl_insertCtx_perm (l acc : List FnSt) : (l.foldl (fun acc f => insertCtx f acc) acc).Perm (l ++ acc) := by
  induction l generalizing acc with
  | nil => exact .refl _
  | cons f l ih => exact (ih _).trans (((insertCtx_perm f acc).append_left l).trans List.perm_middle)

/-- Placing contexts in ascending number loses none. -/
theorem byCtx_perm (l : List FnSt) : (byCtx l).Perm l := by
  simpa [byCtx] using foldl_insertCtx_perm l []

/-- After a lane fault, a function that is not LOCKED is as it was, and either it is not evaluated here or it was to be spared (R139). -/
theorem mem_allSafe_laneFault {s : State} {c : Image} {n : Nat} {except_ : FnSt → Bool} {x : FnSt} (hx : x ∈ (allSafe s c n 0x26 except_).fns) :
    stState x.status = 3 ∨ (x ∈ s.fns ∧ (holds s x = true → except_ x = true)) := by
  refine (mem_foldl_takeSafe_laneFault _ s hx).imp_right fun ⟨hs, hl⟩ => ⟨hs, ?_⟩
  simpa [(byCtx_perm _).mem_iff, hs] using hl

theorem holds_congr {s t : State} (h : t.cuts = s.cuts) (f : FnSt) : holds t f = holds s f := by simp [holds, cutOf, h]

/-- A lane fault that spares no function leaves none in FALLOW (R139). -/
theorem allSafe_laneFault_noFallow (s : State) (c : Image) (n : Nat) :
    let t := allSafe s c n 0x26 (fun _ => false)
    t.fns.any (inFallowHere t) = false := by
  intro t
  have hcuts : t.cuts = s.cuts := (allSafe_safeStep s c n 0x26 _).touches.same .cuts (by simp)
  simp only [List.any_eq_false, inFallowHere, holds_congr hcuts]
  intro x hx
  rcases mem_allSafe_laneFault hx with h | ⟨-, hspared⟩
  · simp [h]
  · simpa using fun hheld => absurd (hspared hheld) (by decide)

/-! ### The mark of a lane -/

/-- A lane is marked and no function runs: the module is not in RUN, and START needs a module reset (R139, R148). -/
structure LaneOut (l : Lane) (t : State) : Prop where
  mark : marked t l = true
  notRun : t.lan.inRun = false
  modFault : t.lan.modFault = some 0x26
  needReset : t.lan.needReset = true

/-- The mark of a lane and its fault on record, before the functions act on it (R139, R148). -/
def noteLane (s : State) (l : Lane) : State :=
  noteFault (raise { s with lan := match l with
    | .a => { s.lan with markA := true, memErr := none }
    | .b => { s.lan with markB := true, memErr := none } } 25 0xFFFFFFFF 0 0x26) 0x26

theorem noteLane_inRun (s : State) (l : Lane) : (noteLane s l).lan.inRun = s.lan.inRun := by cases l <;> simp [noteLane, noteFault]

theorem markLane_outsideRun {s : State} {l : Lane} (hrun : s.lan.inRun = false) (n : Nat) (keep : FnSt → Bool) :
    markLane s l n keep = faultInHold (noteLane s l) := by
  have hnote : (noteLane s l).lan.inRun = false := (noteLane_inRun s l).trans hrun
  unfold markLane
  exact if_pos (by rw [Bool.not_eq_true']; exact hnote)

/-- The Riddle stops comparing and a diagnosis ends (R139). -/
def endCompare (s : State) : State := { s with rdl := stopRiddle s.rdl, lan := { s.lan with diag := none } }

/-- What a mark in RUN makes of the functions: those to be kept enter FALLOW, the others are LOCKED, and with none in FALLOW the module enters
HOLD (R130, R139). -/
def fallowOrHold (s : State) (c : Image) (n : Nat) (keep : FnSt → Bool) : State :=
  let stay := fun f => keep f && stState f.status != 3
  let t := (s.fns.filter (fun f => holds s f && stay f)).foldl (fun t f => enterFallow t c f) (allSafe s c n 0x26 stay)
  if t.fns.any (inFallowHere t) then t else enterHold t 3

theorem markLane_run {s : State} {l : Lane} (hrun : s.lan.inRun = true) (n : Nat) (keep : FnSt → Bool) :
    markLane s l n keep = (endCompare (noteLane s l)).cfg.elim (enterHold (endCompare (noteLane s l)) 3)
      (fun c => fallowOrHold (endCompare (noteLane s l)) c n keep) := by
  have hnote : ¬(!(noteLane s l).lan.inRun) = true := by simp [noteLane_inRun, hrun]
  unfold markLane
  refine (if_neg hnote).trans ?_
  change (match (endCompare (noteLane s l)).cfg with
    | none => enterHold (endCompare (noteLane s l)) 3
    | some c => fallowOrHold (endCompare (noteLane s l)) c n keep) = _
  cases (endCompare (noteLane s l)).cfg <;> rfl

theorem fallowOrHold_sparingNone (s : State) (c : Image) (n : Nat) :
    fallowOrHold s c n (fun _ => false) = enterHold (allSafe s c n 0x26 (fun _ => false)) 3 := by
  have hnone : s.fns.filter (fun _ => false) = [] := List.filter_eq_nil_iff.mpr fun _ _ => Bool.false_ne_true
  simp only [fallowOrHold, Bool.false_and, Bool.and_false, hnone, List.foldl_nil]
  exact if_neg (by rw [Bool.not_eq_true]; exact allSafe_laneFault_noFallow s c n)

/-- In RUN a mark that spares no function leads to HOLD, with the lane page as the mark left it (R130, R139). -/
theorem markLane_sparingNone {s : State} {l : Lane} (hrun : s.lan.inRun = true) (n : Nat) :
    ∃ u, lanCore u.lan = lanCore (noteLane s l).lan ∧ markLane s l n (fun _ => false) = enterHold u 3 := by
  rw [markLane_run hrun]
  cases (endCompare (noteLane s l)).cfg with
  | none => exact ⟨_, rfl, rfl⟩
  | some c => exact ⟨_, (allSafe_safeStep (endCompare (noteLane s l)) c n 0x26 _).lan, fallowOrHold_sparingNone _ c n⟩

theorem laneOut_enterHold {s u : State} {l : Lane} (h : lanCore u.lan = lanCore (noteLane s l).lan) : LaneOut l (enterHold u 3) where
  mark := by
    cases l with
    | a => simpa [enterHold, marked, noteLane, noteFault, lanCore] using congrArg LanSt.markA h
    | b => simpa [enterHold, marked, noteLane, noteFault, lanCore] using congrArg LanSt.markB h
  notRun := by simp [enterHold]
  modFault := by cases l <;> simpa [enterHold, noteLane, noteFault, lanCore] using congrArg LanSt.modFault h
  needReset := by cases l <;> simpa [enterHold, noteLane, noteFault, lanCore, resetNeeded] using congrArg LanSt.needReset h

theorem laneOut_faultInHold {s : State} (l : Lane) (hrun : s.lan.inRun = false) : LaneOut l (faultInHold (noteLane s l)) where
  mark := by cases l <;> simp [faultInHold, noteLane, noteFault, marked]
  notRun := (noteLane_inRun s l).trans hrun
  modFault := by simp [faultInHold, noteLane, noteFault]
  needReset := by simp [faultInHold, noteLane, noteFault, resetNeeded]

/-- A mark that spares no function stops the module in HOLD, in RUN and outside it (R130, R139). -/
theorem markLane_laneOut (s : State) (l : Lane) (n : Nat) : LaneOut l (markLane s l n (fun _ => false)) := by
  by_cases hrun : s.lan.inRun = true
  · obtain ⟨u, hlan, heq⟩ := markLane_sparingNone (l := l) hrun n
    exact heq ▸ laneOut_enterHold hlan
  · have hhold : s.lan.inRun = false := by simpa using hrun
    exact markLane_outsideRun hhold n _ ▸ laneOut_faultInHold l hhold

/-! ### Memory errors, as O15 states them -/

/-- In RUN the error of a lane waits for the next C instant (R139). -/
theorem laneMemoryErrorEffect_run {s : State} {l : Lane} (hmark : marked s l = false) (hother : marked s l.other = false)
    (herr : s.lan.memErr ≠ some l.other) (hrun : s.lan.inRun = true) (hgo : s.lan.halted = false) :
    laneMemoryErrorEffect l s = { s with lan := { s.lan with memErr := some l } } := by
  simp [laneMemoryErrorEffect, hmark, hother, herr, hrun, hgo]

/-- Outside RUN, and in a halt, it acts at once and spares no function (R139). -/
theorem laneMemoryErrorEffect_outsideRun {s : State} {l : Lane} (hmark : marked s l = false) (hother : marked s l.other = false)
    (herr : s.lan.memErr ≠ some l.other) (hout : s.lan.inRun = false ∨ s.lan.halted = true) :
    laneMemoryErrorEffect l s = markLane s l (lastCommitted s) (fun _ => false) := by
  have hnow : (s.lan.inRun && !s.lan.halted) = false := by rcases hout with h | h <;> simp [h]
  simp [laneMemoryErrorEffect, hmark, hother, herr, hnow]

/-- With the other lane marked it is a fault of both (R131). -/
theorem laneMemoryErrorEffect_both {s : State} {l : Lane} (hmark : marked s l = false) (hother : marked s l.other = true) :
    laneMemoryErrorEffect l s = markBoth s := by
  simp [laneMemoryErrorEffect, hmark, hother]

theorem markBoth_acts (s : State) : faultActed 0x27 (markBoth s) := faultAtOnce_acts { s with lan := { s.lan with memErr := none } } 25 (by decide)

theorem markBoth_leaves {s : State} (hrun : s.lan.inRun = true) : leftRun (markBoth s) :=
  faultAtOnce_leaves { s with lan := { s.lan with memErr := none } } 25 (by decide) hrun

/-- Settles O15: the error waits, is a mark that spares no function, or is a fault of both lanes. -/
theorem memoryErrorMarksLane : Obligations.MemoryErrorMarksLane := by
  refine fun s l hs hmark => ⟨fun hother herr hrun hgo => ?_, fun hother herr hout => ?_, fun hother => ?_⟩ <;> refine completes_finish rfl hs ?_
  · rw [laneMemoryErrorEffect_run hmark hother herr hrun hgo]
    simpa using hrun
  · obtain ⟨hlane, hnot, hfault, hreset⟩ := markLane_laneOut s l (lastCommitted s)
    rw [laneMemoryErrorEffect_outsideRun hmark hother herr hout]
    exact ⟨by cases l <;> simpa [marked] using hlane, by simpa using hnot, by simpa using hfault, by simpa using hreset⟩
  · rw [laneMemoryErrorEffect_both hmark hother]
    exact ⟨by simpa using markBoth_acts s, fun hrun => by simpa using markBoth_leaves hrun⟩

end Sys2Proof.Machine

/-! Host commands that write into their buffer. -/
namespace Sys2Proof.Machine

/-! ### A host command that runs -/

/-- A host command that starts ends as its body does (R321). -/
theorem runCmd_of_starts {i : Instr} {s : State} {o : Outst} {c : CmdRef} {p : Outst → Bool} {buf : Bytes} (h : Starts i s o)
    (hrow : hostRow i = some (c, p, buf)) (body : State → Outst → State) : runCmd s c p buf body = body s o := by
  obtain ⟨-, -, c', p', buf', hrow', hcmd, hfree⟩ := h
  obtain ⟨rfl, rfl, rfl⟩ : c' = c ∧ p' = p ∧ buf' = buf := by simpa using hrow'.symm.trans hrow
  simp [runCmd, hcmd, hfree]

/-- A host command that starts, and whose body raises no event, answers what its body makes of the state. -/
theorem completes_body {i : Instr} {s t : State} {o : Outst} {c : CmdRef} {p : Outst → Bool} {buf : Bytes} {body : State → Outst → State}
    (h : Starts i s o) (hrow : hostRow i = some (c, p, buf)) (hexec : exec i s = finish s (runCmd s c p buf body)) (hbody : body s o = t)
    (hevt : t.evt = s.evt) : Completes i s (fun u => u = t) := by
  obtain ⟨hs, hplaced, -⟩ := id h
  have ht : eventsPlaced t := by rwa [eventsPlaced, hevt]
  exact completes_finish (hexec.trans (by rw [runCmd_of_starts h hrow, hbody])) hs (flush_of_placed t ht)

/-! ### The end of a command -/

theorem endCmd_endsWith (s : State) (o : Outst) (status : Nat) (rej : Nat × Nat) (outlen : Nat) (result : Bytes) :
    endsWith s (endCmd s o status rej outlen result) o status rej outlen result := by
  unfold endsWith endCmd endAt noteFusLast; dsimp only; split <;> rfl

theorem endCmd_posted (s : State) (o : Outst) (status : Nat) (rej : Nat × Nat) (outlen : Nat) (result : Bytes) :
    (endCmd s o status rej outlen result).host.posted = s.host.posted :=
  ((onlyTouches_endCmd s o status rej outlen result).same .mail (by simp)).1

section
variable (s : State) (o : Outst) (data result : Bytes)

theorem onlyTouches_endWithData : onlyTouches [.host, .fus, .mail] s (endWithData s o data result) := by
  have hend (t : State) (status : Nat) (rej : Nat × Nat) (outlen : Nat) (r : Bytes) :
      onlyTouches [.host, .fus, .mail] t (endCmd t o status rej outlen r) := (onlyTouches_endCmd t o status rej outlen r).mono (by simp)
  unfold endWithData; split
  · exact hend _ _ _ _ _
  · split
    · exact hend _ _ _ _ _
    · exact ((onlyTouches_post s _).mono (by simp)).trans (hend _ _ _ _ _)

variable {s data}

/-- While DMA is stopped, a command with something to write ends with DMA_ERROR (R321). -/
theorem endWithData_stopped (h : dmaOk s = false) (hdata : data ≠ []) : endWithData s o data result = endWith s o 0x0B := by
  simp [endWithData, h, hdata]

/-- With nothing to write, DMA does not matter. -/
theorem endWithData_nil : endWithData s o [] result = endCmd s o 0 (0, 0) 0 result := by simp [endWithData]

theorem endWithData_running (h : dmaOk s = true) (hdata : data ≠ []) :
    endWithData s o data result = endCmd (post s (.buffer o.addr data)) o 0 (0, 0) data.length result := by
  simp [endWithData, h, hdata]

theorem endWithData_stopped_ends (h : dmaOk s = false) (hdata : data ≠ []) :
    endsWith s (endWithData s o data result) o 0x0B (0, 0) 0 [] ∧ (endWithData s o data result).host.posted = s.host.posted := by
  rw [endWithData_stopped o result h hdata]
  exact ⟨endCmd_endsWith .., endCmd_posted ..⟩

theorem endWithData_nil_ends :
    (endWithData s o [] result).host.posted = s.host.posted ∧ endsWith s (endWithData s o [] result) o 0 (0, 0) 0 result := by
  rw [endWithData_nil o result]
  exact ⟨endCmd_posted .., endCmd_endsWith ..⟩

/-- With DMA running, what there is to write goes into the buffer (R323). -/
theorem endWithData_running_ends (h : dmaOk s = true) :
    (data ≠ [] → (endWithData s o data result).host.posted = s.host.posted ++ [.buffer o.addr data]) ∧
    endsWith s (endWithData s o data result) o 0 (0, 0) data.length result := by
  by_cases hdata : data = []
  · subst hdata
    exact ⟨fun hne => absurd rfl hne, (endWithData_nil_ends o result).2⟩
  · rw [endWithData_running o result h hdata]
    exact ⟨fun _ => endCmd_posted .., endCmd_endsWith (post s _) ..⟩

end

/-! ### READ_LOG, SMU_READ and ATTEST, as O47 states them -/

/-- The records of the log that a READ_LOG asks for (R147, R323). -/
def logAsked (s : State) (o : Outst) : List (Nat × Bytes) :=
  s.nv.log.filter (fun r => (r.1 + 2 ^ 32 - o.opndLe 0 4) % 2 ^ 32 < o.opndLe 4 4)

/-- The first record's number and how many records there are, as READ_LOG reports them (R323). -/
def logResult (s : State) (o : Outst) : Bytes :=
  leBytes 4 (((logAsked s o).head?.map (fun r => r.1)).getD (o.opndLe 0 4)) ++ leBytes 4 (logAsked s o).length

/-- The report of ATTEST with its signature and certificate (R392). -/
def attestReport (s : State) (o : Outst) : Bytes :=
  attestHead s (slice o.entry 0x18 32) ++
    ecdsaSign s.fus.devKey (Config.attestNonce s.freeCnt) (sha384 (attestHead s (slice o.entry 0x18 32))) ++
    leBytes 2 (validCert s).length ++ validCert s

section
variable {s : State} {c : CmdRef} {o : Outst}

theorem readLog_completes (h : Starts (.readLog c) s o) :
    Completes (.readLog c) s (fun t => t = endWithData s o ((logAsked s o).flatMap (fun r => r.2)) (logResult s o)) :=
  completes_body h rfl rfl rfl ((onlyTouches_endWithData s o _ _).evt_eq (by simp))

theorem smuRead_completes (h : Starts (.smuRead c) s o) :
    Completes (.smuRead c) s (fun t =>
      t = endWithData s o ((axesOf (o.opnd 0)).flatMap (smuRecord s)) (leBytes 4 (axesOf (o.opnd 0)).length)) :=
  completes_body h rfl rfl rfl ((onlyTouches_endWithData s o _ _).evt_eq (by simp))

/-- A module that can sign draws one number and writes its report (R392). -/
theorem attest_signs (h : Starts (.attest c) s o) (hsensed : s.fus.sensed = true) (hid : s.fus.idUsable = true) :
    Completes (.attest c) s (fun t => t = endWithData (nextFree s) o (attestReport s o) (leBytes 4 (attestLen s))) :=
  completes_body h rfl rfl (by simp [attestBody, hsensed, hid, attestReport]) ((onlyTouches_endWithData (nextFree s) o _ _).evt_eq (by simp))

/-- Without a usable identity key nothing is signed (R391, R392). -/
theorem attest_refuses (h : Starts (.attest c) s o) (hid : s.fus.idUsable = false) :
    Completes (.attest c) s (fun t => t = endWith s o 0x26) :=
  completes_body h rfl rfl (by simp [attestBody, hid]) ((onlyTouches_endCmd s o _ _ _ _).evt_eq (by simp))

theorem smuRecord_ne_nil (s : State) (a : Nat) : smuRecord s a ≠ [] := by
  unfold smuRecord; dsimp only; split <;> simp

theorem smuRecords_ne_nil {l : List Nat} (h : l ≠ []) : l.flatMap (smuRecord s) ≠ [] := by
  obtain ⟨a, l, rfl⟩ := List.exists_cons_of_ne_nil h
  simp [smuRecord_ne_nil]

theorem attestReport_ne_nil (s : State) (o : Outst) : attestReport s o ≠ [] := by
  simp [attestReport, attestHead, leBytes]

end

/-- Settles O47: each command ends with what it read in hand, and `endWithData` says what DMA makes of it. -/
theorem readingCommandsAnswer : Obligations.ReadingCommandsAnswer := by
  refine fun s c o => ⟨fun h => ⟨fun hdma => ?logRunning, fun d hd hdma => ⟨fun hsome => ?logStopped, fun hnone => ?logEmpty⟩⟩,
    fun h hdma haxes => ?smuStopped, fun h hdma haxes => ?smuRunning,
    fun h => ⟨fun hsensed hid hdma => ?attestRunning, fun hsensed hid hdma => ?attestStopped, fun hid => ?attestRefused⟩⟩
  case logRunning =>
    refine (readLog_completes h).mono ?_
    rintro _ rfl
    obtain ⟨hpost, hends⟩ := endWithData_running_ends (data := (logAsked s o).flatMap (fun r => r.2)) o (logResult s o) hdma
    exact ⟨logAsked s o, rfl, (onlyTouches_endWithData s o _ _).same .nv (by simp), hpost, _, hends⟩
  case logStopped =>
    refine (readLog_completes h).mono ?_
    rintro _ rfl
    exact endWithData_stopped_ends o _ hdma (hd ▸ hsome)
  case logEmpty =>
    have hasked : (logAsked s o).flatMap (fun r => r.2) = [] := hd.symm.trans hnone
    refine (readLog_completes h).mono ?_
    rintro _ rfl
    rw [hasked]
    exact (endWithData_nil_ends o _).imp_right fun hends => ⟨_, hends⟩
  case smuStopped =>
    refine (smuRead_completes h).mono ?_
    rintro _ rfl
    obtain ⟨hends, hpost⟩ := endWithData_stopped_ends o (leBytes 4 (axesOf (o.opnd 0)).length) hdma (smuRecords_ne_nil haxes)
    exact ⟨hends, hpost, (onlyTouches_endWithData s o _ _).same .smu (by simp)⟩
  case smuRunning =>
    refine (smuRead_completes h).mono ?_
    rintro _ rfl
    obtain ⟨hpost, hends⟩ := endWithData_running_ends o (leBytes 4 (axesOf (o.opnd 0)).length) hdma
    exact ⟨hpost (smuRecords_ne_nil haxes), (onlyTouches_endWithData s o _ _).same .smu (by simp), hends⟩
  case attestRunning =>
    refine (attest_signs h hsensed hid).mono ?_
    rintro _ rfl
    obtain ⟨hpost, hends⟩ := endWithData_running_ends (s := nextFree s) o (leBytes 4 (attestLen s)) hdma
    exact ⟨_, rfl, hpost (attestReport_ne_nil s o), _, hends⟩
  case attestStopped =>
    refine (attest_signs h hsensed hid).mono ?_
    rintro _ rfl
    exact endWithData_stopped_ends (s := nextFree s) o _ hdma (attestReport_ne_nil s o)
  case attestRefused =>
    refine (attest_refuses h hid).mono ?_
    rintro _ rfl
    exact ⟨endCmd_endsWith .., endCmd_posted ..⟩

end Sys2Proof.Machine

/-! Field inputs and test-pulse sources: what is read after an update. -/
namespace Sys2Proof.Machine

/-! ### Reads after an update -/

/-- An element that the update does not change in a field shows the same there, wherever the update falls. -/
theorem modAt_getD_keeps {α β : Type} (p : α → β) {f : α → α} (hf : ∀ x, p (f x) = p x) (l : List α) (i j : Nat) (d : α) :
    p ((modAt l i f).getD j d) = p (l.getD j d) := by
  by_cases hij : i = j
  · subst hij
    rcases Nat.lt_or_ge i l.length with hlt | hge
    · rw [modAt_getD_same _ _ _ _ hlt, hf]
    · simp [modAt, hge]
  · rw [modAt_getD_ne _ _ _ _ _ hij]

@[simp] theorem seqAt_flush (s : State) (l : Lane) (ch : Nat) : seqAt (flush s) l ch = seqAt s l ch := by cases l <;> simp [seqAt]
@[simp] theorem inAt_flush (s : State) (ch : Nat) : inAt (flush s) ch = inAt s ch := by simp [inAt]
@[simp] theorem srcAt_flush (s : State) (i : Nat) : srcAt (flush s) i = srcAt s i := by simp [srcAt]
@[simp] theorem srcAt_raise (s : State) (src a b c i : Nat) : srcAt (raise s src a b c) i = srcAt s i := by simp [srcAt]

@[simp] theorem seqAt_modIn (s : State) (l : Lane) (k ch : Nat) (g : InCh → InCh) : seqAt (modIn s k g) l ch = seqAt s l ch := by cases l <;> rfl
@[simp] theorem seqAt_modSrc (s : State) (l : Lane) (i ch : Nat) (g : SrcSt → SrcSt) : seqAt (modSrc s i g) l ch = seqAt s l ch := by cases l <;> rfl

theorem inAt_modIn_same {s : State} {ch : Nat} (h : ch < s.fld.ins.length) (g : InCh → InCh) : inAt (modIn s ch g) ch = g (inAt s ch) :=
  modAt_getD_same _ _ _ _ h

theorem srcAt_modSrc_same {s : State} {i : Nat} (h : i < s.fld.srcs.length) (g : SrcSt → SrcSt) : srcAt (modSrc s i g) i = g (srcAt s i) :=
  modAt_getD_same _ _ _ _ h

theorem srcAt_modSrc_ne (s : State) {i j : Nat} (h : i ≠ j) (g : SrcSt → SrcSt) : srcAt (modSrc s i g) j = srcAt s j := modAt_getD_ne _ _ _ _ _ h

/-- A field that an update of a source leaves is the same in every source. -/
theorem srcAt_modSrc_keeps {β : Type} (p : SrcSt → β) {g : SrcSt → SrcSt} (hg : ∀ x, p (g x) = p x) (s : State) (i j : Nat) :
    p (srcAt (modSrc s i g) j) = p (srcAt s j) := modAt_getD_keeps p hg _ _ _ _

@[simp] theorem srcs_length_modSrc (s : State) (i : Nat) (g : SrcSt → SrcSt) : (modSrc s i g).fld.srcs.length = s.fld.srcs.length :=
  modAt_length _ _ _

theorem onlyTouches_modSeq (s : State) (l : Lane) (ch : Nat) (g : SeqIn → SeqIn) : onlyTouches [.fld] s (modSeq s l ch g) := by
  intro p; cases p <;> simp [samePart]

theorem onlyTouches_modIn (s : State) (ch : Nat) (g : InCh → InCh) : onlyTouches [.fld] s (modIn s ch g) := by
  intro p; cases p <;> simp [samePart]

theorem onlyTouches_modSrc (s : State) (i : Nat) (g : SrcSt → SrcSt) : onlyTouches [.fld] s (modSrc s i g) := by
  intro p; cases p <;> simp [samePart]

/-- Between commands, an effect of the field side alone raises no event, and the command answers just it. -/
theorem exec_finish_fld {i : Instr} {s t : State} (hexec : exec i s = finish s t) (hs : awake s = true) (hev : eventsPlaced s)
    (ht : onlyTouches [.fld] s t) : exec i s = .next t := by
  rw [hexec, finish_awake hs, flush_of_placed t (by rwa [eventsPlaced, ht.evt_eq (by simp)])]

/-! ### A channel that is there -/

section
variable {s : State} {c : Image} {ch : Nat} {p : Image → Nat → Bool} (hch : channelHere s c ch p) (l : Lane)
include hch

/-- Each sequencer follows the active configuration (R203). -/
theorem seqCfg_of_here : seqCfg s l = some c := by
  obtain ⟨-, -, -, -, htimer, hparA, hparB, -⟩ := hch
  rw [seqCfg, if_pos htimer]
  cases l
  · exact hparA
  · exact hparB

theorem seqOn_of_here : seqOn s l = true := by
  obtain ⟨-, -, hconvA, hconvB, -⟩ := hch
  cases l
  · exact hconvA
  · exact hconvB

theorem seqAt_modSeq_here (g : SeqIn → SeqIn) : seqAt (modSeq s l ch g) l ch = g (seqAt s l ch) := by
  obtain ⟨-, -, -, -, -, -, -, hlt, -, hA, hB, -⟩ := hch
  cases l
  · exact modAt_getD_same _ _ _ _ (hA ▸ hlt)
  · exact modAt_getD_same _ _ _ _ (hB ▸ hlt)

/-- An update in both sequencers' views shows in each. -/
theorem seqAt_modBoth_here (g : SeqIn → SeqIn) : seqAt (modSeq (modSeq s .a ch g) .b ch g) l ch = g (seqAt s l ch) := by
  cases l
  · exact seqAt_modSeq_here hch .a g
  · exact seqAt_modSeq_here hch .b g

end

end Sys2Proof.Machine

/-! Samples of a field input. -/
namespace Sys2Proof.Machine

/-! ### The comparator -/

theorem riseOf_bounds (c : Image) (l : Lane) (ch : Nat) :
    7000 ≤ riseOf c l ch ∧ riseOf c l ch ≤ 13000 ∧ (chanType c ch ≠ 1 → riseOf c l ch ≤ 10000) := by
  unfold riseOf; split
  next h => exact ⟨by omega, by omega, fun hne => absurd (beq_iff_eq.mp h) hne⟩
  next => exact ⟨by omega, by omega, fun _ => by omega⟩

theorem fallOf_bounds (c : Image) (l : Lane) (ch : Nat) : riseOf c l ch - 1500 ≤ fallOf c l ch ∧ fallOf c l ch ≤ riseOf c l ch - 800 := by
  unfold fallOf; omega

section
variable {c : Image} {l : Lane} {ch : Nat} {mv : Int} (was : Bool)

theorem comparator_above (h : riseOf c l ch < mv) : comparator c l ch was mv = true := by simp [comparator, h]

theorem comparator_below (h : mv < fallOf c l ch) : comparator c l ch was mv = false := by
  have hfall := (fallOf_bounds c l ch).2
  simp [comparator, h, show ¬ riseOf c l ch < mv by omega]

/-- Below every falling threshold of R153. -/
theorem comparator_low (h : mv ≤ 5000) : comparator c l ch was mv = false := by
  have hrise := (riseOf_bounds c l ch).1
  have hfall := (fallOf_bounds c l ch).1
  exact comparator_below was (by omega)

/-- Above every rising threshold of R153. -/
theorem comparator_high (h : 15000 ≤ mv) : comparator c l ch was mv = true := by
  have hrise := (riseOf_bounds c l ch).2.1
  exact comparator_above was (by omega)

/-- Above the rising thresholds of the types but Type 1. -/
theorem comparator_high_of_type (ht : chanType c ch ≠ 1) (h : 11000 ≤ mv) : comparator c l ch was mv = true := by
  have hrise := (riseOf_bounds c l ch).2.2 ht
  exact comparator_above was (by omega)

end

/-! ### Readings of the comparator -/

theorem find?_insertCmp_same (t : BitVec 64) (v : Bool) (xs : List (BitVec 64 × Bool)) :
    (insertCmp t v xs).find? (fun x => x.1.toNat ≤ t.toNat) = some (t, v) := by
  induction xs with
  | nil => simp [insertCmp]
  | cons x xs ih =>
    unfold insertCmp; split
    next => simp
    next h => rw [List.find?_cons_of_neg (by simpa using h), ih]

theorem find?_insertCmp_before {t t' : BitVec 64} (h : t'.toNat < t.toNat) (v : Bool) (xs : List (BitVec 64 × Bool)) :
    (insertCmp t v xs).find? (fun x => x.1.toNat ≤ t'.toNat) = xs.find? (fun x => x.1.toNat ≤ t'.toNat) := by
  have hskip : ¬ t.toNat ≤ t'.toNat := by omega
  induction xs with
  | nil => simp [insertCmp, hskip]
  | cons x xs ih =>
    unfold insertCmp; split
    · exact List.find?_cons_of_neg (by simpa using hskip)
    · simp only [List.find?_cons, ih]

section
variable (c : Image) (l : Lane) (ch : Nat) (q : SeqIn) (t : BitVec 64) (mv : Int)

/-- After a sample the reading at its instant is the comparator's (R153). -/
@[simp] theorem cmpAt_readCmp_same : cmpAt (readCmp c l ch q t mv) t = comparator c l ch (cmpAt q t) mv := by
  unfold readCmp; dsimp only; split
  next h => exact (beq_iff_eq.mp h).symm
  next => rw [cmpAt, find?_insertCmp_same]; rfl

/-- A sample leaves the readings before it. -/
theorem cmpAt_readCmp_before {t' : BitVec 64} (h : t'.toNat < t.toNat) : cmpAt (readCmp c l ch q t mv) t' = cmpAt q t' := by
  unfold readCmp; dsimp only; split
  · rfl
  · rw [cmpAt, find?_insertCmp_before h]; rfl

/-- The comparator's readings are all that a sample's reading changes. -/
theorem readCmp_eq : ∃ cmps, readCmp c l ch q t mv = { q with cmps := cmps } := by
  unfold readCmp; dsimp only; split
  · exact ⟨q.cmps, rfl⟩
  · exact ⟨_, rfl⟩

end

/-! ### One sample -/

/-- The filter of every channel asks for some time (R150). -/
theorem filtTicks_pos (c : Image) (ch : Nat) : 0 < filtTicks c ch := by
  unfold filtTicks; dsimp only; split
  · omega
  next h => simp only [beq_iff_eq] at h; omega

/-- The filter moves neither the band run nor the band faults. -/
@[simp] theorem filterStep_band (filt : Nat) (q : SeqIn) (raw : Bool) (tb : BitVec 64) :
    (filterStep filt q raw tb).run = q.run ∧ (filterStep filt q raw tb).bandFaults = q.bandFaults := by
  unfold filterStep; dsimp only
  generalize q.pend.getD _ = t0
  split
  · exact ⟨rfl, rfl⟩
  · split <;> exact ⟨rfl, rfl⟩

/-- The pulse window does not touch the band faults. -/
theorem maskStep_bandFaults (pulsed : Bool) (q : SeqIn) (x : InSample) : (maskStep pulsed q x).1.bandFaults = q.bandFaults := by
  unfold maskStep; split
  · rfl
  · split
    · rfl
    · split <;> rfl

section
variable {filt : Nat} {q : SeqIn} {raw : Bool} {tb : BitVec 64}

/-- A sample that agrees with the accepted state ends a pending change (R154). -/
theorem filterStep_agrees (h : raw = q.acc) : (filterStep filt q raw tb).acc = q.acc ∧ (filterStep filt q raw tb).pend = none := by
  simp [filterStep, h]

/-- A change outside a pulse window begins with its first sample (R154). -/
theorem filterStep_begins (h : raw ≠ q.acc) (hpend : q.pend = none) (hwin : q.window = none) (hfilt : 0 < filt) :
    (filterStep filt q raw tb).acc = q.acc ∧ (filterStep filt q raw tb).pend = some tb := by
  simp [filterStep, h, hpend, hwin, show filt ≠ 0 by omega]

/-- A change is accepted once it has lasted FILT (R154). -/
theorem filterStep_goesOn {t0 : BitVec 64} (h : raw ≠ q.acc) (hpend : q.pend = some t0) :
    (filterStep filt q raw tb).acc = if filt ≤ (tb - t0).toNat then raw else q.acc := by
  unfold filterStep; dsimp only
  rw [if_neg (by simpa using h), hpend]
  simp only [Option.getD_some]
  split <;> rfl

end

/-- A sequencer's view after a sample's reading, outside a pulse window. -/
def sampleRead (c : Image) (l : Lane) (ch : Nat) (q : SeqIn) (x : InSample) : SeqIn :=
  { readCmp c l ch q x.tb x.mv with window := none, highTb := none }

theorem sampleRead_keeps (c : Image) (l : Lane) (ch : Nat) (q : SeqIn) (x : InSample) :
    (sampleRead c l ch q x).acc = q.acc ∧ (sampleRead c l ch q x).pend = q.pend ∧ (sampleRead c l ch q x).run = q.run ∧
    (sampleRead c l ch q x).bandFaults = q.bandFaults := by
  obtain ⟨cmps, h⟩ := readCmp_eq c l ch q x.tb x.mv
  simp [sampleRead, h]

section
variable {s : State} {c : Image} {l : Lane} {ch : Nat} {q : SeqIn} {x : InSample}

/-- A sample of an unmonitored input that no source pulses goes through the filter (R153, R154). -/
theorem takeSample_filtered (huse : chanUse c ch = 1) (hsrc : (chanSrc c ch).any (sourceOn s) = false) :
    takeSample s c l ch q x =
      filterStep (filtTicks c ch) (sampleRead c l ch q x) (comparator c l ch (cmpAt q x.tb) x.mv) x.tb := by
  unfold takeSample; rw [hsrc]
  rw [← cmpAt_readCmp_same]
  simp only [maskStep, huse]
  rfl

/-- What a sample of a monitored input that no source pulses makes of the band run (R156). -/
theorem takeSample_band (huse : chanUse c ch = 2) (hsrc : (chanSrc c ch).any (sourceOn s) = false) :
    (takeSample s c l ch q x).run = (bandStep (filtTicks c ch) (bandSuspended s c ch x.feed) (sampleRead c l ch q x) x).run ∧
    (takeSample s c l ch q x).bandFaults = (bandStep (filtTicks c ch) (bandSuspended s c ch x.feed) (sampleRead c l ch q x) x).bandFaults := by
  unfold takeSample; rw [hsrc]
  simp only [maskStep, huse]
  exact filterStep_band _ _ _ _

/-- While judgement is suspended a sample of a monitored input discards the run, masked or not (R157). -/
theorem takeSample_suspended (huse : chanUse c ch = 2) (hsus : bandSuspended s c ch x.feed = true) :
    (takeSample s c l ch q x).run = none ∧ (takeSample s c l ch q x).bandFaults = q.bandFaults := by
  obtain ⟨cmps, hread⟩ := readCmp_eq c l ch q x.tb x.mv
  have hmask (pulsed : Bool) : (maskStep pulsed (readCmp c l ch q x.tb x.mv) x).1.bandFaults = q.bandFaults := by
    rw [maskStep_bandFaults, hread]
  unfold takeSample; dsimp only
  rw [hsus]
  split
  · exact ⟨rfl, hmask _⟩
  · rw [if_pos (by simp [huse])]
    obtain ⟨hrun, hfaults⟩ := filterStep_band (filtTicks c ch)
      (bandStep (filtTicks c ch) true (maskStep ((chanSrc c ch).any (sourceOn s)) (readCmp c l ch q x.tb x.mv) x).1 x) (bandOf x.ua == 4) x.tb
    exact ⟨hrun, hfaults.trans (hmask _)⟩

end

/-! ### Band runs -/

theorem bandOf_break {ua : Nat} (h : ua < 400) : bandOf ua = 1 := by simp [bandOf, h]

theorem bandOf_between {ua : Nat} (h : (400 ≤ ua ∧ ua < 550) ∨ (1500 < ua ∧ ua < 2000)) : bandOf ua = 2 := by
  obtain ⟨hge, hlt⟩ | ⟨hgt, hlt⟩ := h
  · rw [bandOf, if_neg (by omega), if_pos hlt]
  · rw [bandOf, if_neg (by omega), if_neg (by omega), if_neg (by omega), if_pos hlt]

section
variable {filt : Nat} {q : SeqIn} {x : InSample}

/-- A first sample in WIRE_BREAK begins a run, which is not judged yet (R156). -/
theorem bandStep_begins (hband : bandOf x.ua = 1) (hrun : q.run = none) (hfilt : 0 < filt) :
    (bandStep filt false q x).run = some ⟨x.tb, true, false⟩ ∧ (bandStep filt false q x).bandFaults = q.bandFaults := by
  simp [bandStep, hband, hrun, stepRun, noteRun, faultRun, show filt ≠ 0 by omega]

/-- A run that began in WIRE_BREAK and has lasted FILT at a further sample sets the cause of its worst band (R156). -/
theorem bandStep_faults {t0 : BitVec 64} (hband : bandOf x.ua = 1 ∨ bandOf x.ua = 2) (hrun : q.run = some ⟨t0, true, false⟩)
    (hnone : q.bandFaults = []) (hfilt : filt ≤ (x.tb - t0).toNat) : (bandStep filt false q x).bandFaults = [bandOf x.ua] := by
  obtain hb | hb := hband <;> simp [bandStep, hb, hrun, hnone, stepRun, noteRun, faultRun, hfilt, -BitVec.toNat_sub]

end

/-- Two samples of a monitored input, the first in WIRE_BREAK, the second FILT later in a fault band, fault it with the second's band (R156). -/
theorem takeSample_twice {s : State} {c : Image} {l : Lane} {ch : Nat} {q : SeqIn} {x y : InSample} (huse : chanUse c ch = 2)
    (hsrc : (chanSrc c ch).any (sourceOn s) = false) (hx : x.ua < 400) (hsx : bandSuspended s c ch x.feed = false)
    (hsy : bandSuspended s c ch y.feed = false) (hfilt : filtTicks c ch ≤ (y.tb - x.tb).toNat) (hrun : q.run = none) (hnone : q.bandFaults = [])
    (hy : bandOf y.ua = 1 ∨ bandOf y.ua = 2) :
    (takeSample s c l ch (takeSample s c l ch q x) y).bandFaults = [bandOf y.ua] := by
  obtain ⟨-, -, hrun0, hnone0⟩ := sampleRead_keeps c l ch q x
  obtain ⟨hrun1, hnone1⟩ := bandStep_begins (bandOf_break hx) (hrun0.trans hrun) (filtTicks_pos c ch)
  obtain ⟨htake, htake'⟩ := takeSample_band (l := l) (q := q) (x := x) huse hsrc
  obtain ⟨-, -, hrun2, hnone2⟩ := sampleRead_keeps c l ch (takeSample s c l ch q x) y
  rw [(takeSample_band huse hsrc).2, hsy]
  rw [hsx] at htake htake'
  exact bandStep_faults hy (hrun2.trans (htake.trans hrun1)) (hnone2.trans (htake'.trans (hnone1.trans (hnone0.trans hnone)))) hfilt

end Sys2Proof.Machine

/-! Faults of a field input, as O21 states them. -/
namespace Sys2Proof.Machine

/-! ### Samples -/

/-- A sequencer's view of a channel after samples; only a channel bound to a source looks back at readings. -/
def viewAfter (s : State) (c : Image) (l : Lane) (ch : Nat) (xs : List InSample) (q : SeqIn) : SeqIn :=
  if (chanSrc c ch).isNone then forgetCmps (xs.foldl (takeSample s c l ch) q) s.tb else xs.foldl (takeSample s c l ch) q

/-- Readings that are forgotten leave all but the readings. -/
theorem viewAfter_keeps {β : Type} (p : SeqIn → β) (hp : ∀ q t, p (forgetCmps q t) = p q) (s : State) (c : Image) (l : Lane) (ch : Nat)
    (xs : List InSample) (q : SeqIn) : p (viewAfter s c l ch xs q) = p (xs.foldl (takeSample s c l ch) q) := by
  unfold viewAfter; split
  · exact hp _ _
  · rfl

section
variable {s : State} {l : Lane} {c : Image} {ch : Nat} (hch : channelHere s c ch isSafeIn)
include hch

theorem takeSamples_here (xs : List InSample) : takeSamples l ch xs s = modSeq s l ch (viewAfter s c l ch xs) := by
  obtain ⟨-, -, -, -, -, -, -, -, hin, -⟩ := id hch
  rw [takeSamples, seqCfg_of_here hch l]
  exact if_pos (by simp [seqOn_of_here hch l, sampled, hin])

theorem inputFilterAccept_exec (hev : eventsPlaced s) (xs : List InSample) :
    exec (.inputFilterAccept l ch xs) s = .next (modSeq s l ch (viewAfter s c l ch xs)) := by
  refine exec_finish_fld ?_ hch.1 hev (onlyTouches_modSeq s l ch _)
  rw [← takeSamples_here hch]; rfl

/-- A sample of an unmonitored input that no source pulses: the filter of R154 on the comparator's reading. -/
theorem inputFilterAccept_completes (hev : eventsPlaced s) {x : InSample} {raw : Bool} (huse : chanUse c ch = 1)
    (hsrc : (chanSrc c ch).any (sourceOn s) = false) (hraw : comparator c l ch (cmpAt (seqAt s l ch) x.tb) x.mv = raw) :
    Completes (.inputFilterAccept l ch [x]) s (fun t =>
      (raw = (seqAt s l ch).acc → (seqAt t l ch).acc = (seqAt s l ch).acc ∧ (seqAt t l ch).pend = none) ∧
      (raw ≠ (seqAt s l ch).acc → (seqAt s l ch).pend = none → (seqAt t l ch).acc = (seqAt s l ch).acc ∧ (seqAt t l ch).pend = some x.tb) ∧
      (∀ t0, raw ≠ (seqAt s l ch).acc → (seqAt s l ch).pend = some t0 →
        (seqAt t l ch).acc = if filtTicks c ch ≤ (x.tb - t0).toNat then raw else (seqAt s l ch).acc)) := by
  obtain ⟨hacc, hpend, -⟩ := sampleRead_keeps c l ch (seqAt s l ch) x
  refine ⟨_, inputFilterAccept_exec hch hev [x], ?_⟩
  simp only [seqAt_modSeq_here hch l, viewAfter_keeps SeqIn.acc (fun _ _ => rfl), viewAfter_keeps SeqIn.pend (fun _ _ => rfl),
    List.foldl_cons, List.foldl_nil, takeSample_filtered huse hsrc, hraw]
  rw [← hacc, ← hpend]
  exact ⟨filterStep_agrees, fun hne hnone => filterStep_begins hne hnone rfl (filtTicks_pos c ch), fun _ => filterStep_goesOn⟩

theorem bandRunFault_unmonitored (hev : eventsPlaced s) (huse : chanUse c ch ≠ 2) (xs : List InSample) :
    exec (.bandRunFault l ch xs) s = .next s :=
  exec_finish_idle rfl (by simp [bandRunFaultEffect, seqCfg_of_here hch l, huse]) hev

theorem bandRunFault_exec (hev : eventsPlaced s) (huse : chanUse c ch = 2) (xs : List InSample) :
    exec (.bandRunFault l ch xs) s = .next (modSeq s l ch (viewAfter s c l ch xs)) := by
  refine exec_finish_fld ?_ hch.1 hev (onlyTouches_modSeq s l ch _)
  rw [← takeSamples_here hch]
  simp [exec, execBandRunFault, bandRunFaultEffect, seqCfg_of_here hch l, huse]

/-- Two samples FILT apart, the first in WIRE_BREAK and the second in a fault band, set the cause of the second (R156). -/
theorem bandRunFault_completes (hev : eventsPlaced s) {x y : InSample} (huse : chanUse c ch = 2)
    (hsrc : (chanSrc c ch).any (sourceOn s) = false) (hx : x.ua < 400) (hsx : bandSuspended s c ch x.feed = false)
    (hsy : bandSuspended s c ch y.feed = false) (hfilt : filtTicks c ch ≤ (y.tb - x.tb).toNat) (hrun : (seqAt s l ch).run = none)
    (hnone : (seqAt s l ch).bandFaults = []) (hy : bandOf y.ua = 1 ∨ bandOf y.ua = 2) :
    Completes (.bandRunFault l ch [x, y]) s (fun t => (seqAt t l ch).bandFaults = [bandOf y.ua] ∧ onlyTouches [.fld] s t) := by
  refine ⟨_, bandRunFault_exec hch hev huse [x, y], ?_, onlyTouches_modSeq s l ch _⟩
  rw [seqAt_modSeq_here hch l, viewAfter_keeps SeqIn.bandFaults (fun _ _ => rfl)]
  exact takeSample_twice huse hsrc hx hsx hsy hfilt hrun hnone hy

theorem bandRunFault_suspended (hev : eventsPlaced s) {x : InSample} (huse : chanUse c ch = 2) (hsus : bandSuspended s c ch x.feed = true) :
    Completes (.bandRunFault l ch [x]) s (fun t =>
      (seqAt t l ch).run = none ∧ (seqAt t l ch).bandFaults = (seqAt s l ch).bandFaults) := by
  refine ⟨_, bandRunFault_exec hch hev huse [x], ?_⟩
  simp only [seqAt_modSeq_here hch l, viewAfter_keeps SeqIn.run (fun _ _ => rfl), viewAfter_keeps SeqIn.bandFaults (fun _ _ => rfl)]
  exact takeSample_suspended huse hsus

end

/-! ### Disagreement -/

/-- A cause that no other revises, and that is among the new ones, is among the merged ones (R170). -/
theorem mem_mergeCauses {old new : List Nat} {x : Nat} (hx : x ∈ new) (hkey : ∀ y, causeKey y = causeKey x → y = x) : x ∈ mergeCauses old new := by
  unfold mergeCauses; dsimp only
  generalize old.filterMap (fun x => new.find? (fun y => causeKey y == causeKey x)) = kept
  by_cases hkept : x ∈ kept
  · exact List.mem_append_left _ hkept
  · refine List.mem_append_right _ (List.mem_filter.mpr ⟨hx, ?_⟩)
    simp only [Bool.not_eq_true', List.any_eq_false, beq_iff_eq]
    exact fun y hy heq => hkept (hkey y heq ▸ hy)

theorem causeKey_eq_five {y : Nat} (h : causeKey y = causeKey 5) : y = 5 := by
  unfold causeKey at h; split at h <;> simp_all

/-- An input whose two latches have differed in three frames (R160). -/
def holdsDisagree (tb : BitVec 64) (i : InCh) : InCh := { i with dis := true, disTb := tb }

/-- A safety input that holds DISAGREE is at fault and off (R160, R170). -/
theorem agreeIn_dis (s : State) {c : Image} {ch : Nat} {p : InCh} (hin : isSafeIn c ch = true) (hdis : p.dis = true) :
    (agreeIn s c ch p).dis = true ∧ (agreeIn s c ch p).fault = true ∧ (agreeIn s c ch p).state = false ∧ 5 ∈ (agreeIn s c ch p).causes := by
  unfold agreeIn; dsimp only
  rw [if_neg (by simp [hin])]
  simp only [hdis, Bool.true_or, Bool.or_true, Bool.not_true, Bool.false_and, if_true, true_and]
  refine mem_mergeCauses ?_ fun y => causeKey_eq_five
  generalize hnew : List.eraseDups (_ : List Nat) = new
  have hmem : 5 ∈ new := by rw [← hnew]; simp [List.mem_eraseDups]
  split
  · exact List.mem_filter.mpr ⟨hmem, rfl⟩
  · exact hmem

theorem insPrev_stepBank (first : Bool) (s : State) (b : Nat) : (stepBank first s b).fld.insPrev = s.fld.insPrev := by
  have hedge (t : State) (old new : BankState) : (bankEdge t b old new).fld.insPrev = t.fld.insPrev := by
    unfold bankEdge; split
    · rfl
    · cases new <;> rfl
  unfold stepBank; dsimp only
  generalize (if first = true then _ else _ : BankState) = old
  split
  · exact hedge _ _ _
  · exact (foldl_keeps (fun t : State => t.fld.insPrev) (fun t e => by simp only [raise_frame]) _ _).trans (hedge _ _ _)

theorem insPrev_setOutCause (s : State) (ch cause : Nat) (byA byB : Bool) : (setOutCause s ch cause byA byB).fld.insPrev = s.fld.insPrev := by
  unfold setOutCause; dsimp only; split
  · rfl
  · split
    · simp only [raise_frame]; rfl
    · rfl

theorem insPrev_stepOut (c : Image) (s : State) (ch : Nat) : (stepOut c s ch).fld.insPrev = s.fld.insPrev := by
  unfold stepOut; dsimp only; split
  · rfl
  · split
    · exact insPrev_setOutCause s ch 9 true true
    · rfl

/-- An input that a judgement of the latches agrees on anew is judged from what the frame before left of it (R34). -/
theorem inAt_judgeField (s : State) (c : Image) (first : Bool) {ch : Nat} (h : ch < s.fld.insPrev.length) :
    ∃ u, inAt (judgeField s c first) ch = agreeIn u c ch (s.fld.insPrev.getD ch InCh.reset) := by
  unfold judgeField; dsimp only
  generalize hu : (List.range 96).foldl (stepOut c) _ = u
  have hprev : u.fld.insPrev = s.fld.insPrev := by
    rw [← hu, foldl_keeps (fun t : State => t.fld.insPrev) (insPrev_stepOut c), foldl_keeps (fun t : State => t.fld.insPrev) (insPrev_stepBank first)]
  refine ⟨u, ?_⟩
  simp [agree, inAt, hprev, h]

@[simp] theorem inAt_patchImage (s : State) (c : Image) (ch : Nat) : inAt (patchImage s c) ch = inAt s ch := by
  unfold patchImage; split <;> rfl

@[simp] theorem inAt_showAgreed (s : State) (ch : Nat) : inAt (showAgreed s) ch = inAt s ch := rfl

/-- Of a frame that has images, a replaced latch judges every input anew (R201). -/
theorem inAt_rejudge {s : State} {c : Image} {ch : Nat} (hcfg : s.cfg = some c) (himgs : s.lan.imgs ≠ []) (h : ch < s.fld.insPrev.length) :
    ∃ u, inAt (rejudge s) ch = agreeIn u c ch (s.fld.insPrev.getD ch InCh.reset) := by
  simpa [rejudge, hcfg, himgs] using inAt_judgeField s c false h

/-- The third frame of a disagreement faults the input, in the frame in hand (R160). -/
theorem inputDisagree_completes {s : State} {c : Image} {ch : Nat} (hch : channelHere s c ch isSafeIn) (hdiffer : 3 ≤ (inAt s ch).differ)
    (hprev : s.fld.insPrev.length = 96) (himgs : s.lan.imgs ≠ []) : Completes (.inputDisagree ch) s (fun t =>
      (inAt t ch).dis = true ∧ (inAt t ch).fault = true ∧ (inAt t ch).state = false ∧ 5 ∈ (inAt t ch).causes) := by
  obtain ⟨hs, hcfg, -, -, -, -, -, hlt, hin, -⟩ := hch
  have heffect : inputDisagreeEffect ch s = rejudge (modIn s ch (holdsDisagree s.tb)) := by
    simp only [inputDisagreeEffect, hcfg, hin, hdiffer, Bool.true_and, decide_true, if_true]; rfl
  have hlen : ch < (modIn s ch (holdsDisagree s.tb)).fld.insPrev.length := (modAt_length _ _ _).symm ▸ hprev ▸ hlt
  have hdis : ((modIn s ch (holdsDisagree s.tb)).fld.insPrev.getD ch InCh.reset).dis = true :=
    congrArg InCh.dis (modAt_getD_same _ _ _ _ (hprev ▸ hlt))
  obtain ⟨u, hu⟩ := inAt_rejudge (c := c) (by simpa using hcfg) (by simpa using himgs) hlen
  refine completes_finish rfl hs ?_
  rw [heffect, inAt_flush, hu]
  exact agreeIn_dis u hin hdis

/-! ### Causes that clear -/

section
variable {s : State} {l : Lane} {c : Image} {ch : Nat} (hch : channelHere s c ch isSafeIn)
include hch

/-- What the clearing of a cause can do: nothing, to a band cause in both sequencers' views, or to the agreed data (R170). -/
theorem inputFaultClear_cases (cause : Nat) :
    inputFaultClearEffect ⟨ch, cause⟩ s =
      if cause = 1 ∨ cause = 2 then
        if sourceBad s c ch then s
        else modSeq (modSeq s .a ch (clearBand s (clrTicks s c ch) cause)) .b ch (clearBand s (clrTicks s c ch) cause)
      else if cause = 5 then
        modIn s ch (fun i => if i.differ == 0 && absentFor s i.disTb (clrTicks s c ch) then { i with dis := false } else i)
      else if cause = 6 then
        if sourceBad s c ch then s else modIn s ch (fun i => if absentFor s i.srcTb (clrTicks s c ch) then { i with srcBad := false } else i)
      else s := by
  obtain ⟨-, hcfg, -, -, -, -, -, -, hin, -⟩ := hch
  simp [inputFaultClearEffect, hcfg, hin]

/-- A command that clears a cause stays in the field side, and leaves code faults alone (R167, R170). -/
theorem inputFaultClear_frame (cause : Nat) : (seqAt (inputFaultClearEffect ⟨ch, cause⟩ s) l ch).codeFault = (seqAt s l ch).codeFault ∧
    onlyTouches [.fld] s (inputFaultClearEffect ⟨ch, cause⟩ s) := by
  have hband : (clearBand s (clrTicks s c ch) cause (seqAt s l ch)).codeFault = (seqAt s l ch).codeFault := by
    unfold clearBand; dsimp only
    generalize absentFor s _ _ = absent
    split <;> rfl
  rw [inputFaultClear_cases hch]
  split
  · split
    · exact ⟨rfl, .refl⟩
    · exact ⟨by rw [seqAt_modBoth_here hch, hband], (onlyTouches_modSeq s .a ch _).trans (onlyTouches_modSeq _ .b ch _)⟩
  · split
    · exact ⟨by rw [seqAt_modIn], onlyTouches_modIn s ch _⟩
    · split
      · split
        · exact ⟨rfl, .refl⟩
        · exact ⟨by rw [seqAt_modIn], onlyTouches_modIn s ch _⟩
      · exact ⟨rfl, .refl⟩

theorem inputFaultClear_disagree (hdiffer : (inAt s ch).differ = 0) (habsent : absentFor s (inAt s ch).disTb (clrTicks s c ch) = true) :
    (inAt (inputFaultClearEffect ⟨ch, 5⟩ s) ch).dis = false := by
  obtain ⟨-, -, -, -, -, -, -, hlt, -, -, -, hins, -⟩ := id hch
  rw [inputFaultClear_cases hch, if_neg (by decide), if_pos rfl, inAt_modIn_same (hins ▸ hlt)]
  simp [hdiffer, habsent]

theorem inputFaultClear_source (hbad : sourceBad s c ch = false) (habsent : absentFor s (inAt s ch).srcTb (clrTicks s c ch) = true) :
    (inAt (inputFaultClearEffect ⟨ch, 6⟩ s) ch).srcBad = false := by
  obtain ⟨-, -, -, -, -, -, -, hlt, -, -, -, hins, -⟩ := id hch
  rw [inputFaultClear_cases hch, if_neg (by decide), if_neg (by decide), if_pos rfl, if_neg (by simp [hbad]), inAt_modIn_same (hins ▸ hlt)]
  simp [habsent]

theorem inputFaultClear_band {cause : Nat} (hcause : cause = 1 ∨ cause = 2) (hbad : sourceBad s c ch = false) (hrun : (seqAt s l ch).run = none)
    (habsent : absentFor s (if cause = 1 then (seqAt s l ch).breakTb else (seqAt s l ch).indetTb) (clrTicks s c ch) = true) (x : Nat) :
    x ∈ (seqAt (inputFaultClearEffect ⟨ch, cause⟩ s) l ch).bandFaults ↔ x ∈ (seqAt s l ch).bandFaults ∧ x ≠ cause := by
  rw [inputFaultClear_cases hch, if_pos hcause, if_neg (by simp [hbad]), seqAt_modBoth_here hch]
  simp [clearBand, hrun, habsent]

theorem inputFaultClear_completes (hev : eventsPlaced s) (cause : Nat) : Completes (.inputFaultClear ⟨ch, cause⟩) s (fun t =>
    (cause = 5 → (inAt s ch).differ = 0 → absentFor s (inAt s ch).disTb (clrTicks s c ch) = true → (inAt t ch).dis = false) ∧
    (cause = 6 → sourceBad s c ch = false → absentFor s (inAt s ch).srcTb (clrTicks s c ch) = true → (inAt t ch).srcBad = false) ∧
    (cause = 1 ∨ cause = 2 → sourceBad s c ch = false → (seqAt s l ch).run = none →
      absentFor s (if cause = 1 then (seqAt s l ch).breakTb else (seqAt s l ch).indetTb) (clrTicks s c ch) = true →
      ∀ x, x ∈ (seqAt t l ch).bandFaults ↔ x ∈ (seqAt s l ch).bandFaults ∧ x ≠ cause) ∧
    (seqAt t l ch).codeFault = (seqAt s l ch).codeFault ∧ onlyTouches [.fld] s t) := by
  have hframe := inputFaultClear_frame (l := l) hch cause
  refine ⟨_, exec_finish_fld rfl hch.1 hev hframe.2, ?_, ?_, inputFaultClear_band hch, hframe⟩
  · rintro rfl
    exact inputFaultClear_disagree hch
  · rintro rfl
    exact inputFaultClear_source hch

end

end Sys2Proof.Machine

/-! Slots of test-pulse sources and code faults. -/
namespace Sys2Proof.Machine

/-! ### The cause of a code fault -/

/-- The slots that decide the cause of a code fault: judged, and among the 24 from its first mismatch (R167). -/
theorem finalCause_cases (q : SeqIn) (others : List Nat) (own : Nat) : (finalCause q others own).final = true ∧
    ((∀ x ∈ q.judged, x.2 = true) → (finalCause q others own).codeFault = some 3 ∧ (finalCause q others own).foreign = 0x1F) ∧
    (∀ x ∈ q.judged, x.2 = false → q.firstMis ≤ x.1 → x.1 < q.firstMis + 24 → (finalCause q others own).codeFault = some 4) := by
  unfold finalCause; dsimp only; split
  next hall =>
    refine ⟨rfl, fun _ => ⟨rfl, rfl⟩, fun x hx hmis hge hlt => ?_⟩
    have hx' := List.all_eq_true.mp hall x (by simp [hx, hge, hlt])
    exact absurd (hmis.symm.trans hx') (by decide)
  next hsome =>
    refine ⟨rfl, fun hmis => absurd ?_ hsome, fun _ _ _ _ _ => rfl⟩
    exact List.all_eq_true.mpr fun x hx => hmis x ((List.mem_filter.mp hx).1)

theorem codeCauseFinal_completes {s : State} {l : Lane} {c : Image} {ch i : Nat} (hch : channelHere s c ch isSafeIn) (hev : eventsPlaced s)
    (hsrc : chanSrc c ch = some i) (hfault : (seqAt s l ch).codeFault.isSome = true) (hfinal : (seqAt s l ch).final = false)
    (hslot : (seqAt s l ch).firstMis + 24 ≤ slotNow s c i) : Completes (.codeCauseFinal l ch) s (fun t =>
      (seqAt t l ch).final = true ∧ onlyTouches [.fld] s t ∧
      ((∀ x ∈ (seqAt s l ch).judged, x.2 = true) → (seqAt t l ch).codeFault = some 3 ∧ (seqAt t l ch).foreign = 0x1F) ∧
      (∀ x ∈ (seqAt s l ch).judged, x.2 = false → (seqAt s l ch).firstMis ≤ x.1 → x.1 < (seqAt s l ch).firstMis + 24 →
        (seqAt t l ch).codeFault = some 4)) := by
  have htouch := onlyTouches_modSeq s l ch (fun q => finalCause q (otherCodes s c i) (codeOf c i))
  have hexec : exec (.codeCauseFinal l ch) s = .next (modSeq s l ch (fun q => finalCause q (otherCodes s c i) (codeOf c i))) := by
    refine exec_finish_fld ?_ hch.1 hev htouch
    simp [exec, execCodeCauseFinal, codeCauseFinalEffect, seqCfg_of_here hch l, hsrc, hfault, hfinal, hslot]
  obtain ⟨hdone, hstuck, hforeign⟩ := finalCause_cases (seqAt s l ch) (otherCodes s c i) (codeOf c i)
  refine ⟨_, hexec, ?_⟩
  simp only [seqAt_modSeq_here hch l]
  exact ⟨hdone, htouch, hstuck, hforeign⟩

/-! ### A slot as an input sees it -/

@[simp] theorem judgeSlot_judged (q : SeqIn) (t : Nat) (mis : Bool) : (judgeSlot q t mis).judged = ((t, mis) :: q.judged).take 48 := by
  unfold judgeSlot; dsimp only; split
  · split <;> rfl
  · rfl
  · split <;> rfl

/-- A sequencer's view after the three samples of a slot (R167). -/
def slotRead (c : Image) (o : InSlot) (q : SeqIn) : SeqIn :=
  [o.before, o.low, o.after].foldl (fun q x => readCmp c o.lane o.ch q x.tb x.mv) q

theorem slotRead_judged (c : Image) (o : InSlot) (q : SeqIn) : (slotRead c o q).judged = q.judged := by
  refine foldl_keeps SeqIn.judged (fun q x => ?_) _ q
  obtain ⟨cmps, h⟩ := readCmp_eq c o.lane o.ch q x.tb x.mv
  rw [h]

/-- Of samples whose levels lie beyond every threshold, in the order of time, the readings are the levels (R153). -/
theorem cmpAt_slotRead {c : Image} {o : InSlot} (q : SeqIn) (h01 : o.before.tb.toNat < o.low.tb.toNat)
    (h12 : o.low.tb.toNat < o.after.tb.toNat) (hbefore : 15000 ≤ o.before.mv) (hlow : o.low.mv ≤ 5000 ∨ 15000 ≤ o.low.mv)
    (hafter : 15000 ≤ o.after.mv) : cmpAt (slotRead c o q) o.before.tb = true ∧ cmpAt (slotRead c o q) o.low.tb = decide (15000 ≤ o.low.mv) ∧
      cmpAt (slotRead c o q) o.after.tb = true := by
  have hlevel (was : Bool) : comparator c o.lane o.ch was o.low.mv = decide (15000 ≤ o.low.mv) := by
    obtain h | h := hlow
    · rw [comparator_low was h, decide_eq_false (by omega)]
    · rw [comparator_high was h, decide_eq_true h]
  simp only [slotRead, List.foldl_cons, List.foldl_nil]
  refine ⟨?_, ?_, ?_⟩
  · rw [cmpAt_readCmp_before _ _ _ _ _ _ (Nat.lt_trans h01 h12), cmpAt_readCmp_before _ _ _ _ _ _ h01, cmpAt_readCmp_same, comparator_high _ hbefore]
  · rw [cmpAt_readCmp_before _ _ _ _ _ _ h12, cmpAt_readCmp_same, hlevel]
  · rw [cmpAt_readCmp_same, comparator_high _ hafter]

/-- A sequencer's view of an unmonitored input after a slot with pulse p: judged where the samples around the windows show ON (R167). -/
def viewAfterSlot (c : Image) (o : InSlot) (p : PlacedPulse) (q : SeqIn) : SeqIn :=
  if cmpAt (slotRead c o q) o.before.tb && cmpAt (slotRead c o q) o.after.tb
  then judgeSlot (forgetCmps (slotRead c o q) o.after.tb) p.slot (cmpAt (slotRead c o q) o.low.tb)
  else forgetCmps (slotRead c o q) o.after.tb

theorem slotOfInput_unmonitored {s : State} {c : Image} {i : Nat} {p : PlacedPulse} {o : InSlot} (hch : channelHere s c o.ch isSafeIn)
    (hsrc : chanSrc c o.ch = some i) (huse : chanUse c o.ch = 1) (hactive : (srcAt s i).st = .active) (hbad : sourceBad s c o.ch = false)
    (hp : endedPulse s c i = some p) : slotOfInput s o = modSeq s o.lane o.ch (viewAfterSlot c o p) := by
  obtain ⟨-, -, -, -, -, -, -, -, hin, -⟩ := id hch
  simp only [slotOfInput, seqCfg_of_here hch o.lane, seqOn_of_here hch o.lane, Option.bind_some, hsrc, hp, hin, hactive, hbad, huse]
  exact congrArg (modSeq s o.lane o.ch) (funext fun q => by simp [viewAfterSlot, slotRead, showsOn])

/-- A slot that shows ON around the pulse windows is judged by the reading in the pulse (R167). -/
theorem viewAfterSlot_judged {c : Image} {o : InSlot} (p : PlacedPulse) {q : SeqIn} (hbefore : cmpAt (slotRead c o q) o.before.tb = true)
    (hafter : cmpAt (slotRead c o q) o.after.tb = true) :
    (viewAfterSlot c o p q).judged = ((p.slot, cmpAt (slotRead c o q) o.low.tb) :: q.judged).take 48 := by
  rw [viewAfterSlot, if_pos (by simp [hbefore, hafter]), judgeSlot_judged, ← slotRead_judged c o q]
  rfl

/-! ### The pulse of a slot -/

/-- The pulse that FA places on source i in slot n (R162 to R164). -/
def pulseOf (s : State) (c : Image) (i n : Nat) (r : SrcRec) : PlacedPulse :=
  ⟨n, codeBit (codeOf c i) (n % 24),
    s.lan.fstart + BitVec.ofNat 64 (r.slotDiv * tfTicks s * (if codeBit (codeOf c i) (n % 24) then 1 else 3) / 4), r.width * 100⟩

/-- A source on which a pulse has been placed. -/
def withPulse (p : PlacedPulse) (k : SrcSt) : SrcSt := { k with placed := some p }

/-- Where a slot begins on a source that is on, its pulse is placed (R164). -/
theorem placePulse_places {s : State} {c : Image} {i n : Nat} {r : SrcRec} (hslot : slotBegins s c i = some n) (hr : ownSrc c i = some r)
    (hon : sourceOn s i = true) : placePulse c s i = modSrc s i (withPulse (pulseOf s c i n r)) := by
  simp only [placePulse, hslot, hr, hon, if_true]; rfl

/-- All that placing a source's pulse can do to the state (R164). -/
theorem placePulse_cases (c : Image) (s : State) (i : Nat) : placePulse c s i = s ∨ ∃ p, placePulse c s i = modSrc s i (withPulse p) := by
  cases hslot : slotBegins s c i with
  | none => exact .inl (by simp [placePulse, hslot])
  | some n =>
    cases hr : ownSrc c i with
    | none => exact .inl (by simp [placePulse, hslot, hr])
    | some r =>
      cases hon : sourceOn s i with
      | false => exact .inl (by simp [placePulse, hslot, hr, hon])
      | true => exact .inr ⟨_, placePulse_places hslot hr hon⟩

/-- The pulses placed at a slot boundary change neither a source's state nor what a sequencer sees of an input. -/
theorem placePulses_keep (c : Image) (l : List Nat) (s : State) :
    (∀ i, (srcAt (l.foldl (placePulse c) s) i).st = (srcAt s i).st) ∧ (∀ k ch, seqAt (l.foldl (placePulse c) s) k ch = seqAt s k ch) := by
  refine ⟨fun i => foldl_keeps (fun t => (srcAt t i).st) (fun t j => ?_) l s, fun k ch => foldl_keeps (fun t => seqAt t k ch) (fun t j => ?_) l s⟩
  · obtain h | ⟨p, h⟩ := placePulse_cases c t j
    · rw [h]
    · rw [h]; exact srcAt_modSrc_keeps SrcSt.st (g := withPulse _) (fun _ => rfl) t j i
  · obtain h | ⟨p, h⟩ := placePulse_cases c t j
    · rw [h]
    · rw [h, seqAt_modSrc]

/-- The pulse of one source leaves what that of another depends on: the frame in hand, the converter of FA and the other source (R164). -/
theorem placePulse_other (c : Image) (s : State) {i j : Nat} (h : j ≠ i) :
    (placePulse c s j).lan = s.lan ∧ (placePulse c s j).sys = s.sys ∧ srcAt (placePulse c s j) i = srcAt s i ∧
    (placePulse c s j).fld.srcs.length = s.fld.srcs.length := by
  obtain hp | ⟨p, hp⟩ := placePulse_cases c s j
  · rw [hp]; exact ⟨rfl, rfl, rfl, rfl⟩
  · rw [hp]; exact ⟨by simp, by simp, srcAt_modSrc_ne s h _, srcs_length_modSrc s j _⟩

theorem placePulses_other (c : Image) {i : Nat} (l : List Nat) (hl : i ∉ l) (s : State) : srcAt (l.foldl (placePulse c) s) i = srcAt s i := by
  induction l generalizing s with
  | nil => rfl
  | cons j l ih =>
    obtain ⟨hne, hl⟩ := not_or.mp (fun h => hl (List.mem_cons.mpr h))
    obtain ⟨-, -, hsrc, -⟩ := placePulse_other c s (Ne.symm hne)
    exact (ih hl _).trans hsrc

/-- Over distinct sources, each pulse is the one of its own source. -/
theorem placePulses_places {c : Image} {i n : Nat} {r : SrcRec} (hr : ownSrc c i = some r) (l : List Nat) (hl : l.Nodup) (s : State)
    (hi : i < s.fld.srcs.length) (hslot : slotBegins s c i = some n) (hon : sourceOn s i = true) (hmem : i ∈ l) :
    (srcAt (l.foldl (placePulse c) s) i).placed = some (pulseOf s c i n r) := by
  induction l generalizing s with
  | nil => exact absurd hmem List.not_mem_nil
  | cons j l ih =>
    obtain ⟨hj, hl⟩ := List.nodup_cons.mp hl
    rw [List.foldl_cons]
    by_cases hji : j = i
    · subst hji
      rw [placePulses_other c l hj, placePulse_places hslot hr hon, srcAt_modSrc_same hi]
      rfl
    · obtain ⟨hlan, hsys, hsrc, hlen⟩ := placePulse_other c s hji
      have hpulse : pulseOf (placePulse c s j) c i n r = pulseOf s c i n r := by simp only [pulseOf, tfTicks, hlan]
      rw [← hpulse]
      refine ih hl _ (hlen ▸ hi) ?_ ?_ ((List.mem_cons.mp hmem).resolve_left (Ne.symm hji))
      · simpa only [slotBegins, hlan] using hslot
      · simpa only [sourceOn, hsys, hsrc] using hon

end Sys2Proof.Machine

/-! Test-pulse sources, as O21 states them. -/
namespace Sys2Proof.Machine

/-! ### A slot of a source -/

/-- A test-pulse slot of a module whose lanes run: the inputs' judgement, the sources' and the next pulses (R164). -/
theorem testPulseSlotEffect_runs {s : State} {c : Image} (hseq : seqCfg s .a = some c) (hgo : s.lan.halted = false) (srcs : List SrcSlot)
    (ins : List InSlot) : testPulseSlotEffect srcs ins s = (List.range (nSrcOf s.sys.variant)).foldl (placePulse c)
      (srcs.foldl (fun t o => match endedPulse s c o.src with
        | some p => slotOfSource t p o
        | none => t) (ins.foldl slotOfInput s)) := by
  rw [testPulseSlotEffect, hseq]
  exact if_neg (by simp [hgo])

/-- The slot of an input whose samples lie beyond every threshold, ON around the windows, is judged by the level in the pulse (R167). -/
theorem testPulseSlot_judges {s : State} {l : Lane} {c : Image} {ch i : Nat} {p : PlacedPulse} {low : Int} {t0 t1 t2 : BitVec 64}
    (hch : channelHere s c ch isSafeIn) (h01 : t0.toNat < t1.toNat) (h12 : t1.toNat < t2.toNat) (hsrc : chanSrc c ch = some i)
    (huse : chanUse c ch = 1) (hactive : (srcAt s i).st = .active) (hbad : sourceBad s c ch = false) (hgo : s.lan.halted = false)
    (hp : endedPulse s c i = some p) (hlow : low ≤ 5000 ∨ 15000 ≤ low) :
    Completes (.testPulseSlot [] [⟨l, ch, ⟨t0, 24000, 0⟩, ⟨t1, low, 0⟩, ⟨t2, 24000, 0⟩⟩]) s (fun t =>
      (seqAt t l ch).judged = ((p.slot, decide (15000 ≤ low)) :: (seqAt s l ch).judged).take 48) := by
  have hhigh : (15000 : Int) ≤ 24000 := by decide
  obtain ⟨hbefore, hat, hafter⟩ := cmpAt_slotRead (c := c) (o := ⟨l, ch, ⟨t0, 24000, 0⟩, ⟨t1, low, 0⟩, ⟨t2, 24000, 0⟩⟩) (seqAt s l ch) h01 h12
    hhigh hlow hhigh
  refine completes_finish rfl hch.1 ?_
  rw [seqAt_flush, testPulseSlotEffect_runs (seqCfg_of_here hch .a) hgo, (placePulses_keep c _ _).2, List.foldl_nil, List.foldl_cons, List.foldl_nil,
    slotOfInput_unmonitored hch hsrc huse hactive hbad hp, seqAt_modSeq_here hch, viewAfterSlot_judged p hbefore hafter, hat]

/-- A source that faults in a slot or by overload is faulted and switched off (R165). -/
theorem faultSource_faults {s : State} {i : Nat} (hi : i < s.fld.srcs.length) :
    (srcAt (faultSource s i) i).st = .faulted ∧ (srcAt (faultSource s i) i).stopped = true := by
  have h : srcAt (faultSource s i) i = freshSource .faulted true (srcAt s i) := by
    unfold faultSource; dsimp only; split
    · exact srcAt_modSrc_same hi _
    · exact (srcAt_raise _ _ _ _ _ _).trans (srcAt_modSrc_same hi _)
  rw [h]; exact ⟨rfl, rfl⟩

theorem onlyTouches_faultSource (s : State) (i : Nat) : onlyTouches [.evt, .mail, .fld] s (faultSource s i) := by
  have hmod : onlyTouches [.evt, .mail, .fld] s (modSrc s i (freshSource .faulted true)) := (onlyTouches_modSrc s i _).mono (by simp)
  unfold faultSource; dsimp only; split
  · exact hmod
  · exact hmod.trans ((onlyTouches_raise _ _ _ _ _).mono (by simp))

section
variable {s : State} {p : PlacedPulse} {o : SrcSlot} (hi : o.src < s.fld.srcs.length)
include hi

/-- After one slot error in FA's last slots and none in FB's, a slot error that FA sees is FA's second, and one that FB alone sees its first (R165). -/
theorem slotOfSource_second (hon : seqOn s .a = true) (hst : (srcAt s o.src).st = .active)
    (hA : (srcAt s o.src).errA = [true]) (hB : (srcAt s o.src).errB = [false]) :
    (srcAt (slotOfSource s p o) o.src).st = if slotError s o.src p o.a then .faulted else .active := by
  have htwoA : twoErrors (((seqOn s .a && slotError s o.src p o.a) :: (srcAt s o.src).errA).take 24) = slotError s o.src p o.a := by
    rw [hon, hA]; cases slotError s o.src p o.a <;> rfl
  have htwoB : twoErrors (((seqOn s .b && slotError s o.src p o.b) :: (srcAt s o.src).errB).take 24) = false := by
    rw [hB]; cases seqOn s .b && slotError s o.src p o.b <;> rfl
  unfold slotOfSource; dsimp only
  rw [hst]; dsimp only
  rw [htwoA, htwoB, Bool.or_false]
  split
  · exact (faultSource_faults hi).1
  · rw [srcAt_modSrc_same hi]; exact hst

/-- The 24th good slot in a row after a restart puts the source back (R165). -/
theorem slotOfSource_restored (hst : (srcAt s o.src).st = .faulted) (hrun : (srcAt s o.src).stopped = false)
    (hgood : (srcAt s o.src).good = 23) (hA : slotError s o.src p o.a = false) (hB : slotError s o.src p o.b = false) :
    (srcAt (slotOfSource s p o) o.src).st = .active := by
  have heffect : slotOfSource s p o = raise (modSrc s o.src (freshSource .active false)) (102 + o.src / 4) o.src 0 0 := by
    simp [slotOfSource, hst, hrun, hgood, hA, hB]
  rw [heffect, srcAt_raise, srcAt_modSrc_same hi]; rfl

end

/-! ### Commands of a source -/

/-- Every variant has at most 24 sources (R1). -/
theorem src_exists {s : State} {i : Nat} (hi : i < nSrcOf s.sys.variant) (hsrcs : s.fld.srcs.length = 24) : i < s.fld.srcs.length := by
  unfold nSrcOf at hi; split at hi <;> omega

section
variable {s : State} {c : Image} {i : Nat} (hs : awake s = true)
include hs

theorem sourceOverload_completes (hi : i < nSrcOf s.sys.variant) (hlen : i < s.fld.srcs.length) (hon : sourceOn s i = true) :
    Completes (.sourceOverload i) s (fun t =>
      (srcAt t i).st = .faulted ∧ (srcAt t i).stopped = true ∧ onlyTouches [.evt, .mail, .fld] s t) := by
  have heffect : sourceOverloadEffect i s = faultSource s i := if_pos (by simp [hon, hi])
  obtain ⟨hst, hstop⟩ := faultSource_faults hlen
  refine completes_finish rfl hs ?_
  rw [heffect, srcAt_flush]
  exact ⟨hst, hstop, (onlyTouches_faultSource s i).flush (by simp)⟩

theorem sourceRestart_completes (hcfg : s.cfg = some c) (hlen : i < s.fld.srcs.length) (hst : (srcAt s i).st = .faulted)
    (hstop : (srcAt s i).stopped = true) (hconv : s.sys.convA = true) (hrec : (ownSrc c i).isSome = true) :
    Completes (.sourceRestart i) s (fun t => (srcAt t i).st = .faulted ∧ (srcAt t i).stopped = false ∧ (srcAt t i).good = 0) := by
  have heffect : sourceRestartEffect i s = modSrc s i (freshSource .faulted false) := if_pos (by simp [hst, hstop, seqOn, hconv, hcfg, hrec])
  refine completes_finish rfl hs ?_
  rw [heffect, srcAt_flush, srcAt_modSrc_same hlen]
  exact ⟨rfl, rfl, rfl⟩

theorem sourceCheck_completes {r : SrcRec} (hcfg : s.cfg = some c) (hi : i < nSrcOf s.sys.variant) (hlen : i < s.fld.srcs.length) (a b : TermObs)
    (hst : (srcAt s i).st = .untested) (hbank : bankGood (bankAt s (i / 4)) = true) (hr : ownSrc c i = some r) (hconv : s.sys.convA = true) :
    Completes (.sourceCheck i a b) s (fun t =>
      (srcAt t i).st = if checkBad s i (r.width * 100) a || checkBad s i (r.width * 100) b then .faulted else .active) := by
  have heffect : sourceCheckEffect i a b s = checkedSource s (r.width * 100) ⟨i, a, b⟩ := by
    simp [sourceCheckEffect, hi, hbank, seqOn, hconv, hcfg, hr, hst]
  refine completes_finish rfl hs ?_
  rw [heffect, srcAt_flush, checkedSource]; dsimp only
  split
  · exact (faultSource_faults hlen).1
  · rw [srcAt_modSrc_same hlen]; rfl

/-- The slot that ends leaves a source in the state of its judgement (R165). -/
theorem testPulseSlot_source {p : PlacedPulse} {o : SrcSlot} {st : SrcState} (hseq : seqCfg s .a = some c) (hgo : s.lan.halted = false)
    (hp : endedPulse s c o.src = some p) (hst : (srcAt (slotOfSource s p o) o.src).st = st) :
    Completes (.testPulseSlot [o] []) s (fun t => (srcAt t o.src).st = st) := by
  refine completes_finish rfl hs ?_
  rw [srcAt_flush, testPulseSlotEffect_runs hseq hgo, (placePulses_keep c _ _).1]
  simpa [hp] using hst

theorem testPulseSlot_places {n : Nat} {r : SrcRec} (hseq : seqCfg s .a = some c) (hgo : s.lan.halted = false) (hi : i < nSrcOf s.sys.variant)
    (hlen : i < s.fld.srcs.length) (hslot : slotBegins s c i = some n) (hr : ownSrc c i = some r) (hon : sourceOn s i = true) :
    Completes (.testPulseSlot [] []) s (fun t => (srcAt t i).placed = some (pulseOf s c i n r)) := by
  refine completes_finish rfl hs ?_
  rw [srcAt_flush, testPulseSlotEffect_runs hseq hgo]
  exact placePulses_places hr _ List.nodup_range s hlen hslot hon (List.mem_range.mpr hi)

end

/-- A source without a record is never restarted (R151). -/
theorem sourceRestart_unrecorded {s : State} {c : Image} {i : Nat} (hcfg : s.cfg = some c) (hnone : ownSrc c i = none) (hev : eventsPlaced s) :
    exec (.sourceRestart i) s = .next s :=
  exec_finish_idle rfl (by simp [sourceRestartEffect, hcfg, hnone]) hev

/-- The check of a source passes pulses of the width, low enough and under a level high enough, and no other (R165, R166). -/
theorem checkBad_cases {s : State} {i lo hi : Nat} (w : Nat) (late : Option Pulse) (hlo : lo ≤ 2000) (hhi : vlp (bankAt s (i / 4)) * 100 ≤ hi + 1000) :
    checkBad s i w ⟨some ⟨w, lo⟩, some ⟨w, lo⟩, hi⟩ = false ∧ checkBad s i w ⟨none, late, hi⟩ = true ∧
    checkBad s i w ⟨some ⟨w + 2001, lo⟩, late, hi⟩ = true ∧ checkBad s i w ⟨late, some ⟨w, 2001⟩, hi⟩ = true := by
  refine ⟨?_, ?_, ?_, ?_⟩
  · simp [checkBad, pulseBad, highBad, hlo, hhi]
  · simp [checkBad]
  · simp [checkBad, pulseBad]
  · simp [checkBad, pulseBad]

/-- Settles O21: the comparator's clauses rest on the bounds of its thresholds, each other clause is the lemma of its command. -/
theorem inputAndSourceCommands : Obligations.InputAndSourceCommands := by
  refine ⟨fun c l ch was mv => ⟨comparator_low was, comparator_high was, comparator_high_of_type was⟩,
    fun s l c ch hch hev => ⟨inputFilterAccept_exec hch hev, fun x raw => inputFilterAccept_completes hch hev, bandRunFault_unmonitored hch hev,
      fun x y huse hsrc hx hsx hsy hfilt hrun hnone => ⟨fun hy => ?wireBreak, fun hy => ?indeterminate⟩, fun x => bandRunFault_suspended hch hev,
      inputDisagree_completes hch, inputFaultClear_completes hch hev, fun i => codeCauseFinal_completes hch hev,
      fun i p low t0 t1 t2 => testPulseSlot_judges hch⟩,
    fun s c i hs hcfg hi hsrcs => ?sources⟩
  case wireBreak =>
    have hband := bandOf_break hy
    exact hband ▸ bandRunFault_completes hch hev huse hsrc hx hsx hsy hfilt hrun hnone (.inl hband)
  case indeterminate =>
    have hband := bandOf_between hy
    exact hband ▸ bandRunFault_completes hch hev huse hsrc hx hsx hsy hfilt hrun hnone (.inr hband)
  case sources =>
    have hlen := src_exists hi hsrcs
    refine ⟨sourceOverload_completes hs hi hlen, sourceRestart_completes hs hcfg hlen, sourceRestart_unrecorded hcfg,
      fun r a b => sourceCheck_completes hs hcfg hi hlen a b, fun w lo hi late => checkBad_cases w late, fun htimer hpar hgo hconvA _ => ?_⟩
    have hseq : seqCfg s .a = some c := (if_pos htimer).trans hpar
    refine ⟨fun p a b hp hst hA hB => ?second, fun p a b hp hst hrun hgood hA hB => ?restored, fun n r => testPulseSlot_places hs hseq hgo hi hlen⟩
    case second => exact testPulseSlot_source (o := ⟨i, a, b⟩) hs hseq hgo hp (slotOfSource_second hlen hconvA hst hA hB)
    case restored => exact testPulseSlot_source (o := ⟨i, a, b⟩) hs hseq hgo hp (slotOfSource_restored hlen hst hrun hgood hA hB)

end Sys2Proof.Machine
